-- ==== Sys2Proof/Word.lean ====
section
/-! DEFINITION. The words of the wire and the plain arithmetic of section 1.6.2 of spec/00_scope.md.
Values the manual only counts or measures are Nat or Int; what it moves as bits is a BitVec. -/

namespace Sys2Proof

/-- One byte of a frame (R147). -/
abbrev Byte := BitVec 8

/-- A field of two bytes (R172). -/
abbrev Half := BitVec 16

/-- A field of four bytes, and the count of part time seconds (section 1.6.3 of spec/00_scope.md). -/
abbrev Word := BitVec 32

/-- Client port P0, P1 or P2 (chapter 8). -/
abbrev PortId := Fin 3

/-- Sensor channel 0 to 15 (R1). -/
abbrev ChanId := Fin 16

/-- Lighting group LG0 to LG15 (R125). -/
abbrev GroupId := Fin 16

/-- Compressor C1 (0) or C2 (1) (R87). -/
abbrev CompId := Fin 2

/-- One conversion of the sixteen inputs, 12 bits each (R4). -/
abbrev Samples := Vector (BitVec 12) 16

/-- "Clamp(x, lo, hi)" of section 1.6.2, over signed values. -/
def clampInt (x lo hi : Int) : Int := if x < lo then lo else if hi < x then hi else x

/-- "Clamp(x, lo, hi)" of section 1.6.2, over counts. -/
def clampNat (x lo hi : Nat) : Nat := if x < lo then lo else if hi < x then hi else x

end Sys2Proof
end

