-- ==== Sys2Proof/Syntax.lean ====
section
/-! DEFINITION. The commands of the part: one constructor per row of spec/opcode_table.json.
A request of a master names its port and carries the fields of its frame as the frame codes them
(Table 11-2 of spec/11_item_directory_and_wire_layouts.md); an event carries the levels its inputs bring. -/

namespace Sys2Proof

/-- The commands, in the order of spec/opcode_table.json. -/
inductive Instr where
  /-- POWER_ON (R170): the strap codes 2 × A + B of the three ports. -/
  | powerOn (strap0 strap1 strap2 : BitVec 2)
  /-- RECEIVE_BYTE (R148): eight data bits, the parity bit and the stop bit as found (R147). -/
  | receiveByte (port : PortId) (data : Byte) (parity stop : Bool)
  /-- LINE_QUIET_EXPIRY (R148): a gap of more than 30 bit times on the port's line. -/
  | lineQuietExpiry (port : PortId)
  /-- REPLY_SENT (R150): the end of the last stop bit of the port's reply. -/
  | replySent (port : PortId)
  /-- UNKNOWN_REQUEST (R152): a frame with a code outside the request codes. -/
  | unknownRequest (port : PortId) (code : Byte) (payload : List Byte)
  /-- STATUS (R166). -/
  | status (port : PortId)
  /-- READ_ITEMS (R154). -/
  | readItems (port : PortId) (itemClass first count : Byte)
  /-- WRITE_ITEM of class CHANNEL (R2). -/
  | writeItemChannel (port : PortId) (index kind zone : Byte)
  /-- WRITE_ITEM of class WATCH (R19). -/
  | writeItemWatch (port : PortId) (index source direction : Byte) (threshold hysteresis : Half) (action : Byte)
  /-- WRITE_ITEM of class CLIMATE_CFG (R26): the eighteen fields. -/
  | writeItemClimateCfg (port : PortId) (index : Byte) (fields : List Half)
  /-- WRITE_ITEM of class CONSUMER (R62): four draws for index 0, one draw otherwise. -/
  | writeItemConsumer (port : PortId) (index : Byte) (draws : List Half)
  /-- WRITE_ITEM of class ALLOWANCE (R60). -/
  | writeItemAllowance (port : PortId) (index : Byte) (allowance : Half)
  /-- WRITE_ITEM of class COMPRESSOR (R88). -/
  | writeItemCompressor (port : PortId) (index : Byte) (minOff minOn : Half) (startLimit : Byte)
  /-- WRITE_ITEM of class LIMITS (R80). -/
  | writeItemLimits (port : PortId) (index : Byte) (sHiCap startCap minOffFloor purgeFloor : Half)
  /-- WRITE_ITEM of class COVER_CFG (R108): the eight fields. -/
  | writeItemCoverCfg (port : PortId) (index : Byte) (fields : List Half)
  /-- WRITE_ITEM of class GROUP (R126). -/
  | writeItemGroup (port : PortId) (index : Byte) (load floor : Half)
  /-- WRITE_ITEM of class SCENE (R129, Table 11-9): the flags byte, fade time, mode set and the counted pairs. -/
  | writeItemScene (port : PortId) (index flags : Byte) (fade : Half) (modes : Byte) (pairs : List (Byte × Half))
  /-- WRITE_ITEM of an unknown class, a read-only class, or a class the sender does not own (R153). -/
  | writeItemReadOnly (port : PortId) (itemClass index : Byte) (rest : List Byte)
  /-- SET_MODE with target HALL, or with a target that is neither HALL nor START (R49). -/
  | setModeHall (port : PortId) (mode target : Byte)
  /-- SET_MODE with target START (R50). -/
  | setModeStart (port : PortId) (mode : Byte)
  /-- REPORT_WATER (R33). -/
  | reportWater (port : PortId) (temperature : Half)
  /-- REPORT_COVER (R104). -/
  | reportCover (port : PortId) (report : Byte)
  /-- ASK_COVER_OPEN (R119). -/
  | askCoverOpen (port : PortId)
  /-- RECALL with target LAYER, or with a target RECALL does not know (R132, R152). -/
  | recallLayer (port : PortId) (scene target : Byte)
  /-- RECALL with target START (R136). -/
  | recallStart (port : PortId) (scene : Byte)
  /-- RECALL with target SAFETY (R136). -/
  | recallSafety (port : PortId) (scene : Byte)
  /-- RELEASE (R133). -/
  | release (port : PortId)
  /-- TAKE_NOTICES (R163). -/
  | takeNotices (port : PortId)
  /-- SET_ACCEPTANCE (R164): code k of the acceptance set is bit k. -/
  | setAcceptance (port : PortId) (acceptance : BitVec 64) (code1 : Byte) (subject1 : Half) (code2 : Byte)
      (subject2 : Half) (threshold : Byte) (silence : Half)
  /-- CLEAR_WATCH (R23). -/
  | clearWatch (port : PortId) (watch : Byte)
  /-- ZERO_SEARCH (R12). -/
  | zeroSearch (port : PortId) (channel : Byte)
  /-- The expiry of the zero search's step timer, with the comparator's report (R14). -/
  | zeroSearchStep (above : Bool)
  /-- GAIN_CORRECT (R18). -/
  | gainCorrect (port : PortId) (channel : Byte) (error : Half)
  /-- CLEAR_COUNTERS (R83). -/
  | clearCounters (port : PortId)
  /-- STORE_SETTINGS (R169). -/
  | storeSettings (port : PortId)
  /-- The end of a store (R169): bit k says that section k read back different. -/
  | storeCompletion (differing : BitVec 11)
  /-- RESTART (R155). -/
  | restart (port : PortId)
  /-- The expiry of a port's silence timer (R157). -/
  | silenceTimerExpiry (port : PortId)
  /-- The channel scan (R4). -/
  | channelScan (samples : Samples)
  /-- The channel scan at which this channel's rail count reaches 3 (R5). -/
  | channelFault (channel : ChanId) (samples : Samples)
  /-- The channel scan that takes this channel's third consecutive good sample in FAULT (R6). -/
  | channelRecover (channel : ChanId) (samples : Samples)
  /-- The channel scan at which this channel's settle count reaches 8 in SETTLING (R9). -/
  | channelValid (channel : ChanId) (samples : Samples)
  /-- The climate computation (R25). -/
  | climateComputation
  /-- The climate computation at which the heat blind counter reaches 30 (R42). -/
  | heatBlindDemand
  /-- The climate computation at which the moisture blind counter reaches 30 (R43). -/
  | moistureBlindDemand
  /-- The water record's second (R34). -/
  | waterAgeSecond
  /-- The water record's second at which the stale flag becomes set (R34). -/
  | waterStale
  /-- The allocation pass (R72). -/
  | allocationPass
  /-- The Equipment Sequencer's second (R97). -/
  | sequencerSecond
  /-- The expiry of a compressor's minimum off timer (R95). -/
  | minOffExpiry (compressor : CompId)
  /-- The expiry of a compressor's minimum on timer (R93). -/
  | minOnExpiry (compressor : CompId)
  /-- The expiry of the proof-loss timer (R96, R100). -/
  | proofLossExpiry
  /-- The expiry of the proof-fail timer (R100). -/
  | proofFailExpiry
  /-- The accepted activation of INTERLOCK (R102). -/
  | interlockOn
  /-- The accepted deactivation of INTERLOCK (R102). -/
  | interlockOff
  /-- The accepted change of COVER_LIMIT (R86). -/
  | coverLimitChange
  /-- The accepted activation of FAN_PROOF (R100). -/
  | fanProofActive
  /-- The accepted deactivation of FAN_PROOF (R100). -/
  | fanProofInactive
  /-- The Cover Ventilation Programme's second (R109). -/
  | cvpSecond
  /-- The programme's second at which the mismatch count makes the derived state DISAGREE (R106). -/
  | mismatchCountExpiry
  /-- The programme's second at which the travel count makes the derived state DISAGREE (R106). -/
  | travelCountExpiry
  /-- The programme's second at which the settle time is met (R110). -/
  | settleTimeMet
  /-- The programme's second at which the counted purge time meets H (R113). -/
  | purgeComplete
  /-- The programme's second at which the rest time is met (R113). -/
  | restTimeMet
  /-- The programme's second at which the alert hold is met (R115). -/
  | alertHoldMet
  /-- The programme's second at which the pre-open time is met with no alert (R121). -/
  | preopenTimeMet
  /-- The programme's second at which the permission hold is met (R122). -/
  | permissionHoldMet
  /-- The programme's second at which the starve count reaches 4 (R112). -/
  | purgeStarved
  /-- The fade tick (R139). -/
  | fadeTick
  /-- The fade tick at which this group's fade reaches its duration (R139). -/
  | fadeComplete (group : GroupId)
  /-- One sample of the three discrete inputs, true for active (R85). -/
  | inputSample (coverLimit interlock fanProof : Bool)
  deriving DecidableEq, Repr

end Sys2Proof
end

