-- ==== Sys2Proof/Decode.lean ====
section
/-! DEFINITION. The commands that table words spell. No row of spec/opcode_table.json gives bits: the requests of the
masters are read from their frames by Sys2Proof.Machine.dispatch. -/

namespace Sys2Proof

/-- No word of the table spells a command. -/
def decodeTableWord (_nbits _w : Nat) : Option Instr := none

end Sys2Proof
end

