-- ==== Sys2Proof/Config.lean ====
section
/-! DEFINITION. What the manual fixes for every part (periods, saturations, the saturation table), and the free
values: what it leaves open is an opaque constant that no proof can evaluate (DESIGN CHOICE, log 6). -/

namespace Sys2Proof.Config

/-- Ticks of 10 ms in a second of part time (section 1.6.3 of spec/00_scope.md). -/
abbrev ticksPerSecond : Nat := 100

/-- Input sampling, 10 ms (R85). -/
abbrev samplePeriod : Nat := 1

/-- Fade tick, 100 ms (R139). -/
abbrev fadePeriod : Nat := 10

/-- One step of a zero search, 100 ms (R13). -/
abbrev searchPeriod : Nat := 10

/-- Channel scan and the work done at each second of part time (R4, R34, R97, R109). -/
abbrev secondPeriod : Nat := 100

/-- Allocation pass, 2 s (R72). -/
abbrev passPeriod : Nat := 200

/-- Climate computation, 10 s (R25). -/
abbrev computePeriod : Nat := 1000

/-- Proof-loss timer, 10 s (R100). -/
abbrev proofLossTicks : Nat := 1000

/-- Proof-fail timer, 30 s (R100). -/
abbrev proofFailTicks : Nat := 3000

/-- The longest a store takes, 500 ms (R169). -/
abbrev storeTicks : Nat := 50

/-- The age at which a start leaves the start history, in seconds (R90). -/
abbrev historySeconds : Nat := 3600

/-- The largest value of an unsigned 32-bit count (R82, R97). -/
abbrev maxCount32 : Nat := 4294967295

/-- Table 2-1: es_0 to es_24 in pascals, es_i at 2i degrees Celsius. -/
def saturation : List Nat :=
  [611, 706, 813, 935, 1073, 1228, 1403, 1599, 1818, 2064, 2339, 2645, 2985,
   3363, 3782, 4246, 4759, 5324, 5947, 6632, 7384, 8208, 9110, 10095, 11171]

/-- FREE (DESIGN CHOICE, log 6): the four bytes that stand for the recall time of an empty layer in a LAYER record (R131 gives
a recall time only to a layer that is not empty). First argument: the reading's number; second: the layer. -/
opaque emptyLayerTime : Nat → Nat → Word

/-- FREE (DESIGN CHOICE, log 6): the six bytes that stand for the fade record of a group with no fade (R125 gives them no code).
First argument: the reading's number; second: the group. -/
opaque noFadeBytes : Nat → Nat → BitVec 48

/-- FREE (DESIGN CHOICE, log 6): the next possible start of a start test that finds a start limit in force of 0 and so a full
history without an oldest entry (R92 forms it from the oldest entry). -/
opaque nextStartOfNone : Nat → Word

/-- FREE (DESIGN CHOICE, log 6): whether, at a warm restart that finds two other ports in service, the higher-numbered one is
answered first (R155 gives no order between them). -/
opaque higherPortFirst : Nat → Bool

end Sys2Proof.Config
end

