-- ==== Sys2Proof/Machine/Names.lean ====
section
/-! DEFINITION. The closed sets of names of the manual, one constructor each, in the order of the owner's list, so
that a name's position is its code where the owner gives none (R172). -/

namespace Sys2Proof.Machine

/-- What a channel's input measures (R1). -/
inductive Kind where
  | unused | airT | airRh | glazeT | outT | coverRh | airq
  deriving DecidableEq, Repr

/-- Channel status (R1). -/
inductive ChanStatus where
  | unused | settling | valid | fault | calibrating
  deriving DecidableEq, Repr

/-- Watch source (section 1.5 of spec/01_hall_air_measurement.md). -/
inductive WatchSource where
  | none | channel (n : ChanId) | hallT | hallDew | margin | dh | dd
  deriving DecidableEq, Repr

/-- Watch direction. -/
inductive Direction where
  | above | below
  deriving DecidableEq, Repr

/-- Watch action (R22). -/
inductive WatchAction where
  | none | alertPurge | forceDehum
  deriving DecidableEq, Repr

/-- Hall mode (R48). -/
inductive Mode where
  | hallOpen | night | preopen | service
  deriving DecidableEq, Repr

/-- Role of a port's master (R156; codes of section 11.5). -/
inductive Role where
  | building | pool | lighting | observer
  deriving DecidableEq, Repr

/-- Presence of a role (R157, R159). -/
inductive Presence where
  | present | absent | none
  deriving DecidableEq, Repr

/-- Receive state of a port (R148). -/
inductive RxState where
  | idle | receiving | discarding | serving | transmitting
  deriving DecidableEq, Repr

/-- Compressor state (section 5.4). -/
inductive CompState where
  | offLocked | offReady | runMin | run
  deriving DecidableEq, Repr

/-- Fan proof state (R100). -/
inductive ProofState where
  | proven | unproven | failed
  deriving DecidableEq, Repr

/-- The pool controller's last cover report (R104). -/
inductive Report where
  | coverOpen | moving | closed | unknown
  deriving DecidableEq, Repr

/-- Derived cover state (R105). -/
inductive Derived where
  | coverOpen | moving | closed | disagree
  deriving DecidableEq, Repr

/-- Programme state (Figure 6-1). -/
inductive Prog where
  | idle | settle | purge | rest | alert | preopen | released | disagree
  deriving DecidableEq, Repr

/-- Who began a pre-open purge (R107). -/
inductive Origin where
  | ask | mode
  deriving DecidableEq, Repr

/-- The four layers (section 7.3), BASE 0, SHOW 1, WORK 2, SAFETY 3. -/
inductive Layer where
  | base | showing | work | safety
  deriving DecidableEq, Repr

/-- Class in force of a consumer's request (R61, coded as section 11.3 says). -/
inductive ConsumerClass where
  | none | committed | protective | heating | lighting | comfort
  deriving DecidableEq, Repr

/-- Result codes of a reply (R151). -/
inductive Result where
  | ok | accepted | clamped | unknown | badLength | badItem | badValue | notPermitted | notInMode | busy
  | notApplicable
  deriving DecidableEq, Repr

/-- Event codes 1 to 31 (section 9.1.1), in order. -/
inductive Code where
  | watchTrip | watchClear | channelFault | channelRecover | calDone | calLimit | modeChanged | climateBlind
  | glazeSubst | condensation | compStart | compStop | startLimit | fanProofFail | shed | overCommit | interlockOn
  | interlockOff | coverState | coverDisagree | purgeStarved | coverRelease | coverReleaseLapsed
  | coverUnsanctioned | layerReleased | roleAbsent | rolePresent | storeDone | storeFailed | settingsDefaulted
  | limitsFault
  deriving DecidableEq, Repr

/-- Item classes 0 to 15 (Table 11-3). -/
inductive ItemClass where
  | channel | watch | climate | climateCfg | consumer | allowance | compressor | cover | coverCfg | group | scene
  | layer | port | counters | limits | mode
  deriving DecidableEq, Repr

end Sys2Proof.Machine
end

