-- ==== Sys2Proof/Machine/State.lean ====
section
/-! DEFINITION. The state of the part as plain data, block by block (section 1.3 of spec/00_scope.md), the reasons
a step can stop, and the state after reset. -/

namespace Sys2Proof.Machine

/-! ## Channel Scanner and Calibration Engine (chapter 1) -/

/-- The stored part of a channel record (R1, section 0 of the image). -/
structure ChannelCfg where
  kind : Kind
  zone : Nat
  trim : Nat
  gain : Nat
  deriving DecidableEq, Repr

/-- A channel record (R1). -/
structure Channel where
  cfg : ChannelCfg
  conflict : Bool
  status : ChanStatus
  raw : Nat
  fast : Int
  settled : Int
  window : List Int
  rail : Nat
  settle : Nat
  deriving DecidableEq, Repr

/-- The search record while a search runs (R13). `stepLeft` is the step timer in ticks. -/
structure Search where
  channel : ChanId
  trimBefore : Nat
  statusBefore : ChanStatus
  code : Nat
  bit : Nat
  stepLeft : Nat
  deriving DecidableEq, Repr

/-! ## Watch Unit (section 1.5) -/

/-- The stored part of a watch record. -/
structure WatchCfg where
  source : WatchSource
  direction : Direction
  threshold : Int
  hysteresis : Nat
  action : WatchAction
  deriving DecidableEq, Repr

/-- A watch record. `tripped` is its state: TRIPPED or CLEAR. -/
structure Watch where
  cfg : WatchCfg
  tripped : Bool
  latch : Bool
  lost : Bool
  deriving DecidableEq, Repr

/-! ## Climate Computer (chapter 2) -/

/-- The climate configuration (R26). -/
structure ClimateCfg where
  substituteDrop : Nat
  waterHold : Nat
  fallbackWater : Int
  dayOffset : Int
  nightOffset : Int
  sLo : Int
  sHi : Int
  serviceSetpoint : Int
  kp : Nat
  ki : Nat
  kc : Nat
  kl : Nat
  dayTarget : Nat
  nightTarget : Nat
  kr : Nat
  kg : Nat
  mSet : Nat
  slew : Nat
  deriving DecidableEq, Repr

/-- The water record (R33). -/
structure Water where
  reported : Option Int
  age : Nat
  stale : Bool
  deriving DecidableEq, Repr

/-- The climate record (R45). -/
structure Climate where
  th : Int
  tdh : Int
  rhMax : Nat
  tg : Int
  m : Int
  s : Int
  tw : Int
  i16 : Nat
  dh : Nat
  dd : Nat
  protective : Bool
  heatCount : Nat
  moistCount : Nat
  heatBlind : Bool
  moistBlind : Bool
  dewFloor : Bool
  glazeSubst : Bool
  condensation : Bool
  deriving DecidableEq, Repr

/-! ## Mode Controller (chapter 3) -/

/-- The mode record (R48). -/
structure ModeRec where
  mode : Mode
  previous : Mode
  changeTime : Word
  startMode : Mode
  deriving DecidableEq, Repr

/-! ## Plant Allocator (chapter 4) -/

/-- The runtime fields of a consumer record (R61). -/
structure Consumer where
  requested : Nat
  granted : Nat
  cls : ConsumerClass
  class2 : Nat
  held : Bool
  energyAcc : Nat
  energyCount : Nat
  deriving DecidableEq, Repr

/-- One field of the protection limits record with its complement (R80). -/
structure LimitPair where
  value : Half
  complement : Half
  deriving DecidableEq, Repr

/-- The stored draws: FAN levels 1 to 4, then C1, C2, H1, H2, H3, PF (R61). -/
structure Draws where
  fan : Vector Nat 4
  items : Vector Nat 6
  deriving DecidableEq, Repr

/-- The allowance record (R60), the consumer table (R61) and the protection limits record (R80), with the values in
force that a write, a pass or a power-on brought (R81) and the floor draw reported at the last pass (R67, R72). -/
structure Allocator where
  allowance : Nat
  committed : Nat
  remaining : Nat
  granted : Nat
  overCommit : Bool
  heatHeld : Bool
  dehumHeld : Bool
  lead : CompId
  count : Nat
  heaterReq : Vector Bool 3
  draws : Draws
  consumers : Vector Consumer 8
  limits : Vector LimitPair 4
  limitsFault : Bool
  inForce : Vector Half 4
  ltDraw : Nat
  deriving DecidableEq, Repr

/-! ## Equipment Sequencer (chapter 5) -/

/-- The stored part of a compressor record (R87). -/
structure CompCfg where
  minOff : Nat
  minOn : Nat
  startLimit : Nat
  deriving DecidableEq, Repr

/-- A compressor record (R87). The two timers hold the ticks left while they run. -/
structure Compressor where
  cfg : CompCfg
  state : CompState
  grant : Bool
  offTimer : Option Nat
  onTimer : Option Nat
  history : List Word
  blocked : Bool
  nextStart : Word
  runSeconds : Nat
  deriving DecidableEq, Repr

/-- A heater stage: its line and its stored grant (R98). -/
structure Heater where
  line : Bool
  grant : Bool
  deriving DecidableEq, Repr

/-- A debounced input: its debounced state and its change count (R85). -/
structure Debounced where
  active : Bool
  count : Nat
  deriving DecidableEq, Repr

/-- The Sequencer's records and lines. `interlockTicks` counts the time the interlock has been active. -/
structure Sequencer where
  comps : Vector Compressor 2
  heaters : Vector Heater 3
  fanLevel : Nat
  fanGrant : Nat
  pfLine : Bool
  pfGrant : Bool
  valve : Nat
  coverLimit : Debounced
  interlock : Debounced
  fanProof : Debounced
  proof : ProofState
  lossTimer : Option Nat
  failTimer : Option Nat
  interlockTicks : Nat
  deriving DecidableEq, Repr

/-! ## Cover Ventilation Programme (chapter 6) -/

/-- The cover configuration (R108). -/
structure CoverCfg where
  settleTime : Nat
  purgeHigh : Nat
  restLow : Nat
  cycleLimit : Nat
  preopenTime : Nat
  alertHold : Nat
  permissionHold : Nat
  travelLimit : Nat
  deriving DecidableEq, Repr

/-- The cover record (R104 to R107) and the cover configuration. -/
structure Cover where
  cfg : CoverCfg
  report : Report
  derived : Derived
  switchOnly : Bool
  mismatch : Nat
  travel : Nat
  prog : Prog
  elapsed : Nat
  counted : Nat
  preopenAcc : Nat
  origin : Option Origin
  cycles : Nat
  hold : Option Nat
  release : Bool
  starve : Nat
  starved : Bool
  deriving DecidableEq, Repr

/-! ## Scene Controller (chapter 7) -/

/-- A permitted-mode set (R128). -/
structure ModeSet where
  hallOpen : Bool
  night : Bool
  preopen : Bool
  service : Bool
  deriving DecidableEq, Repr

/-- A scene record (R128): group and level pairs in ascending order of group. -/
structure Scene where
  defined : Bool
  fade : Nat
  modes : ModeSet
  levels : List (Nat × Nat)
  deriving DecidableEq, Repr

/-- The stored part of a group record (R125). -/
structure GroupCfg where
  load : Nat
  floor : Nat
  deriving DecidableEq, Repr

/-- A fade in progress (R138). -/
structure Fade where
  start : Nat
  elapsed : Nat
  duration : Nat
  deriving DecidableEq, Repr

/-- A group record (R125). -/
structure Group where
  cfg : GroupCfg
  target : Nat
  source : Option Layer
  current : Nat
  fade : Option Fade
  applied : Nat
  deriving DecidableEq, Repr

/-- A layer that holds a scene (R131). -/
structure Standing where
  scene : Nat
  recallTime : Word
  deriving DecidableEq, Repr

/-- The layer list (R131); `none` is an empty layer. -/
structure Layers where
  base : Option Standing
  showing : Option Standing
  work : Option Standing
  safety : Option Standing
  deriving DecidableEq, Repr

/-- The Scene Controller's records and its cap record. -/
structure Lighting where
  groups : Vector Group 16
  scenes : Vector Scene 32
  layers : Layers
  startScene : Option Nat
  safetyScene : Nat
  grant : Nat
  capLimit : Nat
  appliedCap : Nat
  deriving DecidableEq, Repr

/-! ## Client Ports and Notice Unit (chapters 8 and 9) -/

/-- A notice record (R160). -/
structure Notice where
  code : Code
  subject : Nat
  value : Half
  pt : Word
  tick : Nat
  deriving DecidableEq, Repr

/-- A priority filter as its request field codes it (R161, Table 11-2): code 0 is a disabled filter. -/
structure Filter where
  code : Byte
  subject : Half
  deriving DecidableEq, Repr

/-- A port's notice store (chapter 9). -/
structure NoticeStore where
  acceptance : BitVec 64
  filter1 : Filter
  filter2 : Filter
  slot : Option Notice
  queue : List Notice
  drops : Nat
  threshold : Nat
  deriving DecidableEq, Repr

/-- A port record (R159) with its receiver and transmitter. `buffer` is the frame so far, `handed` the request its
owner has yet to take, `tx` the reply being sent, `overrun` a byte seen during service (R150), `idleAfter` that the
port enters IDLE after its reply (R155). -/
structure Port where
  strapped : Role
  role : Role
  clash : Bool
  presence : Presence
  silence : Nat
  silenceTimer : Option Nat
  rx : RxState
  buffer : List Byte
  handed : Option Instr
  tx : List Byte
  overrun : Bool
  idleAfter : Bool
  discards : Nat
  notices : NoticeStore
  deriving DecidableEq, Repr

/-! ## Settings Store (chapter 10) -/

/-- The eleven sections of the image (R168). -/
structure Settings where
  channels : Vector ChannelCfg 16
  watches : Vector WatchCfg 8
  climate : ClimateCfg
  draws : Draws
  allowance : Nat
  comps : Vector CompCfg 2
  cover : CoverCfg
  groups : Vector GroupCfg 16
  scenes : Vector Scene 32
  startMode : Mode
  startScene : Option Nat
  safetyScene : Nat
  silence : Vector Nat 3
  threshold : Vector Nat 3
  limits : Vector LimitPair 4
  deriving DecidableEq, Repr

/-- The store in progress and the image (R168, R169). `left` is what is left of the longest store, in ticks. -/
structure Store where
  busy : Bool
  port : PortId
  left : Nat
  marked : Bool
  image : Settings
  deriving DecidableEq, Repr

/-! ## Time Base and pins -/

/-- Ticks to the next expiry of each period (section 1.6.4 of spec/00_scope.md). -/
structure Timers where
  sample : Nat
  fade : Nat
  scan : Nat
  water : Nat
  sequencer : Nat
  cvp : Nat
  pass : Nat
  compute : Nat
  deriving DecidableEq, Repr

/-- The levels the input pins hold when no command brings new ones. The comparator's report and the outcome of a read-back
hold for their own commands alone, so an idle step always takes the held ones (DESIGN CHOICE, log 5). -/
structure Pins where
  coverLimit : Bool
  interlock : Bool
  fanProof : Bool
  samples : Samples
  above : Bool
  differing : BitVec 11
  deriving DecidableEq, Repr

/-- The whole part. `freeSeq` numbers free values (DESIGN CHOICE, log 6) and `pending` is the queue of waiting commands (DESIGN CHOICE, log 1). -/
structure State where
  pt : Word
  tick : Nat
  timers : Timers
  channels : Vector Channel 16
  search : Option Search
  watches : Vector Watch 8
  climateCfg : ClimateCfg
  water : Water
  climate : Climate
  mode : ModeRec
  alloc : Allocator
  seq : Sequencer
  cover : Cover
  light : Lighting
  ports : Vector Port 3
  restartPending : Option PortId
  store : Store
  pins : Pins
  freeSeq : Nat
  pending : List Instr
  deriving DecidableEq, Repr

/-! ## Outcomes -/

/-- Faults: none. A refused request is a reply (R151), a bad frame is counted (R149), and every command has a next
state, so the type has no constructor. -/
inductive Fault where
  deriving DecidableEq, Repr

/-- Refusals. -/
inductive Refusal where
  /-- A row of the command table without a meaning, raised by exec's arm alone; safe, since the run ends. No arm of
  this model raises it. -/
  | notModelled (mnemonic : String)
  deriving DecidableEq, Repr

/-! ## Reset (R170): a first power-on with no stored image (DESIGN CHOICE, log 3) -/

/-- Factory default of a stored channel setting (R11). -/
def ChannelCfg.factory : ChannelCfg := ⟨.unused, 0, 32, 32768⟩

/-- Factory default of a stored watch setting (R24). -/
def WatchCfg.factory : WatchCfg := ⟨.none, .above, 0, 0, .none⟩

/-- The defaults of R26. -/
def ClimateCfg.factory : ClimateCfg :=
  { substituteDrop := 80, waterHold := 1800, fallbackWater := 280, dayOffset := 15, nightOffset := 0, sLo := 260,
    sHi := 340, serviceSetpoint := 280, kp := 20, ki := 4, kc := 150, kl := 5, dayTarget := 550, nightTarget := 600,
    kr := 20, kg := 25, mSet := 30, slew := 100 }

/-- The defaults of R61. -/
def Draws.factory : Draws := ⟨#v[40, 90, 160, 260], #v[180, 180, 150, 150, 150, 30]⟩

/-- The defaults of R87. -/
def CompCfg.factory : CompCfg := ⟨300, 180, 6⟩

/-- The defaults of R108. -/
def CoverCfg.factory : CoverCfg := ⟨600, 900, 2700, 0, 1200, 600, 900, 600⟩

/-- An undefined scene (R128). -/
def Scene.undefined : Scene := ⟨false, 0, ⟨false, false, false, false⟩, []⟩

/-- The defaults of R80, each with its complement formed afresh. -/
def factoryLimits : Vector LimitPair 4 :=
  #v[⟨340, ~~~340⟩, ⟨6, ~~~6⟩, ⟨180, ~~~180⟩, ⟨300, ~~~300⟩]

/-- The factory defaults of all working settings (R170). -/
def Settings.factory : Settings :=
  { channels := Vector.replicate 16 ChannelCfg.factory
    watches := Vector.replicate 8 WatchCfg.factory
    climate := ClimateCfg.factory
    draws := Draws.factory
    allowance := 1200
    comps := Vector.replicate 2 CompCfg.factory
    cover := CoverCfg.factory
    groups := Vector.replicate 16 ⟨0, 0⟩
    scenes := Vector.replicate 32 Scene.undefined
    startMode := .hallOpen
    startScene := some 0
    safetyScene := 31
    silence := Vector.replicate 3 120
    threshold := Vector.replicate 3 1
    limits := factoryLimits }

/-- A port after the reset of R159 and R167, with its role's default acceptance set and the notices already filed. -/
def resetPort (role : Role) (acceptance : BitVec 64) (queue : List Notice) : Port :=
  { strapped := role, role := role, clash := false, presence := .present, silence := 120,
    silenceTimer := some 12000, rx := .idle, buffer := [], handed := none, tx := [], overrun := false,
    idleAfter := false, discards := 0,
    notices := { acceptance := acceptance, filter1 := ⟨0, 0⟩, filter2 := ⟨0, 0⟩, slot := none, queue := queue,
                 drops := 0, threshold := 1 } }

/-- The machine right after reset (R170): factory defaults, P0 BUILDING, P1 POOL, P2 LIGHTING (DESIGN CHOICE, log 3), the
SETTINGS_DEFAULTED of the start filed at P0, and an empty queue of commands. -/
def State.reset : State :=
  { pt := 0
    tick := 0
    timers := { sample := 1, fade := 10, scan := 100, water := 100, sequencer := 100, cvp := 100, pass := 200,
                compute := 1000 }
    channels := Vector.replicate 16
      { cfg := ChannelCfg.factory, conflict := false, status := .unused, raw := 0, fast := 0, settled := 0,
        window := [], rail := 0, settle := 0 }
    search := none
    watches := Vector.replicate 8 { cfg := WatchCfg.factory, tripped := false, latch := false, lost := false }
    climateCfg := ClimateCfg.factory
    water := { reported := none, age := 0, stale := true }
    climate :=
      { th := 0, tdh := 0, rhMax := 0, tg := 0, m := 0, s := 0, tw := 280, i16 := 0, dh := 0, dd := 0,
        protective := false, heatCount := 0, moistCount := 0, heatBlind := false, moistBlind := false,
        dewFloor := false, glazeSubst := false, condensation := false }
    mode := { mode := .hallOpen, previous := .hallOpen, changeTime := 0, startMode := .hallOpen }
    alloc :=
      { allowance := 1200, committed := 0, remaining := 0, granted := 0, overCommit := false, heatHeld := false,
        dehumHeld := false, lead := 0, count := 0, heaterReq := #v[false, false, false], draws := Draws.factory,
        consumers := Vector.replicate 8
          { requested := 0, granted := 0, cls := .none, class2 := 0, held := false, energyAcc := 0,
            energyCount := 0 },
        limits := factoryLimits, limitsFault := false, inForce := factoryLimits.map LimitPair.value, ltDraw := 0 }
    seq :=
      { comps := Vector.replicate 2
          { cfg := CompCfg.factory, state := .offLocked, grant := false, offTimer := some 30000, onTimer := none,
            history := [], blocked := false, nextStart := 0, runSeconds := 0 },
        heaters := Vector.replicate 3 ⟨false, false⟩, fanLevel := 0, fanGrant := 0, pfLine := false,
        pfGrant := false, valve := 0, coverLimit := ⟨false, 0⟩, interlock := ⟨false, 0⟩, fanProof := ⟨false, 0⟩,
        proof := .unproven, lossTimer := some 1000, failTimer := none, interlockTicks := 0 }
    cover :=
      { cfg := CoverCfg.factory, report := .unknown, derived := .coverOpen, switchOnly := true, mismatch := 0,
        travel := 0, prog := .idle, elapsed := 0, counted := 0, preopenAcc := 0, origin := none, cycles := 0,
        hold := none, release := false, starve := 0, starved := false }
    light :=
      { groups := Vector.replicate 16
          { cfg := ⟨0, 0⟩, target := 0, source := none, current := 0, fade := none, applied := 0 },
        scenes := Vector.replicate 32 Scene.undefined, layers := ⟨none, none, none, none⟩, startScene := some 0,
        safetyScene := 31, grant := 0, capLimit := 1000, appliedCap := 1000 }
    ports :=
      #v[resetPort .building 0xFFFFFFFE [⟨.settingsDefaulted, 0, 0, 0, 0⟩],
         resetPort .pool 0xDF80000 [],
         resetPort .lighting 0x2060080 []]
    restartPending := none
    store := { busy := false, port := 0, left := 0, marked := false, image := Settings.factory }
    pins := { coverLimit := false, interlock := false, fanProof := false, samples := Vector.replicate 16 2048,
              above := false, differing := 0 }
    freeSeq := 0
    pending := [] }

end Sys2Proof.Machine
end

