-- ==== Sys2Proof/Machine/Operands.lean ====
section
/-! DEFINITION. Field coding (R172): how the fields of frames and records are formed from bytes and back, and the
codes of the manual's names. -/

namespace Sys2Proof.Machine

/-! ## Bytes -/

/-- A field of two bytes, least significant byte first (R172). -/
def le2 (v : Half) : List Byte := [v.extractLsb' 0 8, v.extractLsb' 8 8]

/-- A field of four bytes, least significant byte first (R172). -/
def le4 (v : Word) : List Byte :=
  [v.extractLsb' 0 8, v.extractLsb' 8 8, v.extractLsb' 16 8, v.extractLsb' 24 8]

/-- A field of eight bytes, the first the least significant (the acceptance set of Table 11-2). -/
def le8 (v : BitVec 64) : List Byte :=
  [v.extractLsb' 0 8, v.extractLsb' 8 8, v.extractLsb' 16 8, v.extractLsb' 24 8, v.extractLsb' 32 8,
   v.extractLsb' 40 8, v.extractLsb' 48 8, v.extractLsb' 56 8]

/-- Two bytes read back as one field: the second is the more significant. -/
def half (lo hi : Byte) : Half := hi ++ lo

/-- A list of bytes read as two-byte fields; an odd byte at the end gives none. -/
def halves : List Byte → Option (List Half)
  | [] => some []
  | [_] => none
  | lo :: hi :: rest => (halves rest).map (half lo hi :: ·)

/-- One byte holding a small number. -/
def byteOf (n : Nat) : Byte := BitVec.ofNat 8 n

/-- Two bytes holding an unsigned number. -/
def natField (n : Nat) : List Byte := le2 (BitVec.ofNat 16 n)

/-- Two bytes holding a signed number (R172). -/
def intField (v : Int) : List Byte := le2 (BitVec.ofInt 16 v)

/-- A flag in a byte of its own (R172). -/
def flagByte (b : Bool) : Byte := if b then 1 else 0

/-- A flags byte: the list gives bit 0 first, unused bits 0 (R172). -/
def flagsByte (bits : List Bool) : Byte :=
  byteOf (bits.foldr (fun b acc => b.toNat + 2 * acc) 0)

/-- Bit k of a byte, as a flag. -/
def bitFlag (b : Byte) (k : Nat) : Bool := b.getLsbD k

/-! ## Lines and check bytes -/

/-- R147: an even number of ones among the eight data bits and the parity bit. -/
def parityGood (data : Byte) (parity : Bool) : Bool :=
  ((List.range 8).foldl (fun acc k => acc ^^ data.getLsbD k) parity) == false

/-- R147: the parity bit that makes the number of ones among data and parity bits even. -/
def parityBit (data : Byte) : Bool := (List.range 8).foldl (fun acc k => acc ^^ data.getLsbD k) false

/-- R147: one bit time of a driven line. -/
inductive LineBit where
  | start
  | data (one : Bool)
  | parity (one : Bool)
  | stop
  deriving DecidableEq, Repr

/-- R147: a byte on the line: the start bit, the data bits least significant first, even parity, the stop bit. -/
def lineBits (data : Byte) : List LineBit :=
  .start :: (List.range 8).map (fun k => .data (data.getLsbD k)) ++ [.parity (parityBit data), .stop]

/-- R147: a byte is received with an error when parity or stop bit is wrong. -/
def lineError (data : Byte) (parity stop : Bool) : Bool := !(parityGood data parity && stop)

/-- The sum of the bytes of a frame modulo 256. -/
def byteSum (bytes : List Byte) : Byte := bytes.foldl (· + ·) 0

/-- The check byte that makes the sum 0xFF modulo 256 (section 8.2, R151). -/
def checkByte (bytes : List Byte) : Byte := 0xFF - byteSum bytes

/-- The bytes of a request frame (Table 11-1). -/
def requestBytes (code : Byte) (payload : List Byte) : List Byte :=
  let body := 0xA7 :: code :: byteOf payload.length :: payload
  body ++ [checkByte body]

/-- The bytes of a reply frame (Table 11-1). -/
def replyBytes (code result : Byte) (payload : List Byte) : List Byte :=
  let body := 0x7A :: code :: result :: byteOf payload.length :: payload
  body ++ [checkByte body]

/-! ## Codes of names (R172 and the owners' tables) -/

/-- Channel kinds, UNUSED 0 to AIRQ 6. -/
def kindOf (b : Byte) : Option Kind :=
  match b.toNat with
  | 0 => some .unused | 1 => some .airT | 2 => some .airRh | 3 => some .glazeT | 4 => some .outT
  | 5 => some .coverRh | 6 => some .airq | _ => none

def kindCode : Kind → Nat
  | .unused => 0 | .airT => 1 | .airRh => 2 | .glazeT => 3 | .outT => 4 | .coverRh => 5 | .airq => 6

/-- Channel status, UNUSED 0 to CALIBRATING 4. -/
def statusCode : ChanStatus → Nat
  | .unused => 0 | .settling => 1 | .valid => 2 | .fault => 3 | .calibrating => 4

/-- Watch sources (section 11.3): NONE 0, CHANNEL n as n + 1, HALL_T 17 to DD 21. -/
def sourceOf (b : Byte) : Option WatchSource :=
  if h : 1 ≤ b.toNat ∧ b.toNat ≤ 16 then some (.channel ⟨b.toNat - 1, by omega⟩)
  else match b.toNat with
    | 0 => some .none | 17 => some .hallT | 18 => some .hallDew | 19 => some .margin | 20 => some .dh
    | 21 => some .dd | _ => none

def sourceCode : WatchSource → Nat
  | .none => 0 | .channel n => n.val + 1 | .hallT => 17 | .hallDew => 18 | .margin => 19 | .dh => 20 | .dd => 21

def directionOf (b : Byte) : Option Direction :=
  match b.toNat with | 0 => some .above | 1 => some .below | _ => none

def directionCode : Direction → Nat
  | .above => 0 | .below => 1

def actionOf (b : Byte) : Option WatchAction :=
  match b.toNat with | 0 => some .none | 1 => some .alertPurge | 2 => some .forceDehum | _ => none

def actionCode : WatchAction → Nat
  | .none => 0 | .alertPurge => 1 | .forceDehum => 2

/-- Mode codes (R48). -/
def modeOf (b : Byte) : Option Mode :=
  match b.toNat with
  | 0 => some .hallOpen | 1 => some .night | 2 => some .preopen | 3 => some .service | _ => none

def modeCode : Mode → Nat
  | .hallOpen => 0 | .night => 1 | .preopen => 2 | .service => 3

/-- Role codes: 2 × A + B of the straps (section 11.5). -/
def roleOf (strap : BitVec 2) : Role :=
  match strap.toNat with | 0 => .building | 1 => .pool | 2 => .lighting | _ => .observer

def roleCode : Role → Nat
  | .building => 0 | .pool => 1 | .lighting => 2 | .observer => 3

/-- Presence codes of the STATUS reply (Table 11-5). -/
def presenceCode : Presence → Nat
  | .present => 0 | .absent => 1 | .none => 2

def rxCode : RxState → Nat
  | .idle => 0 | .receiving => 1 | .discarding => 2 | .serving => 3 | .transmitting => 4

def compStateCode : CompState → Nat
  | .offLocked => 0 | .offReady => 1 | .runMin => 2 | .run => 3

def proofCode : ProofState → Nat
  | .proven => 0 | .unproven => 1 | .failed => 2

/-- Report codes (R104): a master may send 0 to 2. -/
def reportOf (b : Byte) : Option Report :=
  match b.toNat with | 0 => some .coverOpen | 1 => some .moving | 2 => some .closed | _ => none

def reportCode : Report → Nat
  | .coverOpen => 0 | .moving => 1 | .closed => 2 | .unknown => 3

def derivedCode : Derived → Nat
  | .coverOpen => 0 | .moving => 1 | .closed => 2 | .disagree => 3

/-- Programme state codes (Figure 6-1). -/
def progCode : Prog → Nat
  | .idle => 0 | .settle => 1 | .purge => 2 | .rest => 3 | .alert => 4 | .preopen => 5 | .released => 6
  | .disagree => 7

/-- Origin codes (R107): NONE is sent as 0xFF (R172). -/
def originCode : Option Origin → Nat
  | some .ask => 0 | some .mode => 1 | none => 0xFF

/-- Layer numbers (section 7.3). -/
def layerCode : Layer → Nat
  | .base => 0 | .showing => 1 | .work => 2 | .safety => 3

/-- A group's source layer (R125): NONE is the fifth name of its list (DEDUCED, log 10). -/
def sourceLayerCode : Option Layer → Nat
  | some l => layerCode l | none => 4

/-- Consumer classes in force (section 11.3): NONE 0, COMMITTED 1, and 2 to 5 as numbered. -/
def classCode : ConsumerClass → Nat
  | .none => 0 | .committed => 1 | .protective => 2 | .heating => 3 | .lighting => 4 | .comfort => 5

/-- Result codes (R151). -/
def resultCode : Result → Byte
  | .ok => 0x00 | .accepted => 0x01 | .clamped => 0x02 | .unknown => 0x10 | .badLength => 0x11 | .badItem => 0x12
  | .badValue => 0x13 | .notPermitted => 0x14 | .notInMode => 0x15 | .busy => 0x16 | .notApplicable => 0x17

/-- Event codes (section 9.1.1). -/
def eventCode : Code → Nat
  | .watchTrip => 1 | .watchClear => 2 | .channelFault => 3 | .channelRecover => 4 | .calDone => 5 | .calLimit => 6
  | .modeChanged => 7 | .climateBlind => 8 | .glazeSubst => 9 | .condensation => 10 | .compStart => 11
  | .compStop => 12 | .startLimit => 13 | .fanProofFail => 14 | .shed => 15 | .overCommit => 16
  | .interlockOn => 17 | .interlockOff => 18 | .coverState => 19 | .coverDisagree => 20 | .purgeStarved => 21
  | .coverRelease => 22 | .coverReleaseLapsed => 23 | .coverUnsanctioned => 24 | .layerReleased => 25
  | .roleAbsent => 26 | .rolePresent => 27 | .storeDone => 28 | .storeFailed => 29 | .settingsDefaulted => 30
  | .limitsFault => 31

/-! ## Record numbers -/

/-- A record number below n, from an index byte. -/
def indexBelow (n : Nat) (b : Byte) : Option (Fin n) :=
  if h : b.toNat < n then some ⟨b.toNat, h⟩ else none

/-- CLAMPED when something was clamped and OK otherwise. -/
def okOrClamped (clamped : Bool) : Result := if clamped then .clamped else .ok

end Sys2Proof.Machine
end

