-- ==== Sys2Proof/Machine/Ops.lean ====
section
/-! DEFINITION. The named operations that every block uses: updates of one record, the filing of notices
(R160 to R162), and the running of part time. -/

namespace Sys2Proof.Machine

/-! ## Updates of one record -/

def setChannel (n : ChanId) (c : Channel) (s : State) : State := { s with channels := s.channels.set n c }

def setWatch (i : Fin 8) (w : Watch) (s : State) : State := { s with watches := s.watches.set i w }

def setComp (i : CompId) (c : Compressor) (s : State) : State :=
  { s with seq := { s.seq with comps := s.seq.comps.set i c } }

def setPort (p : PortId) (q : Port) (s : State) : State := { s with ports := s.ports.set p q }

def modCover (f : Cover → Cover) (s : State) : State := { s with cover := f s.cover }

def modSeq (f : Sequencer → Sequencer) (s : State) : State := { s with seq := f s.seq }

def modLight (f : Lighting → Lighting) (s : State) : State := { s with light := f s.light }

def modAlloc (f : Allocator → Allocator) (s : State) : State := { s with alloc := f s.alloc }

/-! ## Notices (chapter 9) -/

/-- R161: the filter is enabled, the codes are equal and the subject condition is ANY or equal. -/
def filterMatches (f : Filter) (n : Notice) : Bool :=
  f.code.toNat != 0 && f.code.toNat == eventCode n.code && (f.subject == 0xFFFF || f.subject.toNat == n.subject)

/-- R162: join the queue at the newest end; a full queue first drops its oldest record. -/
def enqueue (n : Notice) (q : NoticeStore) : NoticeStore :=
  if 8 ≤ q.queue.length then
    { q with queue := q.queue.tail ++ [n], drops := if q.drops < 255 then q.drops + 1 else q.drops }
  else { q with queue := q.queue ++ [n] }

/-- R161: the filing of one notice at one port. -/
def fileNotice (n : Notice) (q : NoticeStore) : NoticeStore :=
  if filterMatches q.filter1 n || filterMatches q.filter2 n then
    match q.slot with
    | none => { q with slot := some n }
    | some _ => enqueue n q
  else if q.acceptance.getLsbD (eventCode n.code) then enqueue n q
  else q

/-- R160: post a notice, filed at each of the three ports, stamped with the part time. -/
def post (code : Code) (subject : Nat) (value : Int) (s : State) : State :=
  let n : Notice := ⟨code, subject, BitVec.ofInt 16 value, s.pt, s.tick⟩
  { s with ports := s.ports.map fun q => { q with notices := fileNotice n q.notices } }

/-! ## Part time -/

/-- A running timer with k ticks less; at 0 it is due. -/
def ageTimer (k : Nat) (t : Option Nat) : Option Nat := t.map (· - k)

/-- The periods with k ticks less. -/
def ageTimers (k : Nat) (t : Timers) : Timers :=
  { sample := t.sample - k, fade := t.fade - k, scan := t.scan - k, water := t.water - k,
    sequencer := t.sequencer - k, cvp := t.cvp - k, pass := t.pass - k, compute := t.compute - k }

/-- Part time runs on by k ticks of 10 ms (section 1.6.3 of spec/00_scope.md): the tick counts 0 to 99, PT counts
seconds, and every running timer has k ticks less. -/
def elapse (k : Nat) (s : State) : State :=
  if k = 0 then s else
  { s with
    pt := s.pt + BitVec.ofNat 32 ((s.tick + k) / Config.ticksPerSecond)
    tick := (s.tick + k) % Config.ticksPerSecond
    timers := ageTimers k s.timers
    search := s.search.map fun r => { r with stepLeft := r.stepLeft - k }
    seq := { s.seq with
      comps := s.seq.comps.map fun c =>
        { c with offTimer := ageTimer k c.offTimer, onTimer := ageTimer k c.onTimer }
      lossTimer := ageTimer k s.seq.lossTimer
      failTimer := ageTimer k s.seq.failTimer
      interlockTicks := if s.seq.interlock.active then s.seq.interlockTicks + k else s.seq.interlockTicks }
    ports := s.ports.map fun q => { q with silenceTimer := ageTimer k q.silenceTimer }
    store := { s.store with left := s.store.left - k } }

/-! ## Answers of an owner -/

/-- What an owner answers to a request: the result, and the payload of a taken one (R151). -/
structure Answer where
  result : Result
  payload : List Byte
  deriving DecidableEq, Repr

/-- An answer with no payload. -/
def answer (r : Result) : Answer := ⟨r, []⟩

/-- A request refused: nothing changes (R151). -/
def refuse (r : Result) (s : State) : State × Answer := (s, answer r)

end Sys2Proof.Machine
end

