-- ==== Sys2Proof/Machine/Flags.lean ====
section
/-! DEFINITION. What the part shows that is formed from its records: availability, the limits in force, draws,
outputs, remaining times. -/

namespace Sys2Proof.Machine

/-! ## Channels and watches -/

/-- R10: VALID, or CALIBRATING and VALID when its zero search began. -/
def available (s : State) (n : ChanId) : Bool :=
  match s.channels[n].status with
  | .valid => true
  | .calibrating =>
    match s.search with
    | some r => r.channel = n && r.statusBefore = .valid
    | none => false
  | _ => false

/-- R22: whether any ALERT_PURGE watch is TRIPPED. -/
def alertTripped (s : State) : Bool :=
  s.watches.toList.any fun w => w.tripped && w.cfg.action = .alertPurge

/-- R22: whether any FORCE_DEHUM watch is TRIPPED. -/
def forceTripped (s : State) : Bool :=
  s.watches.toList.any fun w => w.tripped && w.cfg.action = .forceDehum

/-- Whether a zero search runs on the channel. -/
def underSearch (s : State) (n : ChanId) : Bool :=
  match s.search with
  | some r => r.channel = n
  | none => false

/-! ## Protection limits in force (R80, R81) -/

/-- The built-in values of R80. -/
def builtinLimits : Vector Half 4 := #v[340, 4, 300, 600]

/-- The value of a limits field in force, as the last write, pass or power-on brought it (R80, R81). -/
def limitInForce (a : Allocator) (k : Fin 4) : Half := a.inForce[k]

/-- The S_hi cap in force, a temperature and so signed (R172, DEDUCED, log 11). -/
def sHiCap (s : State) : Int := (limitInForce s.alloc 0).toInt

/-- The start-limit cap in force. -/
def startCap (a : Allocator) : Nat := (limitInForce a 1).toNat

/-- The min-off floor in force, in seconds. -/
def minOffFloor (s : State) : Nat := (limitInForce s.alloc 2).toNat

/-- The purge high-time floor in force, in seconds. -/
def purgeFloor (s : State) : Nat := (limitInForce s.alloc 3).toNat

/-- R87: the start limit in force of a compressor. -/
def startLimit (a : Allocator) (c : Compressor) : Nat := min c.cfg.startLimit (startCap a)

/-- R108: the purge high time in force. -/
def purgeHighInForce (s : State) : Nat := max s.cover.cfg.purgeHigh (purgeFloor s)

/-! ## Compressors -/

/-- A compressor's line is on, and it is running, in RUN_MIN and RUN (R87). -/
def running (c : Compressor) : Bool := c.state = .runMin || c.state = .run

/-- The number of compressors running. -/
def runningCount (s : State) : Nat := (s.seq.comps.toList.filter running).length

/-- R90: the age of a start history entry in seconds. -/
def entryAge (pt e : Word) : Nat := (pt - e).toNat

/-- R90: the start history without the entries 3600 s old or older, removed from the oldest end. -/
def prune (pt : Word) (history : List Word) : List Word :=
  history.dropWhile fun e => Config.historySeconds ≤ entryAge pt e

/-! ## Lighting draws (R140, R141) -/

/-- One group's term of a draw, rounded down. -/
def drawDown (load level : Nat) : Nat := load * level / 1000

/-- One group's term of a draw, rounded up. -/
def drawUp (load level : Nat) : Nat := (load * level + 999) / 1000

/-- The sum of a term over the sixteen groups. -/
def sumGroups (l : Lighting) (term : Group → Nat) : Nat := (l.groups.toList.map term).sum

/-- The floor draw. -/
def floorDraw (l : Lighting) : Nat := sumGroups l fun g => drawDown g.cfg.load g.cfg.floor

/-- The above-floor request R. -/
def requestR (l : Lighting) : Nat := sumGroups l fun g => drawDown g.cfg.load (g.target - g.cfg.floor)

/-- The in-flight above-floor draw U. -/
def inFlightU (l : Lighting) : Nat := sumGroups l fun g => drawUp g.cfg.load (g.current - g.cfg.floor)

/-- The applied draw above the floors. -/
def appliedAbove (l : Lighting) : Nat := sumGroups l fun g => drawDown g.cfg.load (g.applied - g.cfg.floor)

/-- The applied lighting draw: floors and the applied draw above them. -/
def appliedLighting (l : Lighting) : Nat := floorDraw l + appliedAbove l

/-! ## Consumer draws (R61, R63) -/

/-- The draw of a fan level, 0 at level 0. -/
def fanDraw (d : Draws) (level : Nat) : Nat :=
  match level with
  | 0 => 0
  | 1 => d.fan[0]
  | 2 => d.fan[1]
  | 3 => d.fan[2]
  | _ => d.fan[3]

/-- The configured draw of a compressor. -/
def compDraw (d : Draws) (c : CompId) : Nat := d.items[c.val]

/-- The configured draw of a heater stage. -/
def heaterDraw (d : Draws) (h : Fin 3) : Nat := d.items[h.val + 2]

/-- The configured draw of the purge fan. -/
def pfDraw (d : Draws) : Nat := d.items[5]

/-- R63: the applied draw of the consumer with this index. -/
def appliedDraw (s : State) (k : Fin 8) : Nat :=
  let d := s.alloc.draws
  match k with
  | 0 => fanDraw d s.seq.fanLevel
  | 1 => if running s.seq.comps[0] then compDraw d 0 else 0
  | 2 => if running s.seq.comps[1] then compDraw d 1 else 0
  | 3 => if s.seq.heaters[0].line then heaterDraw d 0 else 0
  | 4 => if s.seq.heaters[1].line then heaterDraw d 1 else 0
  | 5 => if s.seq.heaters[2].line then heaterDraw d 2 else 0
  | 6 => if s.seq.pfLine then pfDraw d else 0
  | 7 => appliedLighting s.light

/-- R63: whether a consumer runs: its applied draw is above 0, or for a compressor its run state. LT is left out of the
shed (R77). -/
def consumerRuns (s : State) (k : Fin 8) : Bool :=
  match k with
  | 1 => running s.seq.comps[0]
  | 2 => running s.seq.comps[1]
  | k => 0 < appliedDraw s k

/-! ## Outputs -/

/-- R165: the ATTN line of a port. -/
def attn (q : NoticeStore) : Bool := q.slot.isSome || q.threshold ≤ q.queue.length

/-- R99: the supply fan's analog output, 250 permille a level. -/
def fanOutput (s : State) : Nat := 250 * s.seq.fanLevel

/-- R44: the single blind flag. -/
def blind (c : Climate) : Bool := c.heatBlind || c.moistBlind

/-- R147: the transmitter drives the line only while the port sends a reply. -/
def txDriven (q : Port) : Bool := q.rx = .transmitting

/-- R147: what a port's transmitter sends while it drives the line, bit time by bit time; `none` is a released line. -/
def txdLine (q : Port) : Option (List LineBit) := if txDriven q then some (q.tx.flatMap lineBits) else none

/-! ## Remaining times -/

/-- A remaining time in whole seconds, rounded up (R87, R159). -/
def wholeSeconds (ticks : Nat) : Nat := (ticks + 99) / Config.ticksPerSecond

/-- R119: the remaining pre-open seconds. -/
def preopenRemaining (c : Cover) : Nat := c.cfg.preopenTime - c.preopenAcc

/-- R119: the remaining permission seconds. -/
def permissionRemaining (c : Cover) : Nat := c.cfg.permissionHold - c.elapsed

/-- R107: the remaining time of the present phase; `none` is "no end". -/
def remainingTime (s : State) : Option Nat :=
  let c := s.cover
  match c.prog with
  | .settle => some (c.cfg.settleTime - c.elapsed)
  | .purge => some (purgeHighInForce s - c.counted)
  | .rest =>
    if c.cfg.cycleLimit = 0 ∨ c.cycles < c.cfg.cycleLimit then some (c.cfg.restLow - c.elapsed) else none
  | .alert => c.hold.map (c.cfg.alertHold - ·)
  | .preopen => some (preopenRemaining c)
  | .released => some (permissionRemaining c)
  | .idle | .disagree => none

end Sys2Proof.Machine
end

