-- ==== Sys2Proof/Machine/Cover.lean ====
section
/-! DEFINITION. The Cover Ventilation Programme (chapter 6): derived cover state, programme states, the second of
R109, and the events that reach the programme from watches, modes and asks. -/

namespace Sys2Proof.Machine

/-! ## Entering programme states -/

/-- Entry into any state but PREOPEN and RELEASED: the phase elapsed time is 0, what a pre-open purge, a purge, an
alert hold or a permission had is discarded (R112 to R118, R122; DEDUCED, log 9). -/
def enterPhase (p : Prog) (c : Cover) : Cover :=
  { c with prog := p, elapsed := 0, counted := 0, preopenAcc := 0, origin := none, hold := none, release := false,
           starve := 0, starved := false }

/-- R111: an entry into SETTLE, PURGE or REST, which becomes ALERT while any ALERT_PURGE watch is TRIPPED. -/
def enterNight (p : Prog) (s : State) : State :=
  modCover (enterPhase (if alertTripped s then .alert else p)) s

/-- R120: a pre-open purge begins, with credit for the purge time counted in PURGE, at most P. -/
def enterPreopen (o : Origin) (s : State) : State :=
  modCover (fun c =>
    { enterPhase .preopen c with
      origin := some o
      preopenAcc := if c.prog = .purge then min c.counted c.cfg.preopenTime else 0 }) s

/-- R122: entry into RELEASED, with COVER_RELEASE. -/
def enterReleased (s : State) : State :=
  let c := s.cover
  post .coverRelease (originCode c.origin) c.cfg.permissionHold
    (modCover (fun c => { enterPhase .released c with
                          origin := c.origin, preopenAcc := c.preopenAcc, release := true }) s)

/-! ## The derived cover state (R105, R106) -/

/-- R105: the outcome of a report and the debounced switch, with SWITCH_ONLY; `none` is a held row. -/
def pairOutcome (r : Report) (switch : Bool) : Option (Derived × Bool) :=
  match r, switch with
  | .closed, true => some (.closed, false)
  | .coverOpen, false => some (.coverOpen, false)
  | .moving, _ => some (.moving, false)
  | .unknown, true => some (.closed, true)
  | .unknown, false => some (.coverOpen, true)
  | .closed, false => none
  | .coverOpen, true => none

/-- The pair of report and switch is a held row of R105. -/
def heldRow (s : State) : Bool := (pairOutcome s.cover.report s.seq.coverLimit.active).isNone

/-- R116: the programme enters DISAGREE, withdrawing an outstanding permission. -/
def programmeDisagree (s : State) : State :=
  let c := s.cover
  let s1 := modCover (enterPhase .disagree) s
  if c.prog = .released then post .coverReleaseLapsed 2 (permissionRemaining c) s1 else s1

/-- R118: the covers are found open or moving. -/
def programmeOpening (d : Derived) (s : State) : State :=
  match s.cover.prog with
  | .idle => s
  | .released => modCover (enterPhase .idle) s
  | p => post .coverUnsanctioned (progCode p) (derivedCode d) (modCover (enterPhase .idle) s)

/-- The change of the derived state to `d` as an event at the programme (R110, R116 to R118). -/
def derivedEvent (d : Derived) (s : State) : State :=
  match s.cover.prog with
  | .disagree =>
    match d with
    | .closed => enterNight .purge s
    | .coverOpen => modCover (enterPhase .idle) s
    | .moving | .disagree => s
  | .idle =>
    match d with
    | .closed => enterNight .settle (modCover (fun c => { c with cycles := 0 }) s)
    | .disagree => programmeDisagree s
    | .coverOpen | .moving => s
  | _ =>
    match d with
    | .closed => s
    | .disagree => programmeDisagree s
    | .coverOpen | .moving => programmeOpening d s

/-- R105: an evaluation that gives `d` takes it, posts COVER_STATE and reaches the programme when it is new. -/
def takeDerived (d : Derived) (s : State) : State :=
  if d = s.cover.derived then s
  else derivedEvent d
    (post .coverState (derivedCode d) (derivedCode s.cover.derived) (modCover (fun c => { c with derived := d }) s))

/-- R105: the evaluation at a change of the report or of the switch. A pair that comes to be a held row keeps the
derived state and starts the mismatch count (R106). -/
def evaluateCover (s : State) : State :=
  match pairOutcome s.cover.report s.seq.coverLimit.active with
  | none => modCover (fun c => { c with mismatch := 0 }) s
  | some (d, only) => takeDerived d (modCover (fun c => { c with switchOnly := only }) s)

/-- R104: the report becomes `r`; a report that differs is an event, and MOVING starts the travel count (R106). -/
def changeReport (r : Report) (s : State) : State :=
  if r = s.cover.report then s
  else evaluateCover (modCover (fun c =>
    { c with report := r, travel := if r = .moving then 0 else c.travel }) s)

/-- R106: a count at its limit makes the derived state DISAGREE, with COVER_STATE and then COVER_DISAGREE. -/
def disagreeBy (cause : Nat) (s : State) : State :=
  derivedEvent .disagree
    (post .coverDisagree cause (reportCode s.cover.report)
      (post .coverState (derivedCode .disagree) (derivedCode s.cover.derived)
        (modCover (fun c => { c with derived := .disagree }) s)))

/-! ## The second of the programme (R109) -/

/-- R106: the mismatch and travel counts one second on. -/
def advanceCounts (s : State) : State :=
  modCover (fun c =>
    { c with
      mismatch := if heldRow s ∧ c.mismatch < 30 then c.mismatch + 1 else c.mismatch
      travel := if c.report = .moving ∧ c.travel < 1800 then c.travel + 1 else c.travel }) s

/-- R106: the mismatch count stands at its limit and the derived state is not yet DISAGREE. -/
def mismatchMet (s : State) : Bool := s.cover.derived ≠ .disagree && heldRow s && 30 ≤ s.cover.mismatch

/-- R106: the travel count stands at the limit in force and the derived state is not yet DISAGREE. -/
def travelMet (s : State) : Bool :=
  s.cover.derived ≠ .disagree && s.cover.report = .moving && s.cover.cfg.travelLimit ≤ s.cover.travel

/-- R106: the counts one second on and the evaluation they call for. -/
def countsSecond (s : State) : State :=
  let s1 := advanceCounts s
  if mismatchMet s1 then disagreeBy (if s1.cover.report = .closed then 0 else 1) s1
  else if travelMet s1 then disagreeBy 2 s1
  else s1

/-- R112, R121: the starve count and flag at a second of a counted phase. -/
def starveSecond (line : Bool) (c : Cover) : Cover :=
  if line then { c with starve := 0, starved := false }
  else
    let n := if c.starve < 4 then c.starve + 1 else c.starve
    { c with starve := n, starved := c.starved || n = 4 }

/-- R109: the programme's counts one second on, for the state it is in, with the PF line as it is read. -/
def phaseSecond (line : Bool) (c : Cover) : Cover :=
  let c1 := { c with elapsed := if c.elapsed < 65535 then c.elapsed + 1 else c.elapsed }
  match c.prog with
  | .purge => starveSecond line { c1 with counted := if line then c1.counted + 1 else c1.counted }
  | .preopen =>
    starveSecond line
      { c1 with
        preopenAcc := if line ∧ c1.preopenAcc < c1.cfg.preopenTime then c1.preopenAcc + 1 else c1.preopenAcc }
  | .alert => { c1 with hold := c1.hold.map (· + 1) }
  | .idle | .settle | .rest | .released | .disagree => c1

/-- The time counted in a counted phase: the value of PURGE_STARVED (R112), in PREOPEN the pre-open accumulated time
(R121 changes only the subject; DEDUCED from the 'counted time' of section 9.1.1, log 28). -/
def countedTime (c : Cover) : Nat := if c.prog = .preopen then c.preopenAcc else c.counted

/-- R112: the starve flag became set at this second. -/
def starvedNow (before after : Cover) : Bool := after.starved && !before.starved

/-- R109, R112: the programme's counts advance, and PURGE_STARVED is posted where the starve count reaches 4. -/
def phaseCounts (s : State) : State :=
  let s1 := modCover (phaseSecond s.seq.pfLine) s
  if starvedNow s.cover s1.cover then post .purgeStarved (progCode s1.cover.prog) (countedTime s1.cover) s1 else s1

/-- R110: the settle test. -/
def settleMet (s : State) : Bool := s.cover.prog = .settle && s.cover.cfg.settleTime ≤ s.cover.elapsed

/-- R113: the purge test. -/
def purgeMet (s : State) : Bool := s.cover.prog = .purge && purgeHighInForce s ≤ s.cover.counted

/-- R113: the rest test, made when the cycle limit allows. -/
def restMet (s : State) : Bool :=
  s.cover.prog = .rest && (s.cover.cfg.cycleLimit = 0 || s.cover.cycles < s.cover.cfg.cycleLimit)
    && s.cover.cfg.restLow ≤ s.cover.elapsed

/-- R115: the alert hold runs and meets its time. -/
def holdMet (s : State) : Bool :=
  s.cover.prog = .alert && match s.cover.hold with
    | some n => s.cover.cfg.alertHold ≤ n
    | none => false

/-- R121: the pre-open test, under which no ALERT_PURGE watch is TRIPPED. -/
def preopenMet (s : State) : Bool :=
  s.cover.prog = .preopen && s.cover.cfg.preopenTime ≤ s.cover.preopenAcc && !alertTripped s

/-- R122: the permission hold test. -/
def permissionMet (s : State) : Bool :=
  s.cover.prog = .released && s.cover.cfg.permissionHold ≤ s.cover.elapsed

/-- R113: the purge is complete: the cycle count rises, and REST follows. -/
def completePurge (s : State) : State :=
  enterNight .rest (modCover (fun c => { c with cycles := if c.cycles < 255 then c.cycles + 1 else c.cycles }) s)

/-- R122: the permission lapses. -/
def lapsePermission (s : State) : State :=
  enterNight .rest (post .coverReleaseLapsed 0 0 (modCover (fun c => { c with release := false }) s))

/-- R109: the tests of the state the programme is in. -/
def phaseTests (s : State) : State :=
  if settleMet s then enterNight .purge s
  else if purgeMet s then completePurge s
  else if restMet s then enterNight .purge s
  else if holdMet s then enterNight .rest s
  else if preopenMet s then enterReleased s
  else if permissionMet s then lapsePermission s
  else s

/-- R109: one second of the Cover Ventilation Programme. Where a pre-open purge is starved and released at one second,
PURGE_STARVED is posted before COVER_RELEASE (R123 orders neither against the other; DEDUCED from R109, log 29). -/
def coverSecond (s : State) : State := phaseTests (phaseCounts (countsSecond s))

/-! ## Events from watches (R114, R115) -/

/-- R114: an ALERT_PURGE watch trips. -/
def alertTrip (s : State) : State :=
  match s.cover.prog with
  | .settle | .purge | .rest => modCover (enterPhase .alert) s
  | .alert => modCover (fun c => { c with hold := none }) s
  | .released =>
    post .coverReleaseLapsed 1 (permissionRemaining s.cover) (modCover (enterPhase .alert) s)
  | .preopen | .idle | .disagree => s

/-- R115: an ALERT_PURGE watch clears; the alert hold starts when none is left TRIPPED. -/
def alertClear (s : State) : State :=
  if s.cover.prog = .alert ∧ alertTripped s = false then modCover (fun c => { c with hold := some 0 }) s else s

/-! ## Events from the hall mode and from POOL -/

/-- R55: the change into PREOPEN. -/
def preopenByMode (s : State) : State :=
  match s.cover.prog with
  | .settle | .purge | .rest | .alert => enterPreopen .mode s
  | .preopen | .released | .idle | .disagree => s

/-- R56: the change out of PREOPEN into NIGHT or SERVICE. -/
def cancelByMode (s : State) : State :=
  if s.cover.prog = .preopen ∧ s.cover.origin = some .mode then enterNight .rest s else s

/-- R51, R55, R56: a change of hall mode at the programme. -/
def coverModeEvent (old new : Mode) (s : State) : State :=
  if new = .preopen then preopenByMode s
  else if old = .preopen ∧ (new = .night ∨ new = .service) then cancelByMode s
  else s

/-- R104: REPORT_COVER. -/
def ownReportCover (b : Byte) (s : State) : State × Answer :=
  match reportOf b with
  | none => refuse .badValue s
  | some r => (changeReport r s, answer .ok)

/-- R119: ASK_COVER_OPEN. -/
def ownAskCoverOpen (s : State) : State × Answer :=
  match s.cover.prog with
  | .idle | .disagree => refuse .notApplicable s
  | .preopen =>
    let s1 := modCover (fun c => { c with origin := some .ask }) s
    (s1, ⟨.ok, natField (preopenRemaining s1.cover)⟩)
  | .released => (s, ⟨.ok, natField (permissionRemaining s.cover)⟩)
  | .settle | .purge | .rest | .alert =>
    let s1 := enterPreopen .ask s
    (s1, ⟨.ok, natField (preopenRemaining s1.cover)⟩)

/-- The cover configuration that eight written fields give, each clamped into its range, and whether one was
(R108). -/
def coverCfgOf (f : List Nat) : Option (CoverCfg × Bool) :=
  match f with
  | [a, b, c, d, e, g, h, i] =>
    let cfg : CoverCfg :=
      { settleTime := clampNat a 60 3600, purgeHigh := clampNat b 60 3600, restLow := clampNat c 60 14400,
        cycleLimit := clampNat d 0 255, preopenTime := clampNat e 60 7200, alertHold := clampNat g 60 3600,
        permissionHold := clampNat h 60 3600, travelLimit := clampNat i 60 1800 }
    some (cfg, [cfg.settleTime, cfg.purgeHigh, cfg.restLow, cfg.cycleLimit, cfg.preopenTime, cfg.alertHold,
                cfg.permissionHold, cfg.travelLimit] != f)
  | _ => none

/-- R108: WRITE_ITEM of class COVER_CFG. -/
def ownWriteCoverCfg (index : Byte) (fields : List Half) (s : State) : State × Answer :=
  if index ≠ 0 then refuse .badItem s
  else if s.store.busy then refuse .busy s
  else match coverCfgOf (fields.map BitVec.toNat) with
    | none => refuse .badLength s
    | some (cfg, clamped) => (modCover (fun c => { c with cfg := cfg }) s, answer (okOrClamped clamped))

end Sys2Proof.Machine
end

