-- ==== Sys2Proof/Machine/Channels.lean ====
section
/-! DEFINITION. Hall air measurement (chapter 1): channel records and their scan, the zero search, gain correction
and the watches. -/

namespace Sys2Proof.Machine

/-! ## Samples (R4 to R9) -/

/-- R4: a raw value of 0..15 or 4080..4095 is a rail sample. -/
def railSample (raw : Nat) : Bool := raw ≤ 15 || 4080 ≤ raw

/-- R7: the corrected value. -/
def corrected (gain raw : Nat) : Nat := clampNat (raw * gain / 32768) 0 4095

/-- R7: the engineering value, tenths of a degree or permille by kind. -/
def engineering (k : Kind) (v : Nat) : Int :=
  match k with
  | .airT | .glazeT | .outT => -200 + (v * 800 / 4096 : Nat)
  | .airRh | .coverRh | .airq | .unused => (v * 1000 / 4096 : Nat)

/-- R8: one step of the fast filter, truncating toward zero. -/
def filterStep (f x : Int) : Int := f + Int.tdiv (x - f) 4

/-- R9: the mean of the window, truncated toward zero. -/
def windowMean (w : List Int) : Int := Int.tdiv w.sum 8

/-- R9: a value joins the newest end, and the oldest of nine leaves. -/
def pushWindow (w : List Int) (v : Int) : List Int := if w.length < 8 then w ++ [v] else (w ++ [v]).tail

/-- Settling begins: an empty window and no counts; the held values stay (R11, R15, R18). -/
def beginSettling (c : Channel) : Channel :=
  { c with status := .settling, window := [], rail := 0, settle := 0 }

/-- R7 to R9: a good sample is used. The first one after SETTLING begins sets the fast value. -/
def useSample (c : Channel) : Channel :=
  let x := engineering c.cfg.kind (corrected c.cfg.gain c.raw)
  let f := if c.settle = 0 then x else filterStep c.fast x
  let w := pushWindow c.window f
  let n := if c.settle < 8 then c.settle + 1 else c.settle
  { c with
    fast := f
    window := w
    settle := n
    settled := if w.length = 8 then windowMean w else c.settled
    status := if c.status = .settling ∧ n = 8 then .valid else c.status }

/-- R4 to R6: the visit of one channel by a scan that takes `raw`, and the event it posts. -/
def visitChannel (c : Channel) (raw : Nat) : Channel × Option Code :=
  match c.status with
  | .unused | .calibrating => (c, none)
  | .settling | .valid =>
    if railSample raw then
      if 3 ≤ c.rail + 1 then ({ c with raw := raw, rail := 0, status := .fault }, some .channelFault)
      else ({ c with raw := raw, rail := c.rail + 1 }, none)
    else (useSample { c with raw := raw, rail := 0 }, none)
  | .fault =>
    if railSample raw then ({ c with raw := raw, rail := 0 }, none)
    else if 3 ≤ c.rail + 1 then (useSample (beginSettling { c with raw := raw }), some .channelRecover)
    else ({ c with raw := raw, rail := c.rail + 1 }, none)

/-! ## Watches (R20 to R22) -/

/-- R21: the state of a watch after the comparison of an available value. -/
def compareWatch (w : Watch) (v : Int) : Bool :=
  match w.cfg.direction with
  | .above => if w.tripped then ¬ (v < w.cfg.threshold - w.cfg.hysteresis) else w.cfg.threshold < v
  | .below => if w.tripped then ¬ (w.cfg.threshold + w.cfg.hysteresis < v) else v < w.cfg.threshold

/-- R22: a change of an ALERT_PURGE watch reaches the programme. -/
def watchAction (a : WatchAction) (tripped : Bool) (s : State) : State :=
  match a with
  | .alertPurge => if tripped then alertTrip s else alertClear s
  | .none | .forceDehum => s

/-- R20, R21: watch i is reached; `none` is a lost source. A change of an ALERT_PURGE watch is taken by the programme at
once, before the next watch or channel is reached (DESIGN CHOICE, log 26). -/
def evalWatch (i : Fin 8) (v : Option Int) (s : State) : State :=
  let w := s.watches[i]
  match v with
  | none => setWatch i { w with lost := true } s
  | some v =>
    let t := compareWatch w v
    if t = w.tripped then setWatch i { w with lost := false } s
    else if t then
      watchAction w.cfg.action true
        (post .watchTrip i v (setWatch i { w with tripped := true, latch := true, lost := false } s))
    else
      watchAction w.cfg.action false
        (post .watchClear i v (setWatch i { w with tripped := false, lost := false } s))

/-- The watches in ascending order (DESIGN CHOICE, log 7); `reach` says whether and with what a source is reached. -/
def reachWatches (reach : WatchSource → Option (Option Int)) (s : State) : State :=
  (List.finRange 8).foldl (fun s i =>
    match reach s.watches[i].cfg.source with
    | none => s
    | some v => evalWatch i v s) s

/-- R20: how a scan reaches the watches on channel n after its visit; not at all while it is CALIBRATING. -/
def channelReach (n : ChanId) (c : Channel) (src : WatchSource) : Option (Option Int) :=
  if src = .channel n then
    match c.status with
    | .calibrating => none
    | .valid => some (some c.settled)
    | .unused | .settling | .fault => some none
  else none

/-! ## The scan (R4) -/

/-- The notice of a visit: CHANNEL_FAULT carries the raw value, CHANNEL_RECOVER 0 (R5, R6). -/
def postVisit (n : ChanId) (raw : Nat) (e : Option Code) (s : State) : State :=
  match e with
  | some .channelFault => post .channelFault n raw s
  | some c => post c n 0 s
  | none => s

/-- The visit of channel n and the watches reached after it. -/
def scanChannel (n : ChanId) (raw : Nat) (s : State) : State :=
  let r := visitChannel s.channels[n] raw
  reachWatches (channelReach n r.1) (postVisit n raw r.2 (setChannel n r.1 s))

/-- R4: the scan visits every channel, in ascending order (DESIGN CHOICE, log 7). -/
def scanAll (samples : Samples) (s : State) : State :=
  (List.finRange 16).foldl (fun s n => scanChannel n samples[n].toNat s) s

/-! ## The zero search (R12 to R16) -/

/-- The end of a search on its channel, by completion or abort: the channel's input returns to the sensor. -/
def clearSearch (s : State) : State := { s with search := none }

/-- R13: a search begins on channel n. -/
def beginSearch (n : ChanId) (s : State) : State :=
  let c := s.channels[n]
  { setChannel n { c with status := .calibrating } s with
    search := some { channel := n, trimBefore := c.cfg.trim, statusBefore := c.status, code := 32, bit := 5,
                     stepLeft := Config.searchPeriod } }

/-- R15: the search completes with the final code. -/
def completeSearch (r : Search) (code : Nat) (s : State) : State :=
  let c := s.channels[r.channel]
  let s1 := clearSearch
    (setChannel r.channel (beginSettling { c with cfg := { c.cfg with trim := code } }) s)
  post (if code = 0 ∨ code = 63 then .calLimit else .calDone) r.channel ((code : Int) - 32) s1

/-- R14: the comparator's report decides the bit under test. -/
def searchStep (above : Bool) (r : Search) (s : State) : State :=
  let code := if above then r.code - 2 ^ r.bit else r.code
  match r.bit with
  | 0 => completeSearch r code s
  | b + 1 =>
    { s with search := some { r with code := code + 2 ^ b, bit := b, stepLeft := Config.searchPeriod } }

/-- R16: a running search on channel n is aborted: its trim code is the one in force when it began. -/
def abortSearch (n : ChanId) (s : State) : State :=
  match s.search with
  | some r =>
    if r.channel = n then
      let c := s.channels[n]
      clearSearch (setChannel n { c with cfg := { c.cfg with trim := r.trimBefore } } s)
    else s
  | none => s

/-- R12: ZERO_SEARCH. -/
def ownZeroSearch (channel : Byte) (s : State) : State × Answer :=
  match indexBelow 16 channel with
  | none => refuse .badItem s
  | some n =>
    if s.channels[n].status = .unused then refuse .badItem s
    else if s.search.isSome then refuse .busy s
    else if s.store.busy then refuse .busy s
    else (beginSearch n s, answer .accepted)

/-! ## Channel writes (R2, R3) -/

/-- AIR_T and AIR_RH channels claim their zone (R1, R2). -/
def claims (k : Kind) : Bool := k = .airT || k = .airRh

/-- R2: another channel without a conflict flag already has this kind and zone. -/
def conflictWith (n : ChanId) (k : Kind) (z : Nat) (s : State) : Bool :=
  claims k && (List.finRange 16).any fun m =>
    decide (m ≠ n) && !s.channels[m].conflict && decide (s.channels[m].cfg.kind = k)
      && decide (s.channels[m].cfg.zone = z)

/-- R3: the lowest-numbered conflict channel with the claim just given up. -/
def heir (k : Kind) (z : Nat) (s : State) : Option ChanId :=
  (List.finRange 16).find? fun m =>
    s.channels[m].conflict && decide (s.channels[m].cfg.kind = k) && decide (s.channels[m].cfg.zone = z)

/-- R3: the release of a claim given up by a write. -/
def releaseClaim (old : Channel) (k : Kind) (z : Nat) (s : State) : State :=
  if claims old.cfg.kind && !old.conflict && (old.cfg.kind ≠ k || old.cfg.zone ≠ z) then
    match heir old.cfg.kind old.cfg.zone s with
    | some m => setChannel m (beginSettling { s.channels[m] with conflict := false }) s
    | none => s
  else s

/-- R2: the record of a channel that takes a kind and a zone. -/
def retakeChannel (c : Channel) (k : Kind) (z : Nat) (conflict : Bool) : Channel :=
  { c with
    cfg := { c.cfg with kind := k, zone := z }
    conflict := conflict
    window := []
    rail := 0
    settle := 0
    fast := 0
    settled := 0
    status := if k = .unused ∨ conflict then .unused else .settling }

/-- R2: WRITE_ITEM of class CHANNEL. -/
def ownWriteChannel (index kind zone : Byte) (s : State) : State × Answer :=
  match indexBelow 16 index with
  | none => refuse .badItem s
  | some n =>
    if s.store.busy then refuse .busy s
    else match kindOf kind with
      | none => refuse .badValue s
      | some k =>
        let z := min zone.toNat 2
        let zoneClamped : Bool := 2 < zone.toNat
        let old := s.channels[n]
        if old.cfg.kind = k ∧ old.cfg.zone = z ∧ underSearch s n = false then (s, answer (okOrClamped zoneClamped))
        else
          let s1 := abortSearch n s
          let conflict := conflictWith n k z s1
          let s2 := setChannel n (retakeChannel s1.channels[n] k z conflict) s1
          (releaseClaim old k z s2, answer (okOrClamped (zoneClamped || conflict)))

/-! ## Gain correction (R18) -/

/-- R18: the new gain before the clamp, rounded half up. -/
def correctedGain (g : Nat) (e : Int) : Nat :=
  let d := (10000 + e).toNat
  (g * 10000 + d / 2) / d

/-- R18: GAIN_CORRECT. -/
def ownGainCorrect (channel : Byte) (error : Half) (s : State) : State × Answer :=
  match indexBelow 16 channel with
  | none => refuse .badItem s
  | some n =>
    let c := s.channels[n]
    let e := error.toInt
    if c.status = .unused then refuse .badItem s
    else if e < -2000 ∨ 2000 < e then refuse .badValue s
    else if underSearch s n then refuse .busy s
    else if s.store.busy then refuse .busy s
    else
      let g := correctedGain c.cfg.gain e
      let g1 := clampNat g 24576 40960
      let c1 := { c with cfg := { c.cfg with gain := g1 } }
      let c2 := if c.status = .settling ∨ c.status = .valid then beginSettling c1 else c1
      (setChannel n c2 s, answer (okOrClamped (g1 ≠ g)))

/-! ## Watch writes (R19, R23) -/

/-- R19: the effect of a taken write of a watch. -/
def writeWatch (i : Fin 8) (cfg : WatchCfg) (s : State) : State :=
  let w := s.watches[i]
  if w.cfg.source = cfg.source ∧ w.cfg.direction = cfg.direction ∧ w.cfg.action = cfg.action then
    setWatch i { w with cfg := cfg } s
  else
    let s1 := setWatch i { cfg := cfg, tripped := false, latch := false, lost := false } s
    if w.tripped then watchAction w.cfg.action false (post .watchClear i 0 s1) else s1

/-- R19: WRITE_ITEM of class WATCH; the tests in the order of R153 (DEDUCED, log 8). -/
def ownWriteWatch (index source direction : Byte) (threshold hysteresis : Half) (action : Byte) (s : State) :
    State × Answer :=
  match indexBelow 8 index with
  | none => refuse .badItem s
  | some i =>
    if s.store.busy then refuse .busy s
    else match sourceOf source, directionOf direction, actionOf action with
      | some src, some dir, some act =>
        let t := clampInt threshold.toInt (-1000) 1000
        let h := min hysteresis.toNat 200
        (writeWatch i ⟨src, dir, t, h, act⟩ s,
         answer (okOrClamped (t ≠ threshold.toInt || h ≠ hysteresis.toNat)))
      | _, _, _ => refuse .badValue s

/-- R23: CLEAR_WATCH. -/
def ownClearWatch (watch : Byte) (s : State) : State × Answer :=
  match indexBelow 8 watch with
  | none => refuse .badItem s
  | some i => (setWatch i { s.watches[i] with latch := false } s, answer .ok)

end Sys2Proof.Machine
end

