-- ==== Sys2Proof/Machine/Lighting.lean ====
section
/-! DEFINITION. The Scene Controller (chapter 7): layers, resolution, fades, the lighting cap, and the requests it
owns. -/

namespace Sys2Proof.Machine

/-! ## Layers and scenes -/

/-- The layer record of a layer. -/
def getLayer (l : Layers) : Layer → Option Standing
  | .base => l.base | .showing => l.showing | .work => l.work | .safety => l.safety

/-- The layer list with one layer changed. -/
def setLayer (k : Layer) (v : Option Standing) (l : Layers) : Layers :=
  match k with
  | .base => { l with base := v }
  | .showing => { l with showing := v }
  | .work => { l with work := v }
  | .safety => { l with safety := v }

/-- The scene with this number; a number above 31 names none. -/
def sceneAt (l : Lighting) (n : Nat) : Scene := (l.scenes[n]?).getD Scene.undefined

/-- R128: whether the permitted-mode set holds the mode. -/
def permits (m : ModeSet) : Mode → Bool
  | .hallOpen => m.hallOpen | .night => m.night | .preopen => m.preopen | .service => m.service

/-- The level a scene's level list gives a group, if it names it. -/
def levelFor (sc : Scene) (g : Nat) : Option Nat := (sc.levels.find? fun p => p.1 = g).map Prod.snd

/-- R135: the fade time of the safety scene, 0 while it is undefined. -/
def safetyFade (sc : Scene) : Nat := if sc.defined then sc.fade else 0

/-- R135: the level the scene standing in SAFETY gives a group. -/
def safetyLevel (sc : Scene) (g : Nat) : Option Nat := if sc.defined then levelFor sc g else some 1000

/-- R137: what a layer gives a group. -/
def layerLevel (l : Lighting) (k : Layer) (g : Nat) : Option Nat :=
  match getLayer l.layers k with
  | none => none
  | some st => if k = .safety then safetyLevel (sceneAt l st.scene) g else levelFor (sceneAt l st.scene) g

/-- R137: the level and source layer of a group, in the order SAFETY, WORK, SHOW, BASE. -/
def resolve (l : Lighting) (g : Nat) : Nat × Option Layer :=
  match [Layer.safety, .work, .showing, .base].findSome? fun k => (layerLevel l k g).map fun v => (v, some k) with
  | some r => r
  | none => (0, none)

/-! ## The cap (R141 to R143) -/

/-- R142: the cap basis, the larger of R and U. -/
def capBasis (l : Lighting) : Nat := max (requestR l) (inFlightU l)

/-- R142: the cap limit from the last LT grant and the cap basis. -/
def capLimitOf (l : Lighting) : Nat :=
  if capBasis l = 0 ∨ capBasis l ≤ l.grant then 1000 else 1000 * l.grant / capBasis l

/-- R141: the applied level of a group under a cap. -/
def appliedLevel (cap : Nat) (g : Group) : Nat := g.cfg.floor + (g.current - g.cfg.floor) * cap / 1000

/-- R141: the applied levels are formed again. -/
def formApplied (l : Lighting) : Lighting :=
  { l with groups := l.groups.map fun g => { g with applied := appliedLevel l.appliedCap g } }

/-- R142, R143: the cap limit is evaluated; an applied cap above it falls to it at once. -/
def evalCap (l : Lighting) : Lighting :=
  let c := capLimitOf l
  formApplied { l with capLimit := c, appliedCap := min l.appliedCap c }

/-- R143: the cap at a fade tick, which also raises an applied cap below the limit, by at most 20. -/
def tickCap (l : Lighting) : Lighting :=
  let c := capLimitOf l
  formApplied { l with capLimit := c, appliedCap := if c < l.appliedCap then c else min c (l.appliedCap + 20) }

/-! ## Target changes (R137, R138) -/

/-- R138: the group takes a target and a source layer; a changed target starts its fade afresh with the duration. -/
def takeTarget (target : Nat) (source : Option Layer) (duration : Nat) (g : Group) : Group :=
  if target = g.target then { g with source := source }
  else if duration = 0 then { g with target := target, source := source, current := target, fade := none }
  else { g with target := target, source := source, fade := some ⟨g.current, 0, duration⟩ }

/-- R137: the targets of all groups are formed again and the cap limit is evaluated (R142); `duration` gives the
fade time of a group whose target changes, from its former record and its new source layer. -/
def retarget (duration : Group → Option Layer → Nat) (l : Lighting) : Lighting :=
  evalCap
    { l with
      groups := l.groups.mapFinIdx fun i g _ =>
        takeTarget (max (resolve l i).1 g.cfg.floor) (resolve l i).2 (duration g (resolve l i).2) g }

/-- The targets formed again with one fade time for every group that changes. -/
def retargetFade (fade : Nat) (l : Lighting) : Lighting := retarget (fun _ _ => fade) l

/-! ## Fades (R139) -/

/-- R139: the level of a fade after `elapsed` of `duration` ticks. -/
def fadeLevel (start target elapsed duration : Nat) : Nat :=
  ((start : Int) + Int.tdiv (((target : Int) - start) * elapsed) duration).toNat

/-- R139: one tick of a group's fade. -/
def fadeStep (g : Group) : Group :=
  match g.fade with
  | none => g
  | some f =>
    let e := f.elapsed + 1
    if f.duration ≤ e then { g with current := g.target, fade := none }
    else { g with current := fadeLevel f.start g.target e f.duration, fade := some { f with elapsed := e } }

/-- R139: the fade tick: fades, then the cap, then the applied levels. -/
def fadeTickLight (l : Lighting) : Lighting := tickCap { l with groups := l.groups.map fadeStep }

/-! ## Emptying layers -/

/-- LAYER_RELEASED for a layer and the scene that stood in it (R57, R130, R134). -/
def postReleased (k : Layer) (st : Standing) (s : State) : State := post .layerReleased (layerCode k) st.scene s

/-- R134: a layer emptied by the silence of its owner. -/
def silenceLayer (k : Layer) (s : State) : State :=
  match getLayer s.light.layers k with
  | none => s
  | some st =>
    modLight (fun l => retargetFade (sceneAt l st.scene).fade { l with layers := setLayer k none l.layers })
      (postReleased k st s)

/-- The layers among BASE, SHOW and WORK whose scene the test rejects, in ascending layer number. -/
def rejected (l : Lighting) (bad : Nat → Bool) : List (Layer × Standing) :=
  [Layer.base, .showing, .work].filterMap fun k =>
    match getLayer l.layers k with
    | some st => if bad st.scene then some (k, st) else none
    | none => none

/-- The layer list without the rejected layers. -/
def dropLayers (rs : List (Layer × Standing)) (l : Layers) : Layers :=
  rs.foldl (fun acc r => setLayer r.1 none acc) l

/-- The LAYER_RELEASED notices of the rejected layers, in their order. -/
def postAllReleased (rs : List (Layer × Standing)) (s : State) : State :=
  rs.foldl (fun acc r => postReleased r.1 r.2 acc) s

/-- R57: the fade time of a group is that of the released scene that stood in its former source layer. -/
def releasedFade (l : Lighting) (rs : List (Layer × Standing)) (g : Group) : Nat :=
  match rs.find? fun r => g.source = some r.1 with
  | some r => (sceneAt l r.2.scene).fade
  | none => 0

/-- R57: a change of hall mode at the Scene Controller. -/
def lightModeEvent (new : Mode) (s : State) : State :=
  let rs := rejected s.light fun n => !permits (sceneAt s.light n).modes new
  if rs = [] then s
  else modLight (fun l => retarget (fun g _ => releasedFade l rs g) { l with layers := dropLayers rs l.layers })
    (postAllReleased rs s)

/-! ## The interlock (R135) -/

/-- R135: SAFETY is filled with the safety scene number. -/
def fillSafety (s : State) : State :=
  modLight (fun l =>
    let l1 := { l with layers := setLayer .safety (some ⟨l.safetyScene, s.pt⟩) l.layers }
    retargetFade (safetyFade (sceneAt l l.safetyScene)) l1) s

/-- R135: SAFETY is emptied. -/
def emptySafety (s : State) : State :=
  match s.light.layers.safety with
  | none => s
  | some st =>
    modLight (fun l =>
      retargetFade (safetyFade (sceneAt l st.scene)) { l with layers := setLayer .safety none l.layers }) s

/-- R79, R142: an LT grant arrives at the end of an allocation pass. -/
def takeLtGrant (g : Nat) (s : State) : State := modLight (fun l => evalCap { l with grant := g }) s

/-! ## Requests (R126 to R136) -/

/-- R132: the layer of a role. -/
def layerOfRole : Role → Option Layer
  | .building => some .base | .pool => some .work | .lighting => some .showing | .observer => none

/-- R132: RECALL with target LAYER. An unknown target is BAD_VALUE whatever the scene number (R152; DEDUCED, log 31). -/
def ownRecallLayer (role : Role) (scene target : Byte) (s : State) : State × Answer :=
  if target ≠ 0 then refuse .badValue s
  else match layerOfRole role with
    | none => refuse .notPermitted s
    | some k =>
      let n := scene.toNat
      let sc := sceneAt s.light n
      if 31 < n then refuse .badItem s
      else if sc.defined = false then refuse .badItem s
      else if permits sc.modes s.mode.mode = false then refuse .notInMode s
      else
        (modLight (fun l => retargetFade sc.fade { l with layers := setLayer k (some ⟨n, s.pt⟩) l.layers }) s,
         answer .ok)

/-- R136: RECALL with target START; 0xFF is NONE. -/
def ownRecallStart (scene : Byte) (s : State) : State × Answer :=
  if 31 < scene.toNat ∧ scene ≠ 0xFF then refuse .badItem s
  else if s.store.busy then refuse .busy s
  else (modLight (fun l => { l with startScene := if scene = 0xFF then none else some scene.toNat }) s, answer .ok)

/-- R136: RECALL with target SAFETY. -/
def ownRecallSafety (scene : Byte) (s : State) : State × Answer :=
  if 31 < scene.toNat then refuse .badItem s
  else if s.store.busy then refuse .busy s
  else (modLight (fun l => { l with safetyScene := scene.toNat }) s, answer .ok)

/-- R133: RELEASE. -/
def ownRelease (role : Role) (s : State) : State × Answer :=
  match layerOfRole role with
  | none => refuse .notPermitted s
  | some k =>
    match getLayer s.light.layers k with
    | none => (s, answer .ok)
    | some st =>
      (modLight (fun l => retargetFade (sceneAt l st.scene).fade { l with layers := setLayer k none l.layers }) s,
       answer .ok)

/-- R127: a raised floor lifts a current level below it and the start of a fade (DESIGN CHOICE, log 12). -/
def raiseFloor (floor : Nat) (g : Group) : Group :=
  { g with
    cfg := { g.cfg with floor := floor }
    current := max g.current floor
    fade := g.fade.map fun f => { f with start := max f.start floor } }

/-- R127: the fade time of the scene in the source layer, 0 when there is none. -/
def sourceFade (l : Lighting) (source : Option Layer) : Nat :=
  match source with
  | none => 0
  | some k =>
    match getLayer l.layers k with
    | none => 0
    | some st => if k = .safety then safetyFade (sceneAt l st.scene) else (sceneAt l st.scene).fade

/-- R126, R127: a group takes a load and a floor. -/
def writeGroup (i : GroupId) (load floor : Nat) (l : Lighting) : Lighting :=
  let g := l.groups[i]
  let set (h : Group) : Lighting := { l with groups := l.groups.set i { h with cfg := ⟨load, floor⟩ } }
  if floor = g.cfg.floor then evalCap (set g)
  else if g.cfg.floor < floor then retargetFade 0 (set (raiseFloor floor g))
  else
    let l1 := set g
    retarget (fun _ src => sourceFade l1 src) l1

/-- R126: WRITE_ITEM of class GROUP. -/
def ownWriteGroup (index : Byte) (load floor : Half) (s : State) : State × Answer :=
  match indexBelow 16 index with
  | none => refuse .badItem s
  | some i =>
    if s.store.busy then refuse .busy s
    else
      let ld := min load.toNat 2000
      let fl := min floor.toNat 1000
      (modLight (writeGroup i ld fl) s, answer (okOrClamped (ld ≠ load.toNat || fl ≠ floor.toNat)))

/-- R129: the structural test of a level list: at most 16 pairs, groups below 16 in strictly ascending order, levels
at most 1000. -/
def levelsGood (ps : List (Nat × Nat)) : Bool :=
  ps.length ≤ 16 && ps.all (fun p => p.1 < 16 && p.2 ≤ 1000) &&
    ((ps.map Prod.fst).zip ((ps.map Prod.fst).drop 1)).all (fun q => q.1 < q.2)

/-- R129: the scene record a write stores; a clear defined flag stores the undefined scene. -/
def sceneOf (flags : Byte) (fade : Half) (modes : Byte) (pairs : List (Nat × Nat)) : Scene :=
  if bitFlag flags 0 then
    ⟨true, min fade.toNat 6000, ⟨bitFlag modes 0, bitFlag modes 1, bitFlag modes 2, bitFlag modes 3⟩, pairs⟩
  else Scene.undefined

/-- R130: whether the scene stands in SAFETY. -/
def standsInSafety (l : Lighting) (n : Nat) : Bool :=
  match l.layers.safety with
  | some st => st.scene = n
  | none => false

/-- R130: whether the scene stands in any layer. -/
def standsAnywhere (l : Lighting) (n : Nat) : Bool :=
  [Layer.base, .showing, .work, .safety].any fun k =>
    match getLayer l.layers k with
    | some st => st.scene = n
    | none => false

/-- R130, R138: the fade time of an edit. -/
def editFade (l : Lighting) (n : Nat) (new : Scene) : Nat :=
  if new.defined then new.fade else if standsInSafety l n then 0 else (sceneAt l n).fade

/-- R129, R130: scene n is replaced by `new`, in the table and in the layers it stands in. -/
def editScene (n : Fin 32) (new : Scene) (s : State) : State :=
  let store (l : Lighting) : Lighting := { l with scenes := l.scenes.set n new }
  if standsAnywhere s.light n = false then modLight store s
  else
    let fade := editFade s.light n new
    let rs := rejected s.light fun m => m = n.val && !(new.defined && permits new.modes s.mode.mode)
    modLight (fun l => retargetFade fade { store l with layers := dropLayers rs l.layers }) (postAllReleased rs s)

/-- R129: WRITE_ITEM of class SCENE. -/
def ownWriteScene (index flags : Byte) (fade : Half) (modes : Byte) (pairs : List (Byte × Half)) (s : State) :
    State × Answer :=
  let ps := pairs.map fun p => (p.1.toNat, p.2.toNat)
  match indexBelow 32 index with
  | none => refuse .badItem s
  | some n =>
    if s.store.busy then refuse .busy s
    else if bitFlag flags 0 && !levelsGood ps then refuse .badValue s
    else (editScene n (sceneOf flags fade modes ps) s, answer (okOrClamped (bitFlag flags 0 && 6000 < fade.toNat)))

end Sys2Proof.Machine
end

