-- ==== Sys2Proof/Machine/Sequencer.lean ====
section
/-! DEFINITION. The Equipment Sequencer (chapter 5): compressors and their start test, heater stages, fan and fan
proof, valve, purge fan line, the interlock, and the debounced inputs. -/

namespace Sys2Proof.Machine

/-! ## Compressor starts and stops (R90 to R96) -/

/-- R95: a compressor stops: OFF_LOCKED with the minimum off time in force, and COMP_STOP with its cause. -/
def stopComp (i : CompId) (cause : Nat) (s : State) : State :=
  let c := s.seq.comps[i]
  post .compStop i cause
    (setComp i { c with
      state := .offLocked
      onTimer := none
      offTimer := some (max c.cfg.minOff (minOffFloor s) * Config.ticksPerSecond) } s)

/-- R96: a forced stop of a running compressor; one that is off changes nothing. -/
def forceStop (i : CompId) (cause : Nat) (s : State) : State :=
  if running s.seq.comps[i] then stopComp i cause s else s

/-- R91: the compressor starts. -/
def startComp (i : CompId) (history : List Word) (s : State) : State :=
  let c := s.seq.comps[i]
  post .compStart i (history.length + 1 : Nat)
    (setComp i { c with
      state := .runMin
      history := history ++ [s.pt]
      offTimer := none
      onTimer := some (c.cfg.minOn * Config.ticksPerSecond)
      blocked := false } s)

/-- R92: a blocked start test; it begins a blocked episode when the flag is clear. -/
def blockComp (i : CompId) (history : List Word) (s : State) : State :=
  let c := s.seq.comps[i]
  if c.blocked then setComp i { c with history := history } s
  else
    match history with
    | e :: _ =>
      post .startLimit i (e + 3600).toNat
        (setComp i { c with history := history, blocked := true, nextStart := e + 3600 } s)
    | [] =>
      let next := Config.nextStartOfNone s.freeSeq
      post .startLimit i next.toNat
        { setComp i { c with history := history, blocked := true, nextStart := next } s with
          freeSeq := s.freeSeq + 1 }

/-- R91: the conditions of a start beside the start history. -/
def startConditions (q : Sequencer) : Bool := !q.interlock.active && q.proof = .proven && 2 ≤ q.fanLevel

/-- R91: the start test of a compressor. -/
def startTest (i : CompId) (s : State) : State :=
  let c := s.seq.comps[i]
  if c.state = .offReady ∧ c.grant = true then
    let h := prune s.pt c.history
    if startLimit s.alloc c ≤ h.length then blockComp i h s
    else if startConditions s.seq then startComp i h s
    else setComp i { c with history := h } s
  else s

/-- The start tests of both compressors, C1 first: R89 says so of the grant event, and the model takes the same order at
the other test events (DESIGN CHOICE, log 27). -/
def startTests (s : State) : State := startTest 1 (startTest 0 s)

/-- R81, R90, R91: after an event that may move the start limit in force from `old`, the history is shortened to
the limit, and a raise is a test event. -/
def refreshLimit (i : CompId) (old : Nat) (s : State) : State :=
  let c := s.seq.comps[i]
  let n := startLimit s.alloc c
  let s1 := setComp i { c with history := c.history.drop (c.history.length - n) } s
  if old < n then startTest i s1 else s1

/-- The start limits of both compressors refreshed against those of the state before the event, C1 first (DESIGN
CHOICE, log 27). -/
def refreshLimits (before : State) (s : State) : State :=
  refreshLimit 1 (startLimit before.alloc before.seq.comps[1])
    (refreshLimit 0 (startLimit before.alloc before.seq.comps[0]) s)

/-! ## Lines -/

/-- R99, R100: the supply fan is driven at a level; the proof-fail timer runs while the proof input is inactive and
the level is 1 or above. -/
def driveFan (level : Nat) (q : Sequencer) : Sequencer :=
  { q with
    fanLevel := level
    failTimer :=
      if q.fanProof.active ∨ level = 0 then none
      else if q.fanLevel = 0 then some Config.proofFailTicks
      else q.failTimer }

/-- R98: the conditions under which a granted stage comes on. -/
def heaterConditions (s : State) : Bool :=
  s.mode.mode ≠ .service && s.seq.proof = .proven && !s.seq.interlock.active

/-- R98: each granted stage whose line is off comes on when its conditions hold. -/
def heatersOn (s : State) : State :=
  modSeq (fun q =>
    { q with heaters := q.heaters.map fun h => { h with line := h.line || (h.grant && heaterConditions s) } }) s

/-- Every heater stage line off, the stored grants kept (R98). -/
def heatersOff (q : Sequencer) : Sequencer :=
  { q with heaters := q.heaters.map fun h => { h with line := false } }

/-- R98: at a grant event a stage with grant 0 goes off, and one with grant 1 stays on or comes on. -/
def heatersGranted (s : State) : State :=
  modSeq (fun q =>
    { q with heaters := q.heaters.map fun h =>
        { h with line := h.grant && !q.interlock.active && (h.line || heaterConditions s) } }) s

/-! ## Grants (R89) -/

/-- What an allocation pass hands on to the Sequencer (R79). -/
structure Grants where
  fan : Nat
  comps : Vector Bool 2
  heaters : Vector Bool 3
  pf : Bool
  deriving DecidableEq, Repr

/-- R89, R92: the grants are stored; a grant of 0 ends a blocked episode. -/
def storeGrants (g : Grants) (q : Sequencer) : Sequencer :=
  { q with
    fanGrant := g.fan
    pfGrant := g.pf
    comps := q.comps.mapFinIdx fun i c h => { c with grant := g.comps[i], blocked := c.blocked && g.comps[i] }
    heaters := q.heaters.mapFinIdx fun i c h => { c with grant := g.heaters[i] } }

/-- R89 step 1, R94: a compressor in RUN whose stored grant is 0 stops. -/
def stopUngranted (i : CompId) (s : State) : State :=
  let c := s.seq.comps[i]
  if c.state = .run ∧ c.grant = false then stopComp i 0 s else s

/-- R89 steps 2 to 4: the fan, heater stage and PF lines; all stay off while the interlock is active. -/
def setLines (s : State) : State :=
  let q := s.seq
  modSeq (fun q => { q with pfLine := q.pfGrant && !q.interlock.active })
    (heatersGranted (modSeq (driveFan (if q.interlock.active then 0 else q.fanGrant)) s))

/-- R89: the grant event; of two compressors that lose their grants in RUN, C1 stops first (DESIGN CHOICE, log 27). -/
def grantEvent (g : Grants) (s : State) : State :=
  startTests (setLines (stopUngranted 1 (stopUngranted 0 (modSeq (storeGrants g) s))))

/-! ## Timers and seconds -/

/-- R95: the minimum off timer expires. -/
def minOffEnd (i : CompId) (s : State) : State :=
  startTest i (setComp i { s.seq.comps[i] with state := .offReady, offTimer := none } s)

/-- R93: the minimum on timer expires. -/
def minOnEnd (i : CompId) (s : State) : State :=
  let c := s.seq.comps[i]
  if c.grant then setComp i { c with state := .run, onTimer := none } s
  else stopComp i 1 s

/-- R90, R97: histories pruned and run seconds added at a second of part time. -/
def compSecond (pt : Word) (c : Compressor) : Compressor :=
  { c with
    history := prune pt c.history
    runSeconds := if running c ∧ c.runSeconds < Config.maxCount32 then c.runSeconds + 1 else c.runSeconds }

/-- R90, R91, R97: one second of the Sequencer, the start tests C1 first (DESIGN CHOICE, log 27). -/
def seqSecond (s : State) : State :=
  startTests (modSeq (fun q => { q with comps := q.comps.map (compSecond s.pt) }) s)

/-- R96, R98, R100: the proof-loss timer expires; of two running compressors C1 stops first (DESIGN CHOICE, log 27). -/
def proofLoss (s : State) : State :=
  modSeq (fun q => { heatersOff q with lossTimer := none }) (forceStop 1 3 (forceStop 0 3 s))

/-- R100: the proof-fail timer expires. -/
def proofFail (s : State) : State :=
  let s1 := modSeq (fun q => { q with failTimer := none }) s
  if s.seq.proof = .failed then s1
  else post .fanProofFail 0 s.seq.fanLevel (modSeq (fun q => { q with proof := .failed }) s1)

/-! ## Accepted changes of the inputs (R86, R100, R102) -/

/-- R102: the stored grants set to 0, which ends blocked episodes (R92). -/
def noGrants : Grants := ⟨0, #v[false, false], #v[false, false, false], false⟩

/-- R102: every line and output off. -/
def linesOff (q : Sequencer) : Sequencer :=
  { heatersOff (driveFan 0 q) with pfLine := false, valve := 0 }

/-- R102, R135: INTERLOCK becomes active; of two running compressors C1 stops first (DESIGN CHOICE, log 27). -/
def acceptInterlockOn (s : State) : State :=
  let n := runningCount s
  let s1 := post .interlockOn 0 n
    (modSeq (fun q => { q with interlock := ⟨true, 0⟩, interlockTicks := 0 }) s)
  let s2 := forceStop 1 2 (forceStop 0 2 (modSeq (storeGrants noGrants) s1))
  fillSafety (modSeq linesOff s2)

/-- The whole seconds an interlock was active, saturating (R102). -/
def interlockSeconds (s : State) : Nat := min (s.seq.interlockTicks / Config.ticksPerSecond) 32767

/-- R102, R135: INTERLOCK becomes inactive. -/
def acceptInterlockOff (s : State) : State :=
  let n := interlockSeconds s
  emptySafety (post .interlockOff 0 n
    (modSeq (fun q => { q with interlock := ⟨false, 0⟩, interlockTicks := 0, valve := s.climate.dh }) s))

/-- R86, R105: COVER_LIMIT changes. -/
def acceptCoverLimit (level : Bool) (s : State) : State :=
  evaluateCover (modSeq (fun q => { q with coverLimit := ⟨level, 0⟩ }) s)

/-- R100: FAN_PROOF becomes active: PROVEN, both proof timers stopped, compressors (C1 first; DESIGN CHOICE, log 27) and
stages tested. -/
def acceptProofActive (s : State) : State :=
  heatersOn (startTests (modSeq (fun q =>
    { q with fanProof := ⟨true, 0⟩, proof := .proven, lossTimer := none, failTimer := none }) s))

/-- R100: FAN_PROOF becomes inactive: UNPROVEN, and the proof timers start. -/
def acceptProofInactive (s : State) : State :=
  modSeq (fun q =>
    { q with
      fanProof := ⟨false, 0⟩
      proof := .unproven
      lossTimer := some Config.proofLossTicks
      failTimer := if q.fanLevel = 0 then none else some Config.proofFailTicks }) s

/-- R85: the change count of an input after a sample that is not the fifth differing one. -/
def countSample (d : Debounced) (level : Bool) : Debounced :=
  if level = d.active then { d with count := 0 } else { d with count := d.count + 1 }

/-- R85: the sample is the fifth consecutive one that differs. -/
def fifthSample (d : Debounced) (level : Bool) : Bool := level ≠ d.active && 5 ≤ d.count + 1

/-- R85: one sample of COVER_LIMIT. -/
def sampleCover (level : Bool) (s : State) : State :=
  if fifthSample s.seq.coverLimit level then acceptCoverLimit level s
  else modSeq (fun q => { q with coverLimit := countSample q.coverLimit level }) s

/-- R85: one sample of INTERLOCK. -/
def sampleInterlock (level : Bool) (s : State) : State :=
  if fifthSample s.seq.interlock level then (if level then acceptInterlockOn s else acceptInterlockOff s)
  else modSeq (fun q => { q with interlock := countSample q.interlock level }) s

/-- R85: one sample of FAN_PROOF. -/
def sampleFanProof (level : Bool) (s : State) : State :=
  if fifthSample s.seq.fanProof level then (if level then acceptProofActive s else acceptProofInactive s)
  else modSeq (fun q => { q with fanProof := countSample q.fanProof level }) s

/-- R85: one sample of the three inputs, in the order COVER_LIMIT, INTERLOCK, FAN_PROOF (DESIGN CHOICE, log 7). -/
def sampleInputs (cover interlock fanProof : Bool) (s : State) : State :=
  sampleFanProof fanProof (sampleInterlock interlock (sampleCover cover s))

/-! ## Hall mode and writes -/

/-- R54, R98: a change into SERVICE switches every stage off and clears the stages' stored grants. -/
def seqModeEvent (new : Mode) (s : State) : State :=
  if new = .service then
    modSeq (fun q => { q with heaters := q.heaters.map fun _ => ⟨false, false⟩ }) s
  else s

/-- R88: WRITE_ITEM of class COMPRESSOR. -/
def ownWriteCompressor (index : Byte) (minOff minOn : Half) (limit : Byte) (s : State) : State × Answer :=
  match indexBelow 2 index with
  | none => refuse .badItem s
  | some i =>
    if s.store.busy then refuse .busy s
    else
      let off := clampNat minOff.toNat 60 900
      let on := clampNat minOn.toNat 60 900
      let lim := clampNat limit.toNat 1 12
      let c := s.seq.comps[i]
      let s1 := setComp i { c with cfg := ⟨off, on, lim⟩ } s
      (refreshLimit i (startLimit s.alloc c) s1,
       answer (okOrClamped (off ≠ minOff.toNat || on ≠ minOn.toNat || lim ≠ limit.toNat)))

end Sys2Proof.Machine
end

