-- ==== Sys2Proof/Machine/Modes.lean ====
section
/-! DEFINITION. The Mode Controller (chapter 3). -/

namespace Sys2Proof.Machine

/-- R51: a change of hall mode is taken: the record, MODE_CHANGED, and the change as an event at the programme, the
Scene Controller and the Sequencer. -/
def changeMode (new : Mode) (s : State) : State :=
  let old := s.mode.mode
  let s1 : State := { s with mode := { s.mode with mode := new, previous := old, changeTime := s.pt } }
  seqModeEvent new (lightModeEvent new (coverModeEvent old new
    (post .modeChanged (modeCode new) (modeCode old) s1)))

/-- R49: SET_MODE with target HALL, and a target that is neither HALL nor START. -/
def ownSetModeHall (mode target : Byte) (s : State) : State × Answer :=
  match modeOf mode with
  | none => refuse .badValue s
  | some m =>
    if target ≠ 0 then refuse .badValue s
    else if m = s.mode.mode then (s, answer .ok)
    else if m = .preopen ∧ s.mode.mode ≠ .night then refuse .notInMode s
    else (changeMode m s, answer .ok)

/-- R50: SET_MODE with target START. -/
def ownSetModeStart (mode : Byte) (s : State) : State × Answer :=
  match modeOf mode with
  | none => refuse .badValue s
  | some m =>
    if m = .preopen then refuse .badValue s
    else if s.store.busy then refuse .busy s
    else ({ s with mode := { s.mode with startMode := m } }, answer .ok)

end Sys2Proof.Machine
end

