-- ==== Sys2Proof/Machine/Climate.lean ====
section
/-! DEFINITION. The Climate Computer (chapter 2): the water record, the climate configuration and the computation in
its stages. -/

namespace Sys2Proof.Machine

/-! ## Channels the computation reads (R10, R27, R30, R31) -/

/-- The settled values of the available channels that a test picks, in channel order. -/
def readings (s : State) (pick : ChannelCfg → Bool) : List Int :=
  (List.finRange 16).filterMap fun n =>
    if available s n && pick s.channels[n].cfg then some s.channels[n].settled else none

/-- The available AIR_T channels (R27). -/
def airTemps (s : State) : List Int := readings s fun c => c.kind = .airT

/-- The zone's available AIR_T channel (R28). -/
def zoneTemp (s : State) (z : Nat) : Option Int := (readings s fun c => c.kind = .airT && c.zone = z).head?

/-- The zone's available AIR_RH channel (R29). -/
def zoneRh (s : State) (z : Nat) : Option Int := (readings s fun c => c.kind = .airRh && c.zone = z).head?

/-- The available GLAZE_T channels (R31). -/
def glazeTemps (s : State) : List Int := readings s fun c => c.kind = .glazeT

/-! ## Dew points (R28, R29) -/

/-- es_i of Table 2-1. -/
def esAt (i : Nat) : Nat := Config.saturation.getD i 0

/-- R28: the saturation vapour pressure at an air temperature. -/
def saturationAt (t : Int) : Nat :=
  let tc := (clampInt t 0 480).toNat
  let i := tc / 20
  if i = 24 then 11171 else esAt i + (esAt (i + 1) - esAt i) * (tc - 20 * i) / 20

/-- R29: relative humidity clamped to 0..1000. -/
def clampRh (rh : Int) : Nat := (clampInt rh 0 1000).toNat

/-- R29: the vapour pressure of a zone. -/
def vapourPressure (t rh : Int) : Nat := clampRh rh * saturationAt t / 1000

/-- R29: the largest index j with es_j at or below e, for e in 611..11170. -/
def dewIndex (e : Nat) : Nat := (Config.saturation.takeWhile fun x => x ≤ e).length - 1

/-- R29: the dew point of a vapour pressure before the zone's own limit. -/
def dewOfPressure (e : Nat) : Nat :=
  if e < 611 then 0
  else if 11171 ≤ e then 480
  else
    let j := dewIndex e
    20 * j + 20 * (e - esAt j) / (esAt (j + 1) - esAt j)

/-- What one zone that counts for moisture gives (R29, R30). -/
structure ZoneAir where
  dew : Int
  rh : Nat
  floor : Bool
  deriving DecidableEq, Repr

/-- R29: a zone's dew point, its humidity and its DEW_FLOOR result. -/
def zoneAir (t rh : Int) : ZoneAir :=
  let e := vapourPressure t rh
  ⟨min (dewOfPressure e : Int) t, clampRh rh, e < 611⟩

/-- R30: the zones that count for moisture. -/
def moistZones (s : State) : List ZoneAir :=
  [0, 1, 2].filterMap fun z =>
    match zoneTemp s z, zoneRh s z with
    | some t, some rh => some (zoneAir t rh)
    | _, _ => none

/-! ## The blind conditions (R27, R30) -/

/-- R27: no zone counts for heat. -/
def heatBlindNow (s : State) : Bool := (airTemps s).isEmpty

/-- R30: no zone counts for moisture. -/
def moistBlindNow (s : State) : Bool := (moistZones s).isEmpty

/-! ## Stages -/

/-- The largest of a list, from a first element. -/
def largest (x : Int) (xs : List Int) : Int := xs.foldl max x

/-- The smallest of a list, from a first element. -/
def smallest (x : Int) (xs : List Int) : Int := xs.foldl min x

/-- R27: Th. -/
def stageTh (s : State) (c : Climate) : Climate :=
  match airTemps s with
  | [] => c
  | ts => { c with th := Int.tdiv ts.sum ts.length }

/-- R30: Tdh, RHmax and DEW_FLOOR. -/
def stageDew (s : State) (c : Climate) : Climate :=
  match moistZones s with
  | [] => c
  | z :: zs =>
    { c with
      tdh := largest z.dew (zs.map ZoneAir.dew)
      rhMax := (zs.map ZoneAir.rh).foldl max z.rh
      dewFloor := (z :: zs).any ZoneAir.floor }

/-- R31: Tg and GLAZE_SUBST, from the Th of this computation. -/
def stageGlaze (s : State) (c : Climate) : Climate :=
  match glazeTemps s with
  | t :: ts => { c with tg := smallest t ts, glazeSubst := false }
  | [] => if heatBlindNow s then c else { c with tg := c.th - s.climateCfg.substituteDrop, glazeSubst := true }

/-- R32: M and the condensation flag. -/
def stageMargin (s : State) (c : Climate) : Climate :=
  if moistBlindNow s then c else { c with m := c.tg - c.tdh, condensation := c.tg - c.tdh ≤ 0 }

/-- R34: the water temperature in use. -/
def waterInUse (s : State) : Int :=
  if s.water.stale then s.climateCfg.fallbackWater
  else match s.water.reported with
    | some t => t
    | none => s.climateCfg.fallbackWater

/-- R35: the air setpoint for a mode and a water temperature. -/
def setpoint (cfg : ClimateCfg) (cap : Int) (m : Mode) (tw : Int) : Int :=
  let hi := min cfg.sHi cap
  let lo := min cfg.sLo hi
  match m with
  | .hallOpen | .preopen => clampInt (tw + cfg.dayOffset) lo hi
  | .night => clampInt (tw + cfg.nightOffset) lo hi
  | .service => min cfg.serviceSetpoint cap

/-- R34, R35: Tw in use and S. -/
def stageSetpoint (s : State) (c : Climate) : Climate :=
  { c with tw := waterInUse s, s := setpoint s.climateCfg (sHiCap s) s.mode.mode (waterInUse s) }

/-- R37: the integrator is frozen for an error e. -/
def frozen (prevDh : Nat) (heatHeld : Bool) (e : Int) : Bool :=
  (prevDh = 1000 && 0 < e) || (prevDh = 0 && e < 0) || (heatHeld && 0 < e)

/-- R36: the integrator after a computation that is not heat-blind. -/
def nextI16 (cfg : ClimateCfg) (i16 prevDh : Nat) (heatHeld : Bool) (e : Int) : Nat :=
  if frozen prevDh heatHeld e then i16 else (clampInt (i16 + cfg.ki * e) 0 16000).toNat

/-- R38: the compressor and lighting credits. -/
def credits (s : State) : Nat :=
  runningCount s * s.climateCfg.kc + s.climateCfg.kl * (appliedLighting s.light / 10)

/-- R36, R38: the heating demand from the proportional term, the integrator and the credits. -/
def heatDemand (cfg : ClimateCfg) (i16 : Nat) (e : Int) (credit : Nat) : Nat :=
  (clampInt (cfg.kp * e + (i16 / 16 : Nat) - credit) 0 1000).toNat

/-- R42: a blind counter one computation on. -/
def blindCount (n : Nat) : Nat := if n < 30 then n + 1 else n

/-- R42, R43: a demand in a blind computation: the blind demand when the counter has just reached 30, else held. -/
def blindDemand (count prev demand : Nat) : Nat := if count < 30 ∧ count + 1 = 30 then demand else prev

/-- R36 to R38, R42: heating. -/
def stageHeat (s : State) (c : Climate) : Climate :=
  if heatBlindNow s then
    { c with dh := blindDemand c.heatCount c.dh 300, heatCount := blindCount c.heatCount,
             heatBlind := c.heatBlind || c.heatCount = 0 }
  else
    let e := c.s - c.th
    let i := nextI16 s.climateCfg c.i16 c.dh s.alloc.heatHeld e
    { c with i16 := i, dh := heatDemand s.climateCfg i e (credits s), heatCount := 0, heatBlind := false }

/-- R39: the humidity-driven demand. -/
def humidityDemand (cfg : ClimateCfg) (m : Mode) (rhMax : Nat) : Nat :=
  let rt := if m = .night then cfg.nightTarget else cfg.dayTarget
  (clampInt (cfg.kr * ((rhMax : Int) - rt)) 0 1000).toNat

/-- R39: the glazing-driven demand. -/
def glazeDemand (cfg : ClimateCfg) (m : Int) : Nat := (clampInt (cfg.kg * ((cfg.mSet : Int) - m)) 0 1000).toNat

/-- R41: Dd moves toward Dt by at most the slew, which is bypassed upward while M is 0 or below. -/
def slewDd (slew prev target : Nat) (m : Int) : Nat :=
  if prev < target then (if m ≤ 0 then target else min target (prev + slew))
  else if target < prev then max target (prev - slew)
  else prev

/-- R39 to R41, R43: dehumidifying. -/
def stageDehum (s : State) (c : Climate) : Climate :=
  if moistBlindNow s then
    { c with dd := blindDemand c.moistCount c.dd 500, moistCount := blindCount c.moistCount,
             moistBlind := c.moistBlind || c.moistCount = 0 }
  else
    let dr := humidityDemand s.climateCfg s.mode.mode c.rhMax
    let dg := glazeDemand s.climateCfg c.m
    let force := forceTripped s
    let dt := if force then 1000 else max dr dg
    { c with
      dd := slewDd s.climateCfg.slew c.dd dt c.m
      protective := force || (dr ≤ dg && 0 < dg)
      moistCount := 0
      moistBlind := false }

/-- R25: the new climate record, from the inputs as they stand and the previous record. -/
def computeClimate (s : State) : Climate :=
  stageDehum s (stageHeat s (stageSetpoint s (stageMargin s (stageGlaze s (stageDew s (stageTh s s.climate))))))

/-! ## The computation (R25) -/

/-- A notice posted where a condition holds. -/
def postIf (b : Bool) (code : Code) (subject : Nat) (value : Int) (s : State) : State :=
  if b then post code subject value s else s

/-- R25: the notices of a computation, in their order, from the previous and the new record. -/
def climateNotices (heat moist : Bool) (old new : Climate) (s : State) : State :=
  let s1 := postIf (heat && old.heatCount = 0) .climateBlind 0 old.dh s
  let s2 := postIf (moist && old.moistCount = 0) .climateBlind 1 old.dd s1
  let s3 := postIf (!old.glazeSubst && new.glazeSubst) .glazeSubst 0 new.tg s2
  let s4 := postIf (!old.condensation && new.condensation) .condensation 0 new.m s3
  postIf (old.condensation && !new.condensation) .condensation 1 new.m s4

/-- R20: how a computation reaches the watches on climate sources, on the values it has just produced. -/
def climateReach (heat moist glazeValid : Bool) (c : Climate) (src : WatchSource) : Option (Option Int) :=
  match src with
  | .hallT => some (if heat then none else some c.th)
  | .hallDew => some (if moist then none else some c.tdh)
  | .margin => some (if moist || (heat && !glazeValid) then none else some c.m)
  | .dh => some (some c.dh)
  | .dd => some (some c.dd)
  | .none | .channel _ => none

/-- R20: some GLAZE_T channel is VALID. -/
def glazeValid (s : State) : Bool :=
  s.channels.toList.any fun c => decide (c.cfg.kind = .glazeT) && decide (c.status = .valid)

/-- R101: the valve output follows Dh while the interlock is inactive. -/
def setValve (s : State) : State :=
  modSeq (fun q => { q with valve := if q.interlock.active then 0 else s.climate.dh }) s

/-- R25: one climate computation. -/
def computation (s : State) : State :=
  let new := computeClimate s
  let heat := heatBlindNow s
  let moist := moistBlindNow s
  reachWatches (climateReach heat moist (glazeValid s) new)
    (climateNotices heat moist s.climate new (setValve { s with climate := new }))

/-! ## The water record and the configuration -/

/-- R34: one second of the water record. -/
def waterSecond (s : State) : State :=
  let age := if s.water.age < 7200 then s.water.age + 1 else s.water.age
  { s with water := { s.water with age := age, stale := s.water.stale || s.climateCfg.waterHold ≤ age } }

/-- R33: REPORT_WATER. -/
def ownReportWater (t : Half) (s : State) : State × Answer :=
  let v := clampInt t.toInt 150 380
  ({ s with water := ⟨some v, 0, false⟩ }, answer (okOrClamped (v ≠ t.toInt)))

/-- The climate configuration that eighteen written fields give, each clamped into its range, and whether one was
(R26). Fallback, offsets, S_lo, S_hi and the service setpoint are signed (R172, DEDUCED, log 11). -/
def climateCfgOf (f : List Half) : Option (ClimateCfg × Bool) :=
  match f with
  | [f0, f1, f2, f3, f4, f5, f6, f7, f8, f9, f10, f11, f12, f13, f14, f15, f16, f17] =>
    let cfg : ClimateCfg :=
      { substituteDrop := clampNat f0.toNat 0 200, waterHold := clampNat f1.toNat 60 7200,
        fallbackWater := clampInt f2.toInt 150 380, dayOffset := clampInt f3.toInt (-50) 100,
        nightOffset := clampInt f4.toInt (-50) 100, sLo := clampInt f5.toInt 150 400,
        sHi := clampInt f6.toInt 150 400, serviceSetpoint := clampInt f7.toInt 150 400,
        kp := clampNat f8.toNat 0 100, ki := clampNat f9.toNat 0 50, kc := clampNat f10.toNat 0 500,
        kl := clampNat f11.toNat 0 20, dayTarget := clampNat f12.toNat 300 900,
        nightTarget := clampNat f13.toNat 300 900, kr := clampNat f14.toNat 0 100, kg := clampNat f15.toNat 0 100,
        mSet := clampNat f16.toNat 0 200, slew := clampNat f17.toNat 10 1000 }
    let same : Bool :=
      cfg.substituteDrop = f0.toNat && cfg.waterHold = f1.toNat && cfg.fallbackWater = f2.toInt
        && cfg.dayOffset = f3.toInt && cfg.nightOffset = f4.toInt && cfg.sLo = f5.toInt && cfg.sHi = f6.toInt
        && cfg.serviceSetpoint = f7.toInt && cfg.kp = f8.toNat && cfg.ki = f9.toNat && cfg.kc = f10.toNat
        && cfg.kl = f11.toNat && cfg.dayTarget = f12.toNat && cfg.nightTarget = f13.toNat && cfg.kr = f14.toNat
        && cfg.kg = f15.toNat && cfg.mSet = f16.toNat && cfg.slew = f17.toNat
    some (cfg, !same)
  | _ => none

/-- R26: WRITE_ITEM of class CLIMATE_CFG. -/
def ownWriteClimateCfg (index : Byte) (fields : List Half) (s : State) : State × Answer :=
  if index ≠ 0 then refuse .badItem s
  else if s.store.busy then refuse .busy s
  else match climateCfgOf fields with
    | none => refuse .badLength s
    | some (cfg, clamped) =>
      if cfg.sHi < cfg.sLo then refuse .badValue s
      else ({ s with climateCfg := cfg }, answer (okOrClamped clamped))

end Sys2Proof.Machine
end

