-- ==== Sys2Proof/Machine/Allocator.lean ====
section
/-! DEFINITION. The Plant Allocator (chapter 4): requests, lead and classes, the walk of the allowance, shedding,
the limits check, energy, and the requests it owns. -/

namespace Sys2Proof.Machine

/-! ## Requests (R64 to R68) -/

/-- R64: the compressor request count from the count of the last pass and Dd. -/
def nextCount (old dd : Nat) : Nat :=
  match old with
  | 0 => if 700 ≤ dd then 2 else if 300 ≤ dd then 1 else 0
  | 1 => if 700 ≤ dd then 2 else if 200 ≤ dd then 1 else 0
  | _ => if 600 ≤ dd then 2 else if 200 ≤ dd then 1 else 0

/-- R65: a heater stage's request from its request at the last pass and Dh. -/
def nextHeater (on off : Nat) (was : Bool) (dh : Nat) : Bool := if was then off ≤ dh else on ≤ dh

/-- R65: the three stages. -/
def nextHeaters (was : Vector Bool 3) (dh : Nat) : Vector Bool 3 :=
  #v[nextHeater 700 600 was[0] dh, nextHeater 850 750 was[1] dh, nextHeater 950 880 was[2] dh]

/-- R53: the fan's minimum level by mode. -/
def fanMinimum : Mode → Nat
  | .hallOpen | .preopen => 2
  | .night | .service => 1

/-- R66: the fan's demand level. -/
def fanDemand (d : Nat) : Nat := if 800 ≤ d then 4 else if 500 ≤ d then 3 else if 250 ≤ d then 2 else 1

/-- R67: the programme states in which PF is requested. -/
def pfWanted : Prog → Bool
  | .purge | .preopen | .alert | .disagree => true
  | .idle | .settle | .rest | .released => false

/-- The requests of a pass (R64 to R68). -/
structure Requests where
  count : Nat
  heaters : Vector Bool 3
  fan : Nat
  fanClass2 : Nat
  pf : Bool
  lt : Nat
  deriving DecidableEq, Repr

/-- R68: SERVICE and the interlock withdraw the compressor and heater requests. -/
def withdrawn (s : State) : Bool := s.mode.mode = .service || s.seq.interlock.active

/-- R64 to R68: the requests formed at a pass. -/
def formRequests (s : State) : Requests :=
  let n := if withdrawn s then 0 else nextCount s.alloc.count s.climate.dd
  let airflow := if 0 < n then 2 else 0
  let low := max (fanMinimum s.mode.mode) airflow
  { count := n
    heaters := if withdrawn s then #v[false, false, false] else nextHeaters s.alloc.heaterReq s.climate.dh
    fan := if s.seq.interlock.active then 0 else max low (fanDemand (max s.climate.dh s.climate.dd))
    fanClass2 := if s.seq.interlock.active then 0 else low
    pf := pfWanted s.cover.prog && !s.seq.interlock.active
    lt := requestR s.light }

/-! ## Lead and lag (R69, R70) -/

/-- The other compressor. -/
def otherComp (i : CompId) : CompId := if i = 0 then 1 else 0

/-- R69: the lead of a pass. -/
def nextLead (s : State) : CompId :=
  match running s.seq.comps[0], running s.seq.comps[1] with
  | true, true => s.alloc.lead
  | true, false => 0
  | false, true => 1
  | false, false => if s.seq.comps[1].runSeconds < s.seq.comps[0].runSeconds then 1 else 0

/-- R70: a compressor at its start limit, counting entries younger than 3600 s. -/
def atStartLimit (s : State) (c : Compressor) : Bool :=
  startLimit s.alloc c ≤ (c.history.filter fun e => entryAge s.pt e < Config.historySeconds).length

/-- R70: a compressor that is off and can start. -/
def canStart (s : State) (c : Compressor) : Bool := c.state = .offReady && !atStartLimit s c

/-- R70: a compressor that is off and cannot start. -/
def cannotStart (s : State) (c : Compressor) : Bool :=
  c.state = .offLocked || (c.state = .offReady && atStartLimit s c)

/-- R70: the compressor that a count of 1 requests. -/
def requestedOne (lead : CompId) (s : State) : CompId :=
  if cannotStart s s.seq.comps[lead] && canStart s s.seq.comps[otherComp lead] then otherComp lead else lead

/-- R70: the request count placed on the compressors. -/
def placeCount (n : Nat) (lead : CompId) (s : State) : Vector Bool 2 :=
  match n with
  | 0 => #v[false, false]
  | 1 => #v[decide (requestedOne lead s = 0), decide (requestedOne lead s = 1)]
  | _ => #v[true, true]

/-! ## Committed draw (R71, R73) -/

/-- A compressor in RUN_MIN, whose draw is committed. -/
def inRunMin (s : State) (i : CompId) : Bool := s.seq.comps[i].state = .runMin

/-- R71: PF is committed. -/
def pfCommitted (s : State) (wanted : Bool) : Bool :=
  wanted && (s.cover.prog = .alert || (s.cover.prog = .preopen && alertTripped s))

/-- R73: the committed draw of a pass. -/
def committedDraw (s : State) (rq : Requests) : Nat :=
  floorDraw s.light
    + (if inRunMin s 0 then compDraw s.alloc.draws 0 else 0)
    + (if inRunMin s 1 then compDraw s.alloc.draws 1 else 0)
    + (if pfCommitted s rq.pf then pfDraw s.alloc.draws else 0)

/-! ## The walk (R74 to R76) -/

/-- R74: a whole item is granted when it is asked for and its draw fits. -/
def fits (want : Bool) (draw left : Nat) : Bool := want && draw ≤ left

/-- What is left after an item's grant. -/
def spend (granted : Bool) (draw left : Nat) : Nat := if granted then left - draw else left

/-- The highest level from `low` up to `low + n` whose draw above that of `low` fits. -/
def highestFan (d : Draws) (low left : Nat) : Nat → Nat
  | 0 => low
  | n + 1 => if fanDraw d (low + n + 1) - fanDraw d low ≤ left then low + n + 1 else highestFan d low left n

/-- The compressors' turn in a class, lead first: the grants of lead and lag and what is left. -/
structure PairGrant where
  lead : Bool
  lag : Bool
  left : Nat
  deriving DecidableEq, Repr

/-- R71, R74: the compressors walked in one class, lead first. -/
def walkPair (d : Draws) (lead : CompId) (wantLead wantLag : Bool) (left : Nat) : PairGrant :=
  let a := fits wantLead (compDraw d lead) left
  let l1 := spend a (compDraw d lead) left
  let b := fits wantLag (compDraw d (otherComp lead)) l1
  ⟨a, b, spend b (compDraw d (otherComp lead)) l1⟩

/-- The outcome of the walk of classes 2 to 6. -/
structure Walk where
  fan2 : Nat
  fan : Nat
  leadOn : Bool
  lagOn : Bool
  pf : Bool
  heaters : Vector Bool 3
  lt : Nat
  left : Nat
  deriving DecidableEq, Repr

/-- R74 to R76: classes 2 to 6 in order, each request against what is left. `wantLead` and `wantLag` are requested
compressors not in RUN_MIN, and `wantPf` a requested PF that is not committed. -/
def walk (d : Draws) (rq : Requests) (lead : CompId) (protective wantLead wantLag wantPf : Bool) (left0 : Nat) :
    Walk :=
  let fan2 := highestFan d 0 left0 rq.fanClass2
  let l1 := left0 - fanDraw d fan2
  let p2 := walkPair d lead (wantLead && protective) (wantLag && protective) l1
  let pf := fits wantPf (pfDraw d) p2.left
  let l2 := spend pf (pfDraw d) p2.left
  let h1 := fits rq.heaters[0] (heaterDraw d 0) l2
  let l3 := spend h1 (heaterDraw d 0) l2
  let h2 := fits rq.heaters[1] (heaterDraw d 1) l3
  let l4 := spend h2 (heaterDraw d 1) l3
  let h3 := fits rq.heaters[2] (heaterDraw d 2) l4
  let l5 := spend h3 (heaterDraw d 2) l4
  let lt := min rq.lt l5
  let p5 := walkPair d lead (wantLead && !protective) (wantLag && !protective) (l5 - lt)
  let fan := if rq.fanClass2 < rq.fan then highestFan d fan2 p5.left (rq.fan - fan2) else fan2
  { fan2 := fan2, fan := fan, leadOn := p2.lead || p5.lead, lagOn := p2.lag || p5.lag, pf := pf,
    heaters := #v[h1, h2, h3], lt := lt, left := p5.left - (fanDraw d fan - fanDraw d fan2) }

/-- The sum of the class 2 to 6 grants of a walk (R60). -/
def grantedDraw (d : Draws) (lead : CompId) (w : Walk) : Nat :=
  fanDraw d w.fan2 + (fanDraw d w.fan - fanDraw d w.fan2)
    + (if w.leadOn then compDraw d lead else 0) + (if w.lagOn then compDraw d (otherComp lead) else 0)
    + (if w.pf then pfDraw d else 0)
    + (if w.heaters[0] then heaterDraw d 0 else 0) + (if w.heaters[1] then heaterDraw d 1 else 0)
    + (if w.heaters[2] then heaterDraw d 2 else 0) + w.lt

/-! ## The plan of a pass -/

/-- What a pass decides before it writes its records. -/
structure Plan where
  requests : Requests
  lead : CompId
  comps : Vector Bool 2
  committed : Nat
  walk : Walk
  grants : Grants
  deriving DecidableEq, Repr

/-- R74: the granted level of a compressor: 1 without test when requested in RUN_MIN, else the walk's grant. -/
def compGranted (s : State) (lead : CompId) (comps : Vector Bool 2) (w : Walk) (i : CompId) : Bool :=
  if inRunMin s i then comps[i] else if i = lead then w.leadOn else w.lagOn

/-- R64 to R76: the requests, lead, committed draw, walk and grants of a pass. -/
def planPass (s : State) : Plan :=
  let rq := formRequests s
  let lead := nextLead s
  let comps := placeCount rq.count lead s
  let committed := committedDraw s rq
  let want (i : CompId) : Bool := comps[i] && !inRunMin s i
  let w := walk s.alloc.draws rq lead s.climate.protective (want lead) (want (otherComp lead))
    (rq.pf && !pfCommitted s rq.pf) (s.alloc.allowance - committed)
  { requests := rq, lead := lead, comps := comps, committed := committed, walk := w
    grants :=
      { fan := w.fan
        comps := #v[compGranted s lead comps w 0, compGranted s lead comps w 1]
        heaters := w.heaters
        pf := pfCommitted s rq.pf || w.pf } }

/-! ## Records of a pass (R61, R74 to R78) -/

/-- R70, R71: the class in force of a compressor. -/
def compClass (s : State) (requested : Bool) (i : CompId) : ConsumerClass :=
  if inRunMin s i then .committed
  else if requested then (if s.climate.protective then .protective else .comfort)
  else .none

/-- A consumer record with the level, grant and class of a pass; the energy fields are not touched. -/
def setConsumer (c : Consumer) (requested granted : Nat) (cls : ConsumerClass) (class2 : Nat) (held : Bool) :
    Consumer :=
  { c with requested := requested, granted := granted, cls := cls, class2 := class2, held := held }

/-- A whole item's record: requested and granted levels 0 or 1, held when refused (R74). -/
def setItem (c : Consumer) (requested granted : Bool) (cls : ConsumerClass) : Consumer :=
  setConsumer c requested.toNat granted.toNat cls 0 (requested && !granted)

/-- R61: the consumer records after a pass. -/
def consumersAfter (s : State) (p : Plan) : Vector Consumer 8 :=
  let cs := s.alloc.consumers
  let rq := p.requests
  #v[setConsumer cs[0] rq.fan p.grants.fan (if 0 < rq.fanClass2 then .protective else .none) rq.fanClass2
       (p.grants.fan < rq.fan),
     setItem cs[1] p.comps[0] p.grants.comps[0] (compClass s p.comps[0] 0),
     setItem cs[2] p.comps[1] p.grants.comps[1] (compClass s p.comps[1] 1),
     setItem cs[3] rq.heaters[0] p.grants.heaters[0] (if rq.heaters[0] then .heating else .none),
     setItem cs[4] rq.heaters[1] p.grants.heaters[1] (if rq.heaters[1] then .heating else .none),
     setItem cs[5] rq.heaters[2] p.grants.heaters[2] (if rq.heaters[2] then .heating else .none),
     setItem cs[6] rq.pf p.grants.pf
       (if pfCommitted s rq.pf then .committed else if rq.pf then .protective else .none),
     setConsumer cs[7] rq.lt p.walk.lt (if 0 < rq.lt then .lighting else .none) 0 (0 < rq.lt && p.walk.lt = 0)]

/-- R78: HEAT_HELD. -/
def heatHeldOf (p : Plan) : Bool :=
  (p.requests.heaters[0] && !p.grants.heaters[0]) || (p.requests.heaters[1] && !p.grants.heaters[1])
    || (p.requests.heaters[2] && !p.grants.heaters[2])

/-- R78: DEHUM_HELD. -/
def dehumHeldOf (p : Plan) : Bool :=
  (p.comps[0] && !p.grants.comps[0]) || (p.comps[1] && !p.grants.comps[1])

/-- R60, R67, R73 to R78: the allowance record and consumer records after a pass, with the floor draw reported to it. -/
def recordPass (s : State) (p : Plan) : State :=
  modAlloc (fun a =>
    { a with
      committed := p.committed
      remaining := p.walk.left
      granted := grantedDraw a.draws p.lead p.walk
      overCommit := a.allowance < p.committed
      heatHeld := heatHeldOf p
      dehumHeld := dehumHeldOf p
      lead := p.lead
      count := p.requests.count
      heaterReq := p.requests.heaters
      consumers := consumersAfter s p
      ltDraw := floorDraw s.light }) s

/-! ## Notices of a pass (R73, R77) -/

/-- R63, R77: each consumer that may be shed: its index, whether it runs and meets its row of R77 but for the grant,
whether it was requested, whether it is granted. A zero-draw item does not run (DEDUCED, log 19). -/
def shedTable (s : State) (p : Plan) : List (Nat × Bool × Bool × Bool) :=
  let q := s.seq
  [(0, consumerRuns s 0 && 0 < q.fanLevel, 0 < p.requests.fan, 0 < p.grants.fan),
   (1, consumerRuns s 1 && q.comps[0].state = .run, p.comps[0], p.grants.comps[0]),
   (2, consumerRuns s 2 && q.comps[1].state = .run, p.comps[1], p.grants.comps[1]),
   (3, consumerRuns s 3 && q.heaters[0].line, p.requests.heaters[0], p.grants.heaters[0]),
   (4, consumerRuns s 4 && q.heaters[1].line, p.requests.heaters[1], p.grants.heaters[1]),
   (5, consumerRuns s 5 && q.heaters[2].line, p.requests.heaters[2], p.grants.heaters[2]),
   (6, consumerRuns s 6 && q.pfLine, p.requests.pf, p.grants.pf)]

/-- R77: SHED for each consumer that runs and is not granted, in consumer order. -/
def postSheds (rows : List (Nat × Bool × Bool × Bool)) (s : State) : State :=
  rows.foldl (fun acc r =>
    if r.2.1 && !r.2.2.2 then post .shed r.1 (if r.2.2.1 then 1 else 0) acc else acc) s

/-- R73: OVER_COMMIT where the flag becomes set, with the excess saturating at 32767. -/
def postOverCommit (s : State) (p : Plan) (t : State) : State :=
  postIf (!s.alloc.overCommit && s.alloc.allowance < p.committed) .overCommit 0
    (min (p.committed - s.alloc.allowance) 32767 : Nat) t

/-! ## Limits check (R81) -/

/-- R81: a limits field matches its complement. -/
def pairGood (p : LimitPair) : Bool := p.complement = ~~~p.value

/-- R81: the lowest mismatching field. -/
def badLimit (a : Allocator) : Option (Fin 4) := (List.finRange 4).find? fun k => !pairGood a.limits[k]

/-- R81: LIMITS_FAULT after a pass: set by the first mismatch, and kept. -/
def nextFault (a : Allocator) : Bool := a.limitsFault || (badLimit a).isSome

/-- R81: the values that a pass brings into force: the built-in ones under LIMITS_FAULT, else the stored ones. -/
def bringInForce (a : Allocator) : Allocator :=
  { a with
    limitsFault := nextFault a
    inForce := if nextFault a then builtinLimits else a.limits.map LimitPair.value }

/-- R81: LIMITS_FAULT posted at the pass that finds the first mismatch, with the lowest mismatching field. -/
def postLimitsFault (a : Allocator) (s : State) : State :=
  match badLimit a with
  | none => s
  | some k => if a.limitsFault then s else post .limitsFault k a.limits[k].value.toNat s

/-- R81: the limits check of a pass; a limit it moves acts at once on the start histories (R90), and a raise is a test
event (R91; DEDUCED, log 21). -/
def checkLimits (s : State) : State :=
  refreshLimits s (postLimitsFault s.alloc (modAlloc bringInForce s))

/-! ## Energy (R82) -/

/-- R82: one pass of a consumer's energy count at an applied draw. -/
def countEnergy (draw : Nat) (c : Consumer) : Consumer :=
  let acc := c.energyAcc + 2 * draw
  { c with energyAcc := acc % 3600, energyCount := min (c.energyCount + acc / 3600) Config.maxCount32 }

/-- R82: the energy of all consumers, with their applied draws as they stand. -/
def energyPass (s : State) : State :=
  modAlloc (fun a =>
    { a with consumers := a.consumers.mapFinIdx fun k c h => countEnergy (appliedDraw s ⟨k, h⟩) c }) s

/-! ## The pass (R72, R79) -/

/-- R72: one allocation pass. The energy is counted with the applied draws as they stand after the limits check, so a
compressor that a raised start limit starts there is counted in this pass (DEDUCED, log 21). -/
def allocate (s : State) : State :=
  let p := planPass s
  let s1 := postSheds (shedTable s p) (postOverCommit s p (recordPass s p))
  takeLtGrant p.walk.lt (grantEvent p.grants (energyPass (checkLimits s1)))

/-! ## Requests (R60, R62, R80, R83) -/

/-- R60: WRITE_ITEM of class ALLOWANCE. -/
def ownWriteAllowance (index : Byte) (v : Half) (s : State) : State × Answer :=
  if index ≠ 0 then refuse .badItem s
  else if s.store.busy then refuse .busy s
  else (modAlloc (fun a => { a with allowance := v.toNat }) s, answer .ok)

/-- R62: the four fan draws stand in non-decreasing order. -/
def fanOrdered (a b c d : Nat) : Bool := a ≤ b && b ≤ c && c ≤ d

/-- R62: WRITE_ITEM of class CONSUMER. -/
def ownWriteConsumer (index : Byte) (draws : List Half) (s : State) : State × Answer :=
  if 6 < index.toNat then refuse .badItem s
  else if s.store.busy then refuse .busy s
  else
    let f := draws.map BitVec.toNat
    let v := f.map (min · 5000)
    match index.toNat, v with
    | 0, [a, b, c, d] =>
      if fanOrdered a b c d = false then refuse .badValue s
      else (modAlloc (fun x => { x with draws := { x.draws with fan := #v[a, b, c, d] } }) s,
            answer (okOrClamped (v != f)))
    | k + 1, [a] =>
      (modAlloc (fun x => { x with draws := { x.draws with items := x.draws.items.setIfInBounds k a } }) s,
       answer (okOrClamped (v != f)))
    | _, _ => refuse .badLength s

/-- R80: a limits field with its freshly formed complement. -/
def soundPair (v : Half) : LimitPair := ⟨v, ~~~v⟩

/-- R80: WRITE_ITEM of class LIMITS; the S_hi cap is a temperature and so signed (DEDUCED, log 11). -/
def ownWriteLimits (index : Byte) (v0 v1 v2 v3 : Half) (s : State) : State × Answer :=
  if index ≠ 0 then refuse .badItem s
  else if s.store.busy then refuse .busy s
  else
    let w0 : Half := BitVec.ofInt 16 (clampInt v0.toInt 150 400)
    let w1 : Half := BitVec.ofNat 16 (clampNat v1.toNat 1 12)
    let w2 : Half := BitVec.ofNat 16 (clampNat v2.toNat 60 900)
    let w3 : Half := BitVec.ofNat 16 (clampNat v3.toNat 60 3600)
    let s1 := modAlloc (fun a =>
      { a with
        limits := #v[soundPair w0, soundPair w1, soundPair w2, soundPair w3]
        limitsFault := false
        inForce := #v[w0, w1, w2, w3] }) s
    (refreshLimits s s1, answer (okOrClamped (w0 ≠ v0 || w1 ≠ v1 || w2 ≠ v2 || w3 ≠ v3)))

/-- R83: CLEAR_COUNTERS. -/
def ownClearCounters (s : State) : State × Answer :=
  (modAlloc (fun a =>
    { a with consumers := a.consumers.map fun c => { c with energyAcc := 0, energyCount := 0 } }) s, answer .ok)

end Sys2Proof.Machine
end

