-- ==== Sys2Proof/Machine/Frames.lean ====
section
/-! DEFINITION. Requests on the wire (chapters 8 and 11): the frame of each request, the dispatch of a received one,
the receiver of a port, presence and replies. -/

namespace Sys2Proof.Machine

/-! ## Item classes (Table 11-3, R153) -/

/-- The class a class number names; above 15 none. -/
def classOf (b : Byte) : Option ItemClass :=
  match b.toNat with
  | 0 => some .channel | 1 => some .watch | 2 => some .climate | 3 => some .climateCfg | 4 => some .consumer
  | 5 => some .allowance | 6 => some .compressor | 7 => some .cover | 8 => some .coverCfg | 9 => some .group
  | 10 => some .scene | 11 => some .layer | 12 => some .port | 13 => some .counters | 14 => some .limits
  | 15 => some .mode | _ => none

/-- R153: the write owner of a class; a read-only class has none. -/
def writeOwner : ItemClass → Option Role
  | .channel | .watch | .climateCfg | .consumer | .allowance | .compressor | .limits => some .building
  | .coverCfg => some .pool
  | .group | .scene => some .lighting
  | .climate | .cover | .layer | .port | .counters | .mode => none

/-- Table 11-3: the number of records of a class. -/
def classCount : ItemClass → Nat
  | .channel => 16 | .watch => 8 | .climate => 1 | .climateCfg => 1 | .consumer => 8 | .allowance => 1
  | .compressor => 2 | .cover => 1 | .coverCfg => 1 | .group => 16 | .scene => 32 | .layer => 4 | .port => 3
  | .counters => 8 | .limits => 1 | .mode => 1

/-- Table 11-3: the bytes of a record of a class. -/
def recordLength : ItemClass → Nat
  | .channel => 32 | .watch => 10 | .climate => 25 | .climateCfg => 36 | .consumer => 21 | .allowance => 16
  | .compressor => 57 | .cover => 21 | .coverCfg => 16 | .group => 17 | .scene => 53 | .layer => 21 | .port => 28
  | .counters => 6 | .limits => 25 | .mode => 7

/-! ## Payloads of requests (Tables 11-2 and 11-3) -/

/-- A list of two-byte fields in a row. -/
def fieldBytes (fs : List Half) : List Byte := fs.flatMap le2

/-- The pairs of a SCENE write: group 1, level 2. -/
def pairBytes (ps : List (Byte × Half)) : List Byte := ps.flatMap fun p => p.1 :: le2 p.2

/-- Bytes read back as pairs; a rest of one or two bytes gives none. -/
def pairsOf : List Byte → Option (List (Byte × Half))
  | [] => some []
  | g :: lo :: hi :: rest => (pairsOf rest).map ((g, half lo hi) :: ·)
  | _ => none

/-- Eight bytes read back as the acceptance set. -/
def acceptanceOf (b0 b1 b2 b3 b4 b5 b6 b7 : Byte) : BitVec 64 := b7 ++ b6 ++ b5 ++ b4 ++ b3 ++ b2 ++ b1 ++ b0

/-- The port, code and payload of the frame that carries a request; none for an event. -/
def requestFrame (i : Instr) : Option (PortId × Byte × List Byte) :=
  match i with
  | .unknownRequest p code payload => some (p, code, payload)
  | .status p => some (p, 0x01, [])
  | .readItems p k first count => some (p, 0x02, [k, first, count])
  | .writeItemChannel p n kind zone => some (p, 0x03, [0, n, kind, zone])
  | .writeItemWatch p n source direction t h a =>
    some (p, 0x03, [1, n, source, direction] ++ le2 t ++ le2 h ++ [a])
  | .writeItemClimateCfg p n fs => some (p, 0x03, [3, n] ++ fieldBytes fs)
  | .writeItemConsumer p n ds => some (p, 0x03, [4, n] ++ fieldBytes ds)
  | .writeItemAllowance p n v => some (p, 0x03, [5, n] ++ le2 v)
  | .writeItemCompressor p n off on lim => some (p, 0x03, [6, n] ++ le2 off ++ le2 on ++ [lim])
  | .writeItemLimits p n a b c d => some (p, 0x03, [14, n] ++ le2 a ++ le2 b ++ le2 c ++ le2 d)
  | .writeItemCoverCfg p n fs => some (p, 0x03, [8, n] ++ fieldBytes fs)
  | .writeItemGroup p n load floor => some (p, 0x03, [9, n] ++ le2 load ++ le2 floor)
  | .writeItemScene p n flags fade modes ps =>
    some (p, 0x03, [10, n, flags] ++ le2 fade ++ [modes, byteOf ps.length] ++ pairBytes ps)
  | .writeItemReadOnly p k n rest => some (p, 0x03, k :: n :: rest)
  | .setModeHall p mode target => some (p, 0x10, [mode, target])
  | .setModeStart p mode => some (p, 0x10, [mode, 1])
  | .reportWater p t => some (p, 0x20, le2 t)
  | .reportCover p r => some (p, 0x21, [r])
  | .askCoverOpen p => some (p, 0x22, [])
  | .recallLayer p scene target => some (p, 0x30, [scene, target])
  | .recallStart p scene => some (p, 0x30, [scene, 1])
  | .recallSafety p scene => some (p, 0x30, [scene, 2])
  | .release p => some (p, 0x31, [])
  | .takeNotices p => some (p, 0x40, [])
  | .setAcceptance p acc c1 s1 c2 s2 t s =>
    some (p, 0x41, le8 acc ++ [c1] ++ le2 s1 ++ [c2] ++ le2 s2 ++ [t] ++ le2 s)
  | .clearWatch p w => some (p, 0x42, [w])
  | .zeroSearch p c => some (p, 0x50, [c])
  | .gainCorrect p c e => some (p, 0x51, [c] ++ le2 e)
  | .clearCounters p => some (p, 0x52, [])
  | .storeSettings p => some (p, 0x60, [])
  | .restart p => some (p, 0x61, [])
  | .powerOn .. | .receiveByte .. | .lineQuietExpiry _ | .replySent _ | .zeroSearchStep _ | .storeCompletion _
  | .silenceTimerExpiry _ | .channelScan _ | .channelFault .. | .channelRecover .. | .channelValid ..
  | .climateComputation | .heatBlindDemand | .moistureBlindDemand | .waterAgeSecond | .waterStale
  | .allocationPass | .sequencerSecond | .minOffExpiry _ | .minOnExpiry _ | .proofLossExpiry | .proofFailExpiry
  | .interlockOn | .interlockOff | .coverLimitChange | .fanProofActive | .fanProofInactive | .cvpSecond
  | .mismatchCountExpiry | .travelCountExpiry | .settleTimeMet | .purgeComplete | .restTimeMet | .alertHoldMet
  | .preopenTimeMet | .permissionHoldMet | .purgeStarved | .fadeTick | .fadeComplete _ | .inputSample .. => none

/-! ## Dispatch (R152, R153) -/

/-- What the port makes of a valid frame: its own refusal, or a request handed to the owner. -/
inductive Dispatch where
  | refused (r : Result)
  | handed (c : Instr)
  deriving DecidableEq, Repr

/-- Test 3 of R152: the length agrees, and the request is handed over, or BAD_LENGTH. -/
def handOver (c : Option Instr) : Dispatch :=
  match c with
  | some i => .handed i
  | none => .refused .badLength

/-- The request with its role test before its length test (R152). -/
def permitted (ok : Bool) (c : Option Instr) : Dispatch := if ok then handOver c else .refused .notPermitted

/-- A request without payload. -/
def noPayload (c : Instr) (payload : List Byte) : Option Instr := if payload = [] then some c else none

/-- The written fields of a class read from the bytes after the class and the index, when their number is the one
the class defines. -/
def writeCommand (p : PortId) (k : ItemClass) (n : Byte) (rest : List Byte) : Option Instr :=
  match k, rest with
  | .channel, [kind, zone] => some (.writeItemChannel p n kind zone)
  | .watch, [s, d, t0, t1, h0, h1, a] => some (.writeItemWatch p n s d (half t0 t1) (half h0 h1) a)
  | .climateCfg, bs => if bs.length = 36 then (halves bs).map (.writeItemClimateCfg p n) else none
  | .consumer, bs =>
    if bs.length = (if n = 0 then 8 else 2) then (halves bs).map (.writeItemConsumer p n) else none
  | .allowance, [lo, hi] => some (.writeItemAllowance p n (half lo hi))
  | .compressor, [a0, a1, b0, b1, lim] => some (.writeItemCompressor p n (half a0 a1) (half b0 b1) lim)
  | .coverCfg, bs => if bs.length = 16 then (halves bs).map (.writeItemCoverCfg p n) else none
  | .group, [a0, a1, b0, b1] => some (.writeItemGroup p n (half a0 a1) (half b0 b1))
  | .scene, flags :: f0 :: f1 :: modes :: cnt :: bs =>
    if bs.length = 3 * cnt.toNat then (pairsOf bs).map (.writeItemScene p n flags (half f0 f1) modes) else none
  | .limits, [a0, a1, b0, b1, d0, d1, e0, e1] =>
    some (.writeItemLimits p n (half a0 a1) (half b0 b1) (half d0 d1) (half e0 e1))
  | _, _ => none

/-- R152, R153: a WRITE_ITEM. -/
def dispatchWrite (p : PortId) (role : Role) (payload : List Byte) : Dispatch :=
  match payload with
  | k :: n :: rest =>
    match classOf k with
    | none => .refused .badItem
    | some cls => permitted (writeOwner cls = some role) (writeCommand p cls n rest)
  | _ => .refused .badLength

/-- R152: a SET_MODE; an unknown target passes the port unless the sender is an OBSERVER (DEDUCED, log 13). -/
def dispatchSetMode (p : PortId) (role : Role) (payload : List Byte) : Dispatch :=
  match payload with
  | mode :: target :: rest =>
    permitted (role = .building || (1 < target.toNat && role ≠ .observer))
      (if rest = [] then some (if target = 1 then .setModeStart p mode else .setModeHall p mode target) else none)
  | _ => .refused .badLength

/-- R152: a RECALL. -/
def dispatchRecall (p : PortId) (role : Role) (payload : List Byte) : Dispatch :=
  match payload with
  | scene :: target :: rest =>
    permitted (role = .building || (target ≠ 1 && target ≠ 2 && role ≠ .observer))
      (if rest = [] then
        some (if target = 1 then .recallStart p scene
              else if target = 2 then .recallSafety p scene
              else .recallLayer p scene target)
       else none)
  | _ => .refused .badLength

/-- R152, R154: a READ_ITEMS, whose class the port tests (DEDUCED, log 13). -/
def dispatchRead (p : PortId) (payload : List Byte) : Dispatch :=
  match payload with
  | [k, first, count] =>
    match classOf k with
    | none => .refused .badItem
    | some _ => .handed (.readItems p k first count)
  | _ => .refused .badLength

/-- The SET_ACCEPTANCE that seventeen bytes carry. -/
def acceptanceCommand (p : PortId) (payload : List Byte) : Option Instr :=
  match payload with
  | [b0, b1, b2, b3, b4, b5, b6, b7, c1, s0, s1, c2, t0, t1, th, q0, q1] =>
    some (.setAcceptance p (acceptanceOf b0 b1 b2 b3 b4 b5 b6 b7) c1 (half s0 s1) c2 (half t0 t1) th (half q0 q1))
  | _ => none

/-- A request whose payload is one byte. -/
def oneByte (c : Byte → Instr) (payload : List Byte) : Option Instr :=
  match payload with
  | [b] => some (c b)
  | _ => none

/-- R152: the tests of a valid frame at a port of the role, in order. -/
def dispatch (p : PortId) (role : Role) (code : Byte) (payload : List Byte) : Dispatch :=
  match code.toNat with
  | 0x01 => handOver (noPayload (.status p) payload)
  | 0x02 => dispatchRead p payload
  | 0x03 => dispatchWrite p role payload
  | 0x10 => dispatchSetMode p role payload
  | 0x20 =>
    permitted (role = .pool) (match payload with | [lo, hi] => some (.reportWater p (half lo hi)) | _ => none)
  | 0x21 => permitted (role = .pool) (oneByte (.reportCover p) payload)
  | 0x22 => permitted (role = .pool) (noPayload (.askCoverOpen p) payload)
  | 0x30 => dispatchRecall p role payload
  | 0x31 => permitted (role ≠ .observer) (noPayload (.release p) payload)
  | 0x40 => handOver (noPayload (.takeNotices p) payload)
  | 0x41 => handOver (acceptanceCommand p payload)
  | 0x42 => permitted (role = .building) (oneByte (.clearWatch p) payload)
  | 0x50 => permitted (role = .building) (oneByte (.zeroSearch p) payload)
  | 0x51 =>
    permitted (role = .building)
      (match payload with | [c, lo, hi] => some (.gainCorrect p c (half lo hi)) | _ => none)
  | 0x52 => permitted (role = .building) (noPayload (.clearCounters p) payload)
  | 0x60 => permitted (role = .building || role = .lighting) (noPayload (.storeSettings p) payload)
  | 0x61 => permitted (role = .building) (noPayload (.restart p) payload)
  | _ => .refused .unknown

/-! ## The receiver (R148 to R150) -/

/-- R149: the discard count, which stops at 255. -/
def countDiscard (q : Port) : Port := { q with discards := if q.discards < 255 then q.discards + 1 else q.discards }

/-- R149: the frame in reception is discarded, and the port skips the rest of it. -/
def discardFrame (q : Port) : Port := countDiscard { q with rx := .discarding, buffer := [] }

/-- R149: the frame is discarded and the port is IDLE. -/
def dropFrame (q : Port) : Port := countDiscard { q with rx := .idle, buffer := [] }

/-- R148: CHECK has been received: the count of bytes agrees with LEN. -/
def frameFull (buffer : List Byte) : Bool :=
  match buffer with
  | _ :: _ :: len :: rest => len.toNat + 1 ≤ rest.length
  | _ => false

/-- R148: a byte of a frame in reception. -/
def takeByte (b : Byte) (bad : Bool) (q : Port) : Port :=
  if frameFull q.buffer || bad then discardFrame q
  else if q.buffer.length = 2 && 60 < b.toNat then discardFrame q
  else { q with buffer := q.buffer ++ [b] }

/-- R148, R150: a byte on a port's line; `bad` says that it arrived with an error. -/
def portByte (b : Byte) (bad : Bool) (q : Port) : Port :=
  match q.rx with
  | .idle => if bad || b ≠ 0xA7 then discardFrame q else { q with rx := .receiving, buffer := [b] }
  | .receiving => takeByte b bad q
  | .discarding => q
  | .serving | .transmitting => if q.overrun then q else countDiscard { q with overrun := true }

/-- A byte on the line of port p. -/
def lineByte (p : PortId) (b : Byte) (bad : Bool) (s : State) : State := setPort p (portByte b bad s.ports[p]) s

/-- The bytes of a frame without error, one after the other. -/
def lineFrame (p : PortId) (bytes : List Byte) (s : State) : State :=
  bytes.foldl (fun acc b => lineByte p b false acc) s

/-! ## Presence (R157, R158) -/

/-- A silence timer at its full length, in ticks. -/
def fullSilence (q : Port) : Nat := q.silence * Config.ticksPerSecond

/-- R157, R158: a valid frame reloads the silence timer and makes an ABSENT role PRESENT. -/
def frameHeard (p : PortId) (s : State) : State :=
  let q := s.ports[p]
  match q.presence with
  | .none => s
  | .present => setPort p { q with silenceTimer := some (fullSilence q) } s
  | .absent =>
    post .rolePresent p (roleCode q.role)
      (setPort p { q with presence := .present, silenceTimer := some (fullSilence q) } s)

/-- R157: the effects of absence at the blocks that act on it; at POOL's absence the cover report becomes UNKNOWN before
WORK is emptied (DESIGN CHOICE, log 30). -/
def roleSilent (role : Role) (s : State) : State :=
  match role with
  | .pool => silenceLayer .work (changeReport .unknown s)
  | .lighting => silenceLayer .showing s
  | .building | .observer => s

/-- R157: the silence timer of a PRESENT role expires. -/
def silenceEnd (p : PortId) (s : State) : State :=
  let q := s.ports[p]
  roleSilent q.role
    (post .roleAbsent p (roleCode q.role) (setPort p { q with presence := .absent, silenceTimer := none } s))

/-! ## Replies (R151) -/

/-- R151: the port sends the reply to a request of this code. -/
def sendReply (p : PortId) (code : Byte) (a : Answer) (s : State) : State :=
  setPort p { s.ports[p] with
    rx := .transmitting
    handed := none
    tx := replyBytes code (resultCode a.result) a.payload } s

/-- R152: a valid frame in service: presence, the tests, then the port's own refusal or the request handed over. -/
def serveFrame (p : PortId) (code : Byte) (payload : List Byte) (s : State) : State :=
  let s1 := frameHeard p (setPort p { s.ports[p] with rx := .serving, buffer := [] } s)
  match dispatch p s1.ports[p].role code payload with
  | .refused r => sendReply p code (answer r) s1
  | .handed c => setPort p { s1.ports[p] with handed := some c } s1

/-- The code and payload of a full frame in the buffer. -/
def frameContents (buffer : List Byte) : Byte × List Byte :=
  match buffer with
  | _ :: code :: len :: rest => (code, rest.take len.toNat)
  | _ => (0, [])

/-- R148, R149: a gap of more than 30 bit times on the line of port p. -/
def lineQuiet (p : PortId) (s : State) : State :=
  let q := s.ports[p]
  match q.rx with
  | .receiving =>
    if frameFull q.buffer && byteSum q.buffer = 0xFF then
      serveFrame p (frameContents q.buffer).1 (frameContents q.buffer).2 s
    else setPort p (dropFrame q) s
  | .discarding => setPort p { q with rx := .idle } s
  | .idle | .serving | .transmitting => s

/-- The line carries the frame of a request and is then quiet. -/
def deliver (p : PortId) (code : Byte) (payload : List Byte) (s : State) : State :=
  lineQuiet p (lineFrame p (requestBytes code payload) s)

end Sys2Proof.Machine
end

