-- ==== Sys2Proof/Machine/Records.lean ====
section
/-! DEFINITION. Records on the wire (R154, R166, R172 and the layouts of chapter 11): the bytes of each record, and
the requests STATUS and READ_ITEMS. -/

namespace Sys2Proof.Machine

/-! ## Parts of records -/

/-- A field that is sent as 0xFFFF when it is not running or has no end (R172). -/
def runField (t : Option Nat) : List Byte :=
  match t with
  | some n => natField n
  | none => [0xFF, 0xFF]

/-- A scene number sent as 0xFF when it is NONE (R172). -/
def sceneByte (n : Option Nat) : Byte :=
  match n with
  | some k => byteOf k
  | none => 0xFF

/-- A list of two-byte fields filled with 0 up to n fields. -/
def padded (n : Nat) (fs : List (List Byte)) : List Byte :=
  fs.flatten ++ List.replicate (2 * (n - fs.length)) 0

/-! ## Records, class by class -/

/-- Table 11-6: a CHANNEL record. -/
def channelRecord (c : Channel) : List Byte :=
  [byteOf (kindCode c.cfg.kind), byteOf c.cfg.zone, flagsByte [c.conflict], byteOf c.cfg.trim]
    ++ natField c.cfg.gain ++ [byteOf (statusCode c.status)] ++ natField c.raw ++ intField c.fast
    ++ intField c.settled ++ [byteOf c.window.length, byteOf c.rail, byteOf c.settle]
    ++ padded 8 (c.window.map intField)

/-- A WATCH record, in the order of the table of section 1.5 (CLEAR 0, TRIPPED 1). -/
def watchRecord (w : Watch) : List Byte :=
  [byteOf (sourceCode w.cfg.source), byteOf (directionCode w.cfg.direction)] ++ intField w.cfg.threshold
    ++ natField w.cfg.hysteresis
    ++ [byteOf (actionCode w.cfg.action), flagByte w.tripped, flagByte w.latch, flagByte w.lost]

/-- Table 11-7: the CLIMATE record. -/
def climateRecord (s : State) : List Byte :=
  let r := s.climate
  intField r.th ++ intField r.tdh ++ natField r.rhMax ++ intField r.tg ++ intField r.m ++ intField r.s
    ++ intField r.tw ++ natField s.water.age ++ natField r.i16 ++ natField r.dh ++ natField r.dd
    ++ [byteOf r.heatCount, byteOf r.moistCount,
        flagsByte [s.water.stale, r.protective, r.heatBlind, r.moistBlind, r.dewFloor, r.glazeSubst, r.condensation]]

/-- The CLIMATE_CFG record, in the order of R26. -/
def climateCfgRecord (g : ClimateCfg) : List Byte :=
  natField g.substituteDrop ++ natField g.waterHold ++ intField g.fallbackWater ++ intField g.dayOffset
    ++ intField g.nightOffset ++ intField g.sLo ++ intField g.sHi ++ intField g.serviceSetpoint
    ++ natField g.kp ++ natField g.ki ++ natField g.kc ++ natField g.kl ++ natField g.dayTarget
    ++ natField g.nightTarget ++ natField g.kr ++ natField g.kg ++ natField g.mSet ++ natField g.slew

/-- R61, R72: the draw fields of a consumer; LT's draw is the floor draw reported at the last pass (DEDUCED, log 25). -/
def drawFields (s : State) (k : Fin 8) : List Nat :=
  let d := s.alloc.draws
  match k with
  | 0 => d.fan.toList
  | 7 => [s.alloc.ltDraw, 0, 0, 0]
  | k => [d.items.toList.getD (k.val - 1) 0, 0, 0, 0]

/-- Table 11-8: a CONSUMER record. -/
def consumerRecord (s : State) (k : Fin 8) : List Byte :=
  let r := s.alloc.consumers[k]
  natField r.requested ++ natField r.granted ++ (drawFields s k).flatMap natField
    ++ [byteOf (classCode r.cls), byteOf r.class2, flagsByte [r.held]] ++ natField r.energyAcc
    ++ le4 (BitVec.ofNat 32 r.energyCount)

/-- The ALLOWANCE record, in the order of R60. -/
def allowanceRecord (a : Allocator) : List Byte :=
  natField a.allowance ++ natField a.committed ++ natField a.remaining ++ natField a.granted
    ++ [flagByte a.overCommit, flagByte a.heatHeld, flagByte a.dehumHeld, byteOf a.lead.val, byteOf a.count,
        flagByte a.heaterReq[0], flagByte a.heaterReq[1], flagByte a.heaterReq[2]]

/-- R87: the shared line section of the compressor records. -/
def lineSection (q : Sequencer) : List Byte :=
  [flagByte q.coverLimit.active, flagByte q.interlock.active, flagByte q.fanProof.active, byteOf (proofCode q.proof),
   byteOf q.fanLevel] ++ natField q.valve
    ++ [flagByte q.heaters[0].line, flagByte q.heaters[1].line, flagByte q.heaters[2].line, flagByte q.pfLine]

/-- R87, R90: a COMPRESSOR record; every entry of the history that is shown is younger than 3600 s. -/
def compressorRecord (s : State) (i : CompId) : List Byte :=
  let r := s.seq.comps[i]
  let h := prune s.pt r.history
  [byteOf (compStateCode r.state), flagByte r.grant] ++ natField r.cfg.minOff ++ natField r.cfg.minOn
    ++ [byteOf r.cfg.startLimit, byteOf (startLimit s.alloc r)] ++ runField (r.offTimer.map wholeSeconds)
    ++ runField (r.onTimer.map wholeSeconds) ++ [byteOf h.length]
    ++ padded 12 (h.map fun e => natField (entryAge s.pt e)) ++ [flagByte r.blocked] ++ le4 r.nextStart
    ++ le4 (BitVec.ofNat 32 r.runSeconds) ++ lineSection s.seq

/-- Table 11-10: the COVER record. -/
def coverRecord (s : State) : List Byte :=
  let r := s.cover
  [byteOf (reportCode r.report), flagByte s.seq.coverLimit.active, byteOf (derivedCode r.derived),
   flagsByte [r.switchOnly, r.release, r.starved, r.hold.isSome], byteOf r.mismatch] ++ natField r.travel
    ++ [byteOf (progCode r.prog)] ++ natField r.elapsed ++ natField r.counted ++ natField r.preopenAcc
    ++ [byteOf (originCode r.origin), byteOf r.cycles] ++ runField r.hold ++ [byteOf r.starve]
    ++ runField (remainingTime s)

/-- The COVER_CFG record, in the order of R108. -/
def coverCfgRecord (g : CoverCfg) : List Byte :=
  natField g.settleTime ++ natField g.purgeHigh ++ natField g.restLow ++ natField g.cycleLimit
    ++ natField g.preopenTime ++ natField g.alertHold ++ natField g.permissionHold ++ natField g.travelLimit

/-- The fade record of a group; a group with no fade has six free bytes (DESIGN CHOICE, log 6). -/
def fadeBytes (seq g : Nat) (f : Option Fade) : List Byte :=
  match f with
  | some f => natField f.start ++ natField f.elapsed ++ natField f.duration
  | none =>
    let v := Config.noFadeBytes seq g
    [v.extractLsb' 0 8, v.extractLsb' 8 8, v.extractLsb' 16 8, v.extractLsb' 24 8, v.extractLsb' 32 8,
     v.extractLsb' 40 8]

/-- A GROUP record, in the order of R125. -/
def groupRecord (s : State) (g : GroupId) : List Byte :=
  let r := s.light.groups[g]
  natField r.cfg.load ++ natField r.cfg.floor ++ natField r.target ++ [byteOf (sourceLayerCode r.source)]
    ++ natField r.current ++ fadeBytes s.freeSeq g r.fade ++ natField r.applied

/-- Table 11-9: a SCENE record. -/
def sceneRecord (sc : Scene) : List Byte :=
  [flagsByte [sc.defined]] ++ natField sc.fade
    ++ [flagsByte [sc.modes.hallOpen, sc.modes.night, sc.modes.preopen, sc.modes.service], byteOf sc.levels.length]
    ++ sc.levels.flatMap (fun p => byteOf p.1 :: natField p.2)
    ++ List.replicate (3 * (16 - sc.levels.length)) 0

/-- R131: the shared lighting section of the layer records. -/
def lightingSection (l : Lighting) : List Byte :=
  natField (floorDraw l) ++ natField (requestR l) ++ natField (inFlightU l) ++ natField l.grant
    ++ natField l.capLimit ++ natField l.appliedCap ++ natField (appliedLighting l)
    ++ [sceneByte l.startScene, byteOf l.safetyScene]

/-- The layer with this number. -/
def layerAt (k : Fin 4) : Layer :=
  match k with | 0 => .base | 1 => .showing | 2 => .work | 3 => .safety

/-- R131: a LAYER record; the recall time of an empty layer is free (DESIGN CHOICE, log 6). -/
def layerRecord (s : State) (k : Fin 4) : List Byte :=
  (match getLayer s.light.layers (layerAt k) with
    | some st => byteOf st.scene :: le4 st.recallTime
    | none => 0xFF :: le4 (Config.emptyLayerTime s.freeSeq k)) ++ lightingSection s.light

/-- A filter as it is carried (section 11.2). -/
def filterBytes (f : Filter) : List Byte := f.code :: le2 f.subject

/-- R159 and R162: a PORT record, the notice fields after the port fields (DEDUCED, log 10). -/
def portRecord (q : Port) : List Byte :=
  [byteOf (roleCode q.strapped), byteOf (roleCode q.role), flagByte q.clash, byteOf (presenceCode q.presence)]
    ++ natField q.silence ++ runField (q.silenceTimer.map wholeSeconds)
    ++ [byteOf (rxCode q.rx), byteOf q.discards] ++ le8 q.notices.acceptance
    ++ filterBytes q.notices.filter1 ++ filterBytes q.notices.filter2
    ++ [flagByte q.notices.slot.isSome, byteOf q.notices.queue.length, byteOf q.notices.drops,
        byteOf q.notices.threshold]

/-- R83: a COUNTERS record, the two energy fields in the order of the table of R61 (R172). -/
def countersRecord (r : Consumer) : List Byte := natField r.energyAcc ++ le4 (BitVec.ofNat 32 r.energyCount)

/-- R80: the LIMITS record: each field with its complement, LIMITS_FAULT and the values in force (DEDUCED, log 10). -/
def limitsRecord (a : Allocator) : List Byte :=
  a.limits.toList.flatMap (fun p => le2 p.value ++ le2 p.complement) ++ [flagByte a.limitsFault]
    ++ le2 (limitInForce a 0) ++ le2 (limitInForce a 1) ++ le2 (limitInForce a 2) ++ le2 (limitInForce a 3)

/-- R48: the MODE record. -/
def modeRecord (r : ModeRec) : List Byte :=
  [byteOf (modeCode r.mode), byteOf (modeCode r.previous)] ++ le4 r.changeTime ++ [byteOf (modeCode r.startMode)]

/-- A record of an indexed class, given how each index codes. -/
def recordAt {n : Nat} (i : Nat) (f : Fin n → List Byte) : List Byte := if h : i < n then f ⟨i, h⟩ else []

/-- The record of a class with this index; past the end of the class there is none. -/
def record (s : State) (k : ItemClass) (i : Nat) : List Byte :=
  match k with
  | .channel => recordAt i fun n : Fin 16 => channelRecord s.channels[n]
  | .watch => recordAt i fun n : Fin 8 => watchRecord s.watches[n]
  | .climate => climateRecord s
  | .climateCfg => climateCfgRecord s.climateCfg
  | .consumer => recordAt i fun n : Fin 8 => consumerRecord s n
  | .allowance => allowanceRecord s.alloc
  | .compressor => recordAt i fun n : Fin 2 => compressorRecord s n
  | .cover => coverRecord s
  | .coverCfg => coverCfgRecord s.cover.cfg
  | .group => recordAt i fun n : Fin 16 => groupRecord s n
  | .scene => recordAt i fun n : Fin 32 => sceneRecord s.light.scenes[n]
  | .layer => recordAt i fun n : Fin 4 => layerRecord s n
  | .port => recordAt i fun n : Fin 3 => portRecord s.ports[n]
  | .counters => recordAt i fun n : Fin 8 => countersRecord s.alloc.consumers[n]
  | .limits => limitsRecord s.alloc
  | .mode => modeRecord s.mode

/-! ## READ_ITEMS (R154) -/

/-- R154: the count asked for after its clamp. -/
def clampCount (n : Nat) : Nat := clampNat n 1 16

/-- R154: the number of records returned: the count, the records left in the class, and 57 bytes of records. -/
def returned (k : ItemClass) (first count : Nat) : Nat :=
  min (clampCount count) (min (classCount k - first) (57 / recordLength k))

/-- Whether reading the class uses free values (DESIGN CHOICE, log 6). -/
def readsFree (k : ItemClass) : Bool := k = .group || k = .layer

/-- R154: READ_ITEMS. -/
def ownReadItems (itemClass first count : Byte) (s : State) : State × Answer :=
  match classOf itemClass with
  | none => refuse .badItem s
  | some k =>
    let f := first.toNat
    if classCount k ≤ f then refuse .badItem s
    else
      let n := returned k f count.toNat
      let clamped := clampCount count.toNat ≠ count.toNat || n < clampCount count.toNat
      ({ s with freeSeq := if readsFree k then s.freeSeq + 1 else s.freeSeq },
       ⟨okOrClamped clamped,
        [itemClass, first, byteOf n] ++ (List.range n).flatMap fun j => record s k (f + j)⟩)

/-! ## STATUS (R166) -/

/-- R156: the presence of a role: that of the port that holds it, or NONE. -/
def rolePresence (s : State) (r : Role) : Presence :=
  match s.ports.toList.find? fun q => decide (q.role = r) with
  | some q => q.presence
  | none => .none

/-- R166, Table 11-5: the payload of the STATUS reply of port p. -/
def statusPayload (p : PortId) (s : State) : List Byte :=
  let q := s.ports[p]
  [byteOf (modeCode s.mode.mode), flagByte s.seq.interlock.active,
   byteOf (presenceCode (rolePresence s .building)), byteOf (presenceCode (rolePresence s .pool)),
   byteOf (presenceCode (rolePresence s .lighting)), byteOf (roleCode q.role),
   flagsByte [q.clash, q.notices.slot.isSome, s.climate.condensation, blind s.climate, s.alloc.overCommit,
              s.alloc.limitsFault, s.store.busy],
   byteOf q.notices.queue.length, byteOf q.notices.drops, byteOf (derivedCode s.cover.derived),
   byteOf (progCode s.cover.prog)]

/-- R166: STATUS. -/
def ownStatus (p : PortId) (s : State) : State × Answer := (s, ⟨.ok, statusPayload p s⟩)

end Sys2Proof.Machine
end

