-- ==== Sys2Proof/Machine/Settings.lean ====
section
/-! DEFINITION. The Notice Unit's requests (R163, R164), the Settings Store (R168, R169) and RESTART (R155). -/

namespace Sys2Proof.Machine

/-! ## TAKE_NOTICES and SET_ACCEPTANCE -/

/-- Table 11-4: a notice record. -/
def noticeRecord (n : Notice) : List Byte :=
  [byteOf (eventCode n.code), byteOf n.subject] ++ le2 n.value ++ le4 n.pt ++ [byteOf n.tick]

/-- R163: the records a take removes: the slot, then up to three of the queue, oldest first. -/
def takenNotices (q : NoticeStore) : List Notice := q.slot.toList ++ q.queue.take 3

/-- R163: the store after a take. -/
def afterTake (q : NoticeStore) : NoticeStore := { q with slot := none, queue := q.queue.drop 3, drops := 0 }

/-- R163: the payload of the reply. -/
def takePayload (q : NoticeStore) : List Byte :=
  [flagByte q.slot.isSome, byteOf (q.queue.drop 3).length, byteOf q.drops] ++ (takenNotices q).flatMap noticeRecord

/-- R163: TAKE_NOTICES. -/
def ownTakeNotices (p : PortId) (s : State) : State × Answer :=
  let q := s.ports[p]
  (setPort p { q with notices := afterTake q.notices } s, ⟨.ok, takePayload q.notices⟩)

/-- R164: a filter that may be taken: a code of at most 63, and a subject of 0..255 or ANY (DEDUCED, log 14). -/
def filterGood (f : Filter) : Bool := f.code.toNat ≤ 63 && (f.subject.toNat ≤ 255 || f.subject = 0xFFFF)

/-- R164: SET_ACCEPTANCE. The silence time acts from the next valid frame (R157). -/
def ownSetAcceptance (p : PortId) (acceptance : BitVec 64) (f1 f2 : Filter) (threshold : Byte) (silence : Half)
    (s : State) : State × Answer :=
  if !(filterGood f1 && filterGood f2) then refuse .badValue s
  else if s.store.busy then refuse .busy s
  else
    let q := s.ports[p]
    let th := clampNat threshold.toNat 1 8
    let si := clampNat silence.toNat 10 3600
    (setPort p { q with
        silence := si
        notices := { q.notices with acceptance := acceptance, filter1 := f1, filter2 := f2, threshold := th } } s,
     answer (okOrClamped (th ≠ threshold.toNat || si ≠ silence.toNat)))

/-! ## The store (R168, R169) -/

/-- R168: the working settings as they stand, section by section. -/
def workingSettings (s : State) : Settings :=
  { channels := s.channels.map Channel.cfg
    watches := s.watches.map Watch.cfg
    climate := s.climateCfg
    draws := s.alloc.draws
    allowance := s.alloc.allowance
    comps := s.seq.comps.map Compressor.cfg
    cover := s.cover.cfg
    groups := s.light.groups.map Group.cfg
    scenes := s.light.scenes
    startMode := s.mode.startMode
    startScene := s.light.startScene
    safetyScene := s.light.safetyScene
    silence := s.ports.map Port.silence
    threshold := s.ports.map fun q => q.notices.threshold
    limits := s.alloc.limits }

/-- R169: STORE_SETTINGS: the marker goes, and the sections are written with the settings as they stand. -/
def ownStoreSettings (p : PortId) (s : State) : State × Answer :=
  if s.store.busy || s.restartPending.isSome then refuse .busy s
  else
    ({ s with store := { busy := true, port := p, left := Config.storeTicks, marked := false,
                         image := workingSettings s } },
     answer .accepted)

/-- R169: the lowest section that read back different; bit k stands for section k. -/
def lowestDiffering (differing : BitVec 11) : Option Nat :=
  (List.range 11).find? fun k => differing.getLsbD k

/-- R169: the end of a store. -/
def storeEnd (differing : BitVec 11) (s : State) : State :=
  match lowestDiffering differing with
  | none => post .storeDone s.store.port 0 { s with store := { s.store with busy := false, marked := true } }
  | some k => post .storeFailed s.store.port k { s with store := { s.store with busy := false, marked := false } }

/-- R155: RESTART. -/
def ownRestart (p : PortId) (s : State) : State × Answer :=
  if s.store.busy then refuse .busy s else ({ s with restartPending := some p }, answer .ok)

/-! ## Owners (R152) -/

/-- The owner of a request takes or refuses it. An event is never handed over. -/
def ownerServe (c : Instr) (s : State) : State × Answer :=
  match c with
  | .status p => ownStatus p s
  | .readItems _ k first count => ownReadItems k first count s
  | .writeItemChannel _ n kind zone => ownWriteChannel n kind zone s
  | .writeItemWatch _ n src dir t h a => ownWriteWatch n src dir t h a s
  | .writeItemClimateCfg _ n fs => ownWriteClimateCfg n fs s
  | .writeItemConsumer _ n ds => ownWriteConsumer n ds s
  | .writeItemAllowance _ n v => ownWriteAllowance n v s
  | .writeItemCompressor _ n off on lim => ownWriteCompressor n off on lim s
  | .writeItemLimits _ n a b d e => ownWriteLimits n a b d e s
  | .writeItemCoverCfg _ n fs => ownWriteCoverCfg n fs s
  | .writeItemGroup _ n load floor => ownWriteGroup n load floor s
  | .writeItemScene _ n flags fade modes ps => ownWriteScene n flags fade modes ps s
  | .setModeHall _ mode target => ownSetModeHall mode target s
  | .setModeStart _ mode => ownSetModeStart mode s
  | .reportWater _ t => ownReportWater t s
  | .reportCover _ r => ownReportCover r s
  | .askCoverOpen _ => ownAskCoverOpen s
  | .recallLayer p scene target => ownRecallLayer s.ports[p].role scene target s
  | .recallStart _ scene => ownRecallStart scene s
  | .recallSafety _ scene => ownRecallSafety scene s
  | .release p => ownRelease s.ports[p].role s
  | .takeNotices p => ownTakeNotices p s
  | .setAcceptance p acc c1 s1 c2 s2 t si => ownSetAcceptance p acc ⟨c1, s1⟩ ⟨c2, s2⟩ t si s
  | .clearWatch _ w => ownClearWatch w s
  | .zeroSearch _ n => ownZeroSearch n s
  | .gainCorrect _ n e => ownGainCorrect n e s
  | .clearCounters _ => ownClearCounters s
  | .storeSettings p => ownStoreSettings p s
  | .restart p => ownRestart p s
  | .unknownRequest .. | .writeItemReadOnly .. => refuse .unknown s
  | .powerOn .. | .receiveByte .. | .lineQuietExpiry _ | .replySent _ | .zeroSearchStep _ | .storeCompletion _
  | .silenceTimerExpiry _ | .channelScan _ | .channelFault .. | .channelRecover .. | .channelValid ..
  | .climateComputation | .heatBlindDemand | .moistureBlindDemand | .waterAgeSecond | .waterStale
  | .allocationPass | .sequencerSecond | .minOffExpiry _ | .minOnExpiry _ | .proofLossExpiry | .proofFailExpiry
  | .interlockOn | .interlockOff | .coverLimitChange | .fanProofActive | .fanProofInactive | .cvpSecond
  | .mismatchCountExpiry | .travelCountExpiry | .settleTimeMet | .purgeComplete | .restTimeMet | .alertHoldMet
  | .preopenTimeMet | .permissionHoldMet | .purgeStarved | .fadeTick | .fadeComplete _ | .inputSample .. =>
    refuse .unknown s

/-- The code byte of a request's frame. -/
def requestCode (c : Instr) : Byte :=
  match requestFrame c with
  | some (_, code, _) => code
  | none => 0

/-- R152: the owner takes or refuses the request handed over at port p, and its answer becomes the reply. -/
def takeHanded (p : PortId) (c : Instr) (s : State) : State :=
  sendReply p (requestCode c) (ownerServe c s).2 (ownerServe c s).1

/-- A request row on port p: the request that is already in service is taken; otherwise its frame arrives on the
line, and the request is taken when the port hands it over (DESIGN CHOICE, log 1). -/
def requestStep (p : PortId) (c : Instr) (s : State) : State :=
  if s.ports[p].handed = some c then takeHanded p c s
  else
    match requestFrame c with
    | none => s
    | some (q, code, payload) =>
      let t := deliver q code payload s
      if t.ports[p].handed = some c then takeHanded p c t else t

/-- A request row whose frame no port hands over under that row: the port answers it (R152). -/
def portStep (c : Instr) (s : State) : State :=
  match requestFrame c with
  | none => s
  | some (p, code, payload) => deliver p code payload s

end Sys2Proof.Machine
end

