-- ==== Sys2Proof/Machine/Restarts.lean ====
section
/-! DEFINITION. Power-on (R170), the end of a reply (R150) and the warm restart (R155, R171). -/

namespace Sys2Proof.Machine

/-! ## Warm restart -/

/-- R155: the request in service at port p is answered. -/
def answerInService (p : PortId) (s : State) : State :=
  match s.ports[p].handed with
  | some c => takeHanded p c s
  | none => s

/-- The ports whose request waits in service. -/
def portsInService (s : State) : List PortId :=
  (List.finRange 3).filter fun p => s.ports[p].rx = .serving && s.ports[p].handed.isSome

/-- R155: the requests in service are answered before the restart acts on the records; the order of two is a free
value (DESIGN CHOICE, log 6). -/
def answerAll (s : State) : State :=
  match portsInService s with
  | [] => s
  | [p] => answerInService p s
  | ps =>
    let order := if Config.higherPortFirst s.freeSeq then ps.reverse else ps
    order.foldl (fun acc p => answerInService p acc) { s with freeSeq := s.freeSeq + 1 }

/-- R155: the receive state of a port at a warm restart. -/
def restartReceiver (q : Port) : Port :=
  match q.rx with
  | .idle => q
  | .receiving => dropFrame q
  | .discarding => { q with rx := .idle }
  | .serving | .transmitting => { q with idleAfter := true }

/-- R167: a notice store at a warm restart. -/
def emptyStore (q : NoticeStore) : NoticeStore := { q with slot := none, queue := [], drops := 0 }

/-- R155, R167: a port at a warm restart. -/
def restartPort (q : Port) : Port :=
  let r := restartReceiver q
  { r with
    notices := emptyStore r.notices
    silenceTimer := if r.presence = .present then some (fullSilence r) else r.silenceTimer }

/-- R11, R16: a channel at a warm restart. -/
def restartChannel (c : Channel) : Channel := if c.status = .unused then c else beginSettling c

/-- R11, R16: the channels at a warm restart, a zero search aborted. -/
def restartChannels (s : State) : State :=
  let s1 := match s.search with
    | some r => abortSearch r.channel s
    | none => s
  { s1 with channels := s1.channels.map restartChannel }

/-- R24: the watches at a warm restart. -/
def restartWatches (s : State) : State :=
  { s with watches := s.watches.map fun w => { w with tripped := false, latch := false, lost := false } }

/-- R47: the Climate Computer at a warm restart. -/
def restartClimate (s : State) : State :=
  { s with
    climate := { s.climate with i16 := 0, heatCount := 0, moistCount := 0, heatBlind := false, moistBlind := false }
    timers := { s.timers with compute := Config.computePeriod } }

/-- R84: the Allocator at a warm restart. -/
def restartAllocator (s : State) : State := { s with timers := { s.timers with pass := Config.passPeriod } }

/-- R124: the derived state formed afresh; a held row follows the switch and keeps SWITCH_ONLY (DEDUCED, log 15). -/
def freshDerived (switch : Bool) (c : Cover) : Cover :=
  match pairOutcome c.report switch with
  | some (d, only) =>
    { c with derived := d, switchOnly := only, travel := if c.report = .moving then 0 else c.travel }
  | none => { c with derived := if switch then .closed else .coverOpen, mismatch := 0 }

/-- R124: the Cover Ventilation Programme at a warm restart. -/
def restartCover (s : State) : State :=
  let lapsed := if s.cover.prog = .released then post .coverReleaseLapsed 3 (permissionRemaining s.cover) s else s
  let s1 := modCover (fun c =>
    { enterPhase .idle (freshDerived s.seq.coverLimit.active c) with cycles := 0 }) lapsed
  if s1.cover.derived = .closed then enterNight .settle s1 else s1

/-- R171: the warm restart at the records, the notice stores first. -/
def restartRecords (s : State) : State :=
  let s1 : State := { s with ports := s.ports.map restartPort, restartPending := none }
  restartCover (restartAllocator (restartClimate (restartWatches (restartChannels s1))))

/-- R155, R171: the warm restart. -/
def warmRestart (s : State) : State := restartRecords (answerAll s)

/-! ## The end of a reply (R150, R155) -/

/-- R150: the port after its reply, in the given receive state. -/
def endReply (rx : RxState) (q : Port) : Port := { q with rx := rx, tx := [], overrun := false, idleAfter := false }

/-- R150: where the port goes at the end of its reply. -/
def afterReply (q : Port) : RxState := if q.overrun && !q.idleAfter then .discarding else .idle

/-- R150, R155: the last stop bit of port p's reply has been sent. -/
def replyEnd (p : PortId) (s : State) : State :=
  let q := s.ports[p]
  if q.rx ≠ .transmitting then s
  else if s.restartPending = some p then warmRestart (setPort p (endReply .idle q) s)
  else setPort p (endReply (afterReply q) q) s

/-! ## Power-on (R170) -/

/-- R167: the default acceptance set of a role. -/
def defaultAcceptance : Role → BitVec 64
  | .building => 0xFFFFFFFE
  | .pool => 0xDF80000
  | .lighting => 0x2060080
  | .observer => 0

/-- R156: the role of a port, given the strapped roles of the lower-numbered ports, and its ROLE_CLASH flag. -/
def roleAmong (lower : List Role) (strapped : Role) : Role × Bool :=
  if strapped ≠ .observer ∧ strapped ∈ lower then (.observer, true) else (strapped, false)

/-- R159, R167: a port at power-on. -/
def powerOnPort (lower : List Role) (strapped : Role) (silence threshold : Nat) : Port :=
  let r := roleAmong lower strapped
  { strapped := strapped, role := r.1, clash := r.2,
    presence := if r.1 = .observer then .none else .present,
    silence := silence,
    silenceTimer := if r.1 = .observer then none else some (silence * Config.ticksPerSecond),
    rx := .idle, buffer := [], handed := none, tx := [], overrun := false, idleAfter := false, discards := 0,
    notices := { acceptance := defaultAcceptance r.1, filter1 := ⟨0, 0⟩, filter2 := ⟨0, 0⟩, slot := none,
                 queue := [], drops := 0, threshold := threshold } }

/-- R156: the three ports at power-on. -/
def powerOnPorts (r0 r1 r2 : Role) (set : Settings) : Vector Port 3 :=
  #v[powerOnPort [] r0 set.silence[0] set.threshold[0],
     powerOnPort [r0] r1 set.silence[1] set.threshold[1],
     powerOnPort [r0, r1] r2 set.silence[2] set.threshold[2]]

/-- R170: the settings of the start: the image when the marker is present, else the factory defaults. -/
def startSettings (st : Store) : Settings := if st.marked then st.image else Settings.factory

/-- A channel record with loaded settings, before the conflict test (R11). -/
def loadChannel (cfg : ChannelCfg) : Channel :=
  { cfg := cfg, conflict := false, status := .unused, raw := 0, fast := 0, settled := 0, window := [], rail := 0,
    settle := 0 }

/-- R3: the conflict test of channel n against the channels below it. -/
def conflictBelow (cs : Vector Channel 16) (n : ChanId) : Bool :=
  claims cs[n].cfg.kind && (List.finRange 16).any fun m =>
    decide (m < n) && !cs[m].conflict && decide (cs[m].cfg.kind = cs[n].cfg.kind)
      && decide (cs[m].cfg.zone = cs[n].cfg.zone)

/-- R3, R11: the conflict flag and status of channel n at power-on. -/
def startChannel (cs : Vector Channel 16) (n : ChanId) : Vector Channel 16 :=
  let conflict := conflictBelow cs n
  cs.set n { cs[n] with
    conflict := conflict
    status := if cs[n].cfg.kind = .unused ∨ conflict then .unused else .settling }

/-- R3, R11: the channels at power-on, tested from channel 0 up. -/
def powerOnChannels (cfgs : Vector ChannelCfg 16) : Vector Channel 16 :=
  (List.finRange 16).foldl startChannel (cfgs.map loadChannel)

/-- R103: a compressor at power-on, off for its full minimum off time. -/
def powerOnComp (floor : Nat) (cfg : CompCfg) : Compressor :=
  { cfg := cfg, state := .offLocked, grant := false,
    offTimer := some (max cfg.minOff floor * Config.ticksPerSecond), onTimer := none, history := [],
    blocked := false, nextStart := 0, runSeconds := 0 }

/-- R145: a group at power-on, at its floor. -/
def powerOnGroup (cfg : GroupCfg) : Group :=
  { cfg := cfg, target := cfg.floor, source := none, current := cfg.floor, fade := none, applied := cfg.floor }

/-- R145: the stored start scene recalled into BASE when it is defined and permits the start mode. -/
def startScene (mode : Mode) (l : Lighting) : Lighting :=
  match l.startScene with
  | none => retargetFade 0 l
  | some n =>
    let sc := sceneAt l n
    if sc.defined && permits sc.modes mode then
      retargetFade sc.fade { l with layers := setLayer .base (some ⟨n, 0⟩) l.layers }
    else retargetFade 0 l

/-- R145: the Scene Controller at power-on. -/
def powerOnLight (set : Settings) : Lighting :=
  startScene set.startMode
    { groups := set.groups.map powerOnGroup, scenes := set.scenes, layers := ⟨none, none, none, none⟩,
      startScene := set.startScene, safetyScene := set.safetyScene, grant := 0, capLimit := 1000,
      appliedCap := 1000 }

/-- R170: the records of all blocks under the settings of the start; runtime fields as after reset. -/
def powerOnRecords (r0 r1 r2 : Role) (set : Settings) (s : State) : State :=
  let z := State.reset
  { z with
    channels := powerOnChannels set.channels
    watches := set.watches.map fun cfg => { cfg := cfg, tripped := false, latch := false, lost := false }
    climateCfg := set.climate
    climate := { z.climate with tw := set.climate.fallbackWater }
    mode := { mode := set.startMode, previous := set.startMode, changeTime := 0, startMode := set.startMode }
    alloc := { z.alloc with
      allowance := set.allowance, draws := set.draws, limits := set.limits
      inForce := set.limits.map LimitPair.value }
    seq := { z.seq with comps := set.comps.map (powerOnComp set.limits[2].value.toNat) }
    cover := { z.cover with cfg := set.cover }
    light := powerOnLight set
    ports := powerOnPorts r0 r1 r2 set
    store := { z.store with marked := s.store.marked, image := s.store.image }
    pins := s.pins
    freeSeq := s.freeSeq
    pending := s.pending }

/-- R170: power-on, with the strap codes of the three ports. A power-on during a store leaves the image unmarked
(R169), since the marker went when the store began. -/
def powerUp (strap0 strap1 strap2 : BitVec 2) (s : State) : State :=
  let t := powerOnRecords (roleOf strap0) (roleOf strap1) (roleOf strap2) (startSettings s.store) s
  if s.store.marked then t else post .settingsDefaulted 0 0 t

end Sys2Proof.Machine
end

