-- ==== Sys2Proof/Machine/Ticks.lean ====
section
/-! DEFINITION. The steps of the Time Base (section 1.6.4 of spec/00_scope.md): each periodic step or timer expiry
first lets part time run to the moment it is due, then does its work and starts its period again (DESIGN CHOICE, log 2). -/

namespace Sys2Proof.Machine

/-! ## Periodic steps -/

/-- R85: the input sample when it is due, with the levels the pins bring. -/
def sampleStep (cover interlock fanProof : Bool) (s : State) : State :=
  let s1 := elapse s.timers.sample s
  sampleInputs cover interlock fanProof
    { s1 with
      timers := { s1.timers with sample := Config.samplePeriod }
      pins := { s1.pins with coverLimit := cover, interlock := interlock, fanProof := fanProof } }

/-- R139: the fade tick when it is due. -/
def fadeStepAll (s : State) : State :=
  let s1 := elapse s.timers.fade s
  modLight fadeTickLight { s1 with timers := { s1.timers with fade := Config.fadePeriod } }

/-- R4: the channel scan when it is due, with the conversions it takes. -/
def scanStep (samples : Samples) (s : State) : State :=
  let s1 := elapse s.timers.scan s
  scanAll samples
    { s1 with
      timers := { s1.timers with scan := Config.secondPeriod }
      pins := { s1.pins with samples := samples } }

/-- R34: the second of the water record when it is due. -/
def waterStep (s : State) : State :=
  let s1 := elapse s.timers.water s
  waterSecond { s1 with timers := { s1.timers with water := Config.secondPeriod } }

/-- R97: the second of the Sequencer when it is due. -/
def sequencerStep (s : State) : State :=
  let s1 := elapse s.timers.sequencer s
  seqSecond { s1 with timers := { s1.timers with sequencer := Config.secondPeriod } }

/-- The state in which the second of the programme is taken when it is due. -/
def atCvpSecond (s : State) : State :=
  let s1 := elapse s.timers.cvp s
  { s1 with timers := { s1.timers with cvp := Config.secondPeriod } }

/-- R109: the second of the programme when it is due. -/
def cvpStep (s : State) : State := coverSecond (atCvpSecond s)

/-- R72: the allocation pass when it is due. -/
def passStep (s : State) : State :=
  let s1 := elapse s.timers.pass s
  allocate { s1 with timers := { s1.timers with pass := Config.passPeriod } }

/-- The state in which the computation is made when it is due. -/
def atComputation (s : State) : State :=
  let s1 := elapse s.timers.compute s
  { s1 with timers := { s1.timers with compute := Config.computePeriod } }

/-- R25: the climate computation when it is due. -/
def computeStep (s : State) : State := computation (atComputation s)

/-! ## Timer expiries -/

/-- R14: the step timer of a running search expires, with the comparator's report that the command brings; an idle step
brings the held one (dueTimer; DESIGN CHOICE, log 5). -/
def searchExpiry (above : Bool) (s : State) : State :=
  match s.search with
  | none => s
  | some r => searchStep above r (elapse r.stepLeft s)

/-- R95: the minimum off timer of a compressor expires. -/
def minOffStep (i : CompId) (s : State) : State :=
  match s.seq.comps[i].offTimer with
  | none => s
  | some k => if s.seq.comps[i].state = .offLocked then minOffEnd i (elapse k s) else s

/-- R93: the minimum on timer of a compressor expires. -/
def minOnStep (i : CompId) (s : State) : State :=
  match s.seq.comps[i].onTimer with
  | none => s
  | some k => if s.seq.comps[i].state = .runMin then minOnEnd i (elapse k s) else s

/-- R100: the proof-loss timer expires. -/
def proofLossStep (s : State) : State :=
  match s.seq.lossTimer with
  | none => s
  | some k => proofLoss (elapse k s)

/-- R100: the proof-fail timer expires. -/
def proofFailStep (s : State) : State :=
  match s.seq.failTimer with
  | none => s
  | some k => proofFail (elapse k s)

/-- R157: the silence timer of a PRESENT role expires. -/
def silenceStep (p : PortId) (s : State) : State :=
  match s.ports[p].silenceTimer with
  | none => s
  | some k => if s.ports[p].presence = .present then silenceEnd p (elapse k s) else s

/-! ## Accepted changes of the inputs (R85, R86) -/

/-- R85: the ticks until the fifth differing sample of an input that differs from now on. -/
def ticksToAccept (d : Debounced) (s : State) : Nat := s.timers.sample + (4 - d.count) * Config.samplePeriod

/-- The state at the fifth differing sample of an input, the sample period started again. -/
def atAccept (d : Debounced) (s : State) : State :=
  let s1 := elapse (ticksToAccept d s) s
  { s1 with timers := { s1.timers with sample := Config.samplePeriod } }

/-- R86: INTERLOCK is accepted active. -/
def interlockOnStep (s : State) : State :=
  if s.seq.interlock.active then s
  else
    let s1 := atAccept s.seq.interlock s
    acceptInterlockOn { s1 with pins := { s1.pins with interlock := true } }

/-- R86: INTERLOCK is accepted inactive. -/
def interlockOffStep (s : State) : State :=
  if s.seq.interlock.active then
    let s1 := atAccept s.seq.interlock s
    acceptInterlockOff { s1 with pins := { s1.pins with interlock := false } }
  else s

/-- R86: COVER_LIMIT is accepted at the other level. -/
def coverLimitStep (s : State) : State :=
  let level := !s.seq.coverLimit.active
  let s1 := atAccept s.seq.coverLimit s
  acceptCoverLimit level { s1 with pins := { s1.pins with coverLimit := level } }

/-- R86: FAN_PROOF is accepted active. -/
def fanProofOnStep (s : State) : State :=
  if s.seq.fanProof.active then s
  else
    let s1 := atAccept s.seq.fanProof s
    acceptProofActive { s1 with pins := { s1.pins with fanProof := true } }

/-- R86: FAN_PROOF is accepted inactive. -/
def fanProofOffStep (s : State) : State :=
  if s.seq.fanProof.active then
    let s1 := atAccept s.seq.fanProof s
    acceptProofInactive { s1 with pins := { s1.pins with fanProof := false } }
  else s

/-! ## Outcomes of a periodic step (DESIGN CHOICE, log 16) -/

/-- The periodic step `t` when the outcome comes about in it, and no step at all otherwise. -/
def outcomeStep (met : Bool) (t s : State) : State := if met then t else s

/-- R5: the scan makes the channel's rail count reach 3. -/
def faultsAt (n : ChanId) (samples : Samples) (s : State) : Bool :=
  (visitChannel s.channels[n] samples[n].toNat).2 = some .channelFault

/-- R6: the scan takes the channel's third consecutive good sample in FAULT. -/
def recoversAt (n : ChanId) (samples : Samples) (s : State) : Bool :=
  (visitChannel s.channels[n] samples[n].toNat).2 = some .channelRecover

/-- R9: the scan makes the channel's settle count reach 8 in SETTLING. -/
def validAt (n : ChanId) (samples : Samples) (s : State) : Bool :=
  s.channels[n].status = .settling && (visitChannel s.channels[n] samples[n].toNat).1.status = .valid

/-- R42: a computation now is heat-blind and makes its counter reach 30. -/
def heatDemandDue (s : State) : Bool := heatBlindNow s && s.climate.heatCount + 1 = 30

/-- R43: a computation now is moisture-blind and makes its counter reach 30. -/
def moistureDemandDue (s : State) : Bool := moistBlindNow s && s.climate.moistCount + 1 = 30

/-- R34: a second now makes the stale flag set. -/
def staleDue (s : State) : Bool := !s.water.stale && (waterSecond s).water.stale

/-- The programme's second as far as its counts, where the tests of R109 are made. -/
def atPhaseTests (s : State) : State := phaseCounts (countsSecond (atCvpSecond s))

/-- R112: the programme's second makes the starve flag set. -/
def starveDue (s : State) : Bool :=
  starvedNow (countsSecond (atCvpSecond s)).cover (atPhaseTests s).cover

/-- R139: the group's fade reaches its duration at a tick now. -/
def fadeDone (g : GroupId) (s : State) : Bool :=
  match s.light.groups[g].fade with
  | some f => f.duration ≤ f.elapsed + 1
  | none => false

/-! ## The Time Base on its own (DESIGN CHOICE, log 2) -/

/-- The events of one port that are due: its request in service, the end of its reply, the end of a gap, silence. -/
def duePort (p : PortId) (s : State) : Option Instr :=
  let q := s.ports[p]
  match q.handed with
  | some c => some c
  | none =>
    if q.rx = .transmitting then some (.replySent p)
    else if q.rx = .receiving || q.rx = .discarding then some (.lineQuietExpiry p)
    else if q.presence = .present && q.silenceTimer = some 0 then some (.silenceTimerExpiry p)
    else none

/-- The timer expiries of a compressor that are due. -/
def dueComp (i : CompId) (s : State) : Option Instr :=
  let k := s.seq.comps[i]
  if k.state = .offLocked && k.offTimer = some 0 then some (.minOffExpiry i)
  else if k.state = .runMin && k.onTimer = some 0 then some (.minOnExpiry i)
  else none

/-- The other timer expiries that are due. A store takes the held outcome of its read-back and a search step the held report
of the comparator, which no command changes (DESIGN CHOICE, log 5). -/
def dueTimer (s : State) : Option Instr :=
  if s.seq.lossTimer = some 0 then some .proofLossExpiry
  else if s.seq.failTimer = some 0 then some .proofFailExpiry
  else if s.store.busy && s.store.left = 0 then some (.storeCompletion s.pins.differing)
  else match s.search with
    | some r => if r.stepLeft = 0 then some (.zeroSearchStep s.pins.above) else none
    | none => none

/-- The periodic work that is due. -/
def duePeriod (s : State) : Option Instr :=
  if s.timers.sample = 0 then some (.inputSample s.pins.coverLimit s.pins.interlock s.pins.fanProof)
  else if s.timers.fade = 0 then some .fadeTick
  else if s.timers.scan = 0 then some (.channelScan s.pins.samples)
  else if s.timers.water = 0 then some .waterAgeSecond
  else if s.timers.sequencer = 0 then some .sequencerSecond
  else if s.timers.cvp = 0 then some .cvpSecond
  else if s.timers.compute = 0 then some .climateComputation
  else if s.timers.pass = 0 then some .allocationPass
  else none

/-- The first event that is due, in the order the model takes (DESIGN CHOICE, log 7). -/
def dueEvent (s : State) : Option Instr :=
  [duePort 0 s, duePort 1 s, duePort 2 s, dueComp 0 s, dueComp 1 s, dueTimer s, duePeriod s].findSome? id

end Sys2Proof.Machine
end

