-- ==== Sys2Proof/Machine/EventRows.lean ====
section
/-! DEFINITION. The meanings of the event rows: power-on, the line, expiries, periodic steps, accepted changes of the
inputs, and the outcomes of periodic steps (DESIGN CHOICE, log 16). -/

namespace Sys2Proof.Machine

/-- R170. -/
def execPowerOn (strap0 strap1 strap2 : BitVec 2) (s : State) : Host.Outcome State Fault Refusal :=
  .next (powerUp strap0 strap1 strap2 s)

/-- R147, R148. -/
def execReceiveByte (port : PortId) (data : Byte) (parity stop : Bool) (s : State) : Host.Outcome State Fault Refusal :=
  .next (lineByte port data (lineError data parity stop) s)

/-- R148, R149. -/
def execLineQuietExpiry (port : PortId) (s : State) : Host.Outcome State Fault Refusal :=
  .next (lineQuiet port s)

/-- R150, R155. -/
def execReplySent (port : PortId) (s : State) : Host.Outcome State Fault Refusal :=
  .next (replyEnd port s)

/-- R14, R15. -/
def execZeroSearchStep (above : Bool) (s : State) : Host.Outcome State Fault Refusal :=
  .next (searchExpiry above s)

/-- R169: the end of the store that runs; a store may end at any time within its 500 ms (DESIGN CHOICE, log 2). -/
def execStoreCompletion (differing : BitVec 11) (s : State) : Host.Outcome State Fault Refusal :=
  .next (if s.store.busy then storeEnd differing s else s)

/-- R157. -/
def execSilenceTimerExpiry (port : PortId) (s : State) : Host.Outcome State Fault Refusal :=
  .next (silenceStep port s)

/-- R4. -/
def execChannelScan (samples : Samples) (s : State) : Host.Outcome State Fault Refusal :=
  .next (scanStep samples s)

/-- R5. -/
def execChannelFault (channel : ChanId) (samples : Samples) (s : State) : Host.Outcome State Fault Refusal :=
  .next (outcomeStep (faultsAt channel samples s) (scanStep samples s) s)

/-- R6. -/
def execChannelRecover (channel : ChanId) (samples : Samples) (s : State) : Host.Outcome State Fault Refusal :=
  .next (outcomeStep (recoversAt channel samples s) (scanStep samples s) s)

/-- R9. -/
def execChannelValid (channel : ChanId) (samples : Samples) (s : State) : Host.Outcome State Fault Refusal :=
  .next (outcomeStep (validAt channel samples s) (scanStep samples s) s)

/-- R25. -/
def execClimateComputation (s : State) : Host.Outcome State Fault Refusal :=
  .next (computeStep s)

/-- R42. -/
def execHeatBlindDemand (s : State) : Host.Outcome State Fault Refusal :=
  .next (outcomeStep (heatDemandDue s) (computeStep s) s)

/-- R43. -/
def execMoistureBlindDemand (s : State) : Host.Outcome State Fault Refusal :=
  .next (outcomeStep (moistureDemandDue s) (computeStep s) s)

/-- R34. -/
def execWaterAgeSecond (s : State) : Host.Outcome State Fault Refusal :=
  .next (waterStep s)

/-- R34. -/
def execWaterStale (s : State) : Host.Outcome State Fault Refusal :=
  .next (outcomeStep (staleDue s) (waterStep s) s)

/-- R72. -/
def execAllocationPass (s : State) : Host.Outcome State Fault Refusal :=
  .next (passStep s)

/-- R90, R91, R97. -/
def execSequencerSecond (s : State) : Host.Outcome State Fault Refusal :=
  .next (sequencerStep s)

/-- R95. -/
def execMinOffExpiry (compressor : CompId) (s : State) : Host.Outcome State Fault Refusal :=
  .next (minOffStep compressor s)

/-- R93. -/
def execMinOnExpiry (compressor : CompId) (s : State) : Host.Outcome State Fault Refusal :=
  .next (minOnStep compressor s)

/-- R96, R100. -/
def execProofLossExpiry (s : State) : Host.Outcome State Fault Refusal :=
  .next (proofLossStep s)

/-- R100. -/
def execProofFailExpiry (s : State) : Host.Outcome State Fault Refusal :=
  .next (proofFailStep s)

/-- R102, R135. -/
def execInterlockOn (s : State) : Host.Outcome State Fault Refusal :=
  .next (interlockOnStep s)

/-- R102, R135. -/
def execInterlockOff (s : State) : Host.Outcome State Fault Refusal :=
  .next (interlockOffStep s)

/-- R86, R105. -/
def execCoverLimitChange (s : State) : Host.Outcome State Fault Refusal :=
  .next (coverLimitStep s)

/-- R100. -/
def execFanProofActive (s : State) : Host.Outcome State Fault Refusal :=
  .next (fanProofOnStep s)

/-- R100. -/
def execFanProofInactive (s : State) : Host.Outcome State Fault Refusal :=
  .next (fanProofOffStep s)

/-- R109. -/
def execCvpSecond (s : State) : Host.Outcome State Fault Refusal :=
  .next (cvpStep s)

/-- R106. -/
def execMismatchCountExpiry (s : State) : Host.Outcome State Fault Refusal :=
  .next (outcomeStep (mismatchMet (advanceCounts (atCvpSecond s))) (cvpStep s) s)

/-- R106. -/
def execTravelCountExpiry (s : State) : Host.Outcome State Fault Refusal :=
  .next (outcomeStep (travelMet (advanceCounts (atCvpSecond s)) && !mismatchMet (advanceCounts (atCvpSecond s)))
    (cvpStep s) s)

/-- R110. -/
def execSettleTimeMet (s : State) : Host.Outcome State Fault Refusal :=
  .next (outcomeStep (settleMet (atPhaseTests s)) (cvpStep s) s)

/-- R113. -/
def execPurgeComplete (s : State) : Host.Outcome State Fault Refusal :=
  .next (outcomeStep (purgeMet (atPhaseTests s)) (cvpStep s) s)

/-- R113. -/
def execRestTimeMet (s : State) : Host.Outcome State Fault Refusal :=
  .next (outcomeStep (restMet (atPhaseTests s)) (cvpStep s) s)

/-- R115. -/
def execAlertHoldMet (s : State) : Host.Outcome State Fault Refusal :=
  .next (outcomeStep (holdMet (atPhaseTests s)) (cvpStep s) s)

/-- R121, R122. -/
def execPreopenTimeMet (s : State) : Host.Outcome State Fault Refusal :=
  .next (outcomeStep (preopenMet (atPhaseTests s)) (cvpStep s) s)

/-- R122. -/
def execPermissionHoldMet (s : State) : Host.Outcome State Fault Refusal :=
  .next (outcomeStep (permissionMet (atPhaseTests s)) (cvpStep s) s)

/-- R112. -/
def execPurgeStarved (s : State) : Host.Outcome State Fault Refusal :=
  .next (outcomeStep (starveDue s) (cvpStep s) s)

/-- R139, R143. -/
def execFadeTick (s : State) : Host.Outcome State Fault Refusal :=
  .next (fadeStepAll s)

/-- R139. -/
def execFadeComplete (group : GroupId) (s : State) : Host.Outcome State Fault Refusal :=
  .next (outcomeStep (fadeDone group s) (fadeStepAll s) s)

/-- R85. -/
def execInputSample (coverLimit interlock fanProof : Bool) (s : State) : Host.Outcome State Fault Refusal :=
  .next (sampleStep coverLimit interlock fanProof s)

end Sys2Proof.Machine
end

