-- ==== Sys2Proof/Machine/RequestRows.lean ====
section
/-! DEFINITION. The meanings of the request rows: each names its request, which its owner serves (ownerServe). -/

namespace Sys2Proof.Machine

/-- R152: a code that is not a request code. -/
def execUnknownRequest (port : PortId) (code : Byte) (payload : List Byte) (s : State) :
    Host.Outcome State Fault Refusal :=
  .next (portStep (.unknownRequest port code payload) s)

/-- R166. -/
def execStatus (port : PortId) (s : State) : Host.Outcome State Fault Refusal :=
  .next (requestStep port (.status port) s)

/-- R154. -/
def execReadItems (port : PortId) (itemClass first count : Byte) (s : State) : Host.Outcome State Fault Refusal :=
  .next (requestStep port (.readItems port itemClass first count) s)

/-- R2, R3. -/
def execWriteItemChannel (port : PortId) (index kind zone : Byte) (s : State) : Host.Outcome State Fault Refusal :=
  .next (requestStep port (.writeItemChannel port index kind zone) s)

/-- R19. -/
def execWriteItemWatch (port : PortId) (index source direction : Byte) (threshold hysteresis : Half) (action : Byte) (s : State) :
    Host.Outcome State Fault Refusal :=
  .next (requestStep port (.writeItemWatch port index source direction threshold hysteresis action) s)

/-- R26. -/
def execWriteItemClimateCfg (port : PortId) (index : Byte) (fields : List Half) (s : State) :
    Host.Outcome State Fault Refusal :=
  .next (requestStep port (.writeItemClimateCfg port index fields) s)

/-- R62. -/
def execWriteItemConsumer (port : PortId) (index : Byte) (draws : List Half) (s : State) :
    Host.Outcome State Fault Refusal :=
  .next (requestStep port (.writeItemConsumer port index draws) s)

/-- R60. -/
def execWriteItemAllowance (port : PortId) (index : Byte) (allowance : Half) (s : State) :
    Host.Outcome State Fault Refusal :=
  .next (requestStep port (.writeItemAllowance port index allowance) s)

/-- R88. -/
def execWriteItemCompressor (port : PortId) (index : Byte) (minOff minOn : Half) (startLimit : Byte) (s : State) :
    Host.Outcome State Fault Refusal :=
  .next (requestStep port (.writeItemCompressor port index minOff minOn startLimit) s)

/-- R80. -/
def execWriteItemLimits (port : PortId) (index : Byte) (sHiCap startCap minOffFloor purgeFloor : Half) (s : State) :
    Host.Outcome State Fault Refusal :=
  .next (requestStep port (.writeItemLimits port index sHiCap startCap minOffFloor purgeFloor) s)

/-- R108. -/
def execWriteItemCoverCfg (port : PortId) (index : Byte) (fields : List Half) (s : State) :
    Host.Outcome State Fault Refusal :=
  .next (requestStep port (.writeItemCoverCfg port index fields) s)

/-- R126, R127. -/
def execWriteItemGroup (port : PortId) (index : Byte) (load floor : Half) (s : State) :
    Host.Outcome State Fault Refusal :=
  .next (requestStep port (.writeItemGroup port index load floor) s)

/-- R129, R130. -/
def execWriteItemScene (port : PortId) (index flags : Byte) (fade : Half) (modes : Byte) (pairs : List (Byte × Half)) (s : State) :
    Host.Outcome State Fault Refusal :=
  .next (requestStep port (.writeItemScene port index flags fade modes pairs) s)

/-- R153: a write the port refuses. -/
def execWriteItemReadOnly (port : PortId) (itemClass index : Byte) (rest : List Byte) (s : State) :
    Host.Outcome State Fault Refusal :=
  .next (portStep (.writeItemReadOnly port itemClass index rest) s)

/-- R49. -/
def execSetModeHall (port : PortId) (mode target : Byte) (s : State) : Host.Outcome State Fault Refusal :=
  .next (requestStep port (.setModeHall port mode target) s)

/-- R50. -/
def execSetModeStart (port : PortId) (mode : Byte) (s : State) : Host.Outcome State Fault Refusal :=
  .next (requestStep port (.setModeStart port mode) s)

/-- R33. -/
def execReportWater (port : PortId) (temperature : Half) (s : State) : Host.Outcome State Fault Refusal :=
  .next (requestStep port (.reportWater port temperature) s)

/-- R104. -/
def execReportCover (port : PortId) (report : Byte) (s : State) : Host.Outcome State Fault Refusal :=
  .next (requestStep port (.reportCover port report) s)

/-- R119. -/
def execAskCoverOpen (port : PortId) (s : State) : Host.Outcome State Fault Refusal :=
  .next (requestStep port (.askCoverOpen port) s)

/-- R132. -/
def execRecallLayer (port : PortId) (scene target : Byte) (s : State) : Host.Outcome State Fault Refusal :=
  .next (requestStep port (.recallLayer port scene target) s)

/-- R136. -/
def execRecallStart (port : PortId) (scene : Byte) (s : State) : Host.Outcome State Fault Refusal :=
  .next (requestStep port (.recallStart port scene) s)

/-- R136. -/
def execRecallSafety (port : PortId) (scene : Byte) (s : State) : Host.Outcome State Fault Refusal :=
  .next (requestStep port (.recallSafety port scene) s)

/-- R133. -/
def execRelease (port : PortId) (s : State) : Host.Outcome State Fault Refusal :=
  .next (requestStep port (.release port) s)

/-- R163. -/
def execTakeNotices (port : PortId) (s : State) : Host.Outcome State Fault Refusal :=
  .next (requestStep port (.takeNotices port) s)

/-- R164. -/
def execSetAcceptance (port : PortId) (acceptance : BitVec 64) (code1 : Byte) (subject1 : Half) (code2 : Byte)
    (subject2 : Half) (threshold : Byte) (silence : Half) (s : State) :
    Host.Outcome State Fault Refusal :=
  .next (requestStep port (.setAcceptance port acceptance code1 subject1 code2 subject2 threshold silence) s)

/-- R23. -/
def execClearWatch (port : PortId) (watch : Byte) (s : State) : Host.Outcome State Fault Refusal :=
  .next (requestStep port (.clearWatch port watch) s)

/-- R12, R13. -/
def execZeroSearch (port : PortId) (channel : Byte) (s : State) : Host.Outcome State Fault Refusal :=
  .next (requestStep port (.zeroSearch port channel) s)

/-- R18. -/
def execGainCorrect (port : PortId) (channel : Byte) (error : Half) (s : State) : Host.Outcome State Fault Refusal :=
  .next (requestStep port (.gainCorrect port channel error) s)

/-- R83. -/
def execClearCounters (port : PortId) (s : State) : Host.Outcome State Fault Refusal :=
  .next (requestStep port (.clearCounters port) s)

/-- R169. -/
def execStoreSettings (port : PortId) (s : State) : Host.Outcome State Fault Refusal :=
  .next (requestStep port (.storeSettings port) s)

/-- R155. -/
def execRestart (port : PortId) (s : State) : Host.Outcome State Fault Refusal :=
  .next (requestStep port (.restart port) s)

end Sys2Proof.Machine
end

