-- ==== Sys2Proof/Machine/Dispatch.lean ====
section
/-! DEFINITION. The dispatch of a command to its meaning. -/

namespace Sys2Proof.Machine

def exec (i : Instr) (s : State) : Host.Outcome State Fault Refusal :=
  match i with
  | .powerOn strap0 strap1 strap2 => Sys2Proof.Machine.execPowerOn strap0 strap1 strap2 s
  | .receiveByte port data parity stop => Sys2Proof.Machine.execReceiveByte port data parity stop s
  | .lineQuietExpiry port => Sys2Proof.Machine.execLineQuietExpiry port s
  | .replySent port => Sys2Proof.Machine.execReplySent port s
  | .unknownRequest port code payload => Sys2Proof.Machine.execUnknownRequest port code payload s
  | .status port => Sys2Proof.Machine.execStatus port s
  | .readItems port itemClass first count => Sys2Proof.Machine.execReadItems port itemClass first count s
  | .writeItemChannel port index kind zone => Sys2Proof.Machine.execWriteItemChannel port index kind zone s
  | .writeItemWatch port index source direction threshold hysteresis action => Sys2Proof.Machine.execWriteItemWatch port index source direction threshold hysteresis action s
  | .writeItemClimateCfg port index fields => Sys2Proof.Machine.execWriteItemClimateCfg port index fields s
  | .writeItemConsumer port index draws => Sys2Proof.Machine.execWriteItemConsumer port index draws s
  | .writeItemAllowance port index allowance => Sys2Proof.Machine.execWriteItemAllowance port index allowance s
  | .writeItemCompressor port index minOff minOn startLimit => Sys2Proof.Machine.execWriteItemCompressor port index minOff minOn startLimit s
  | .writeItemLimits port index sHiCap startCap minOffFloor purgeFloor => Sys2Proof.Machine.execWriteItemLimits port index sHiCap startCap minOffFloor purgeFloor s
  | .writeItemCoverCfg port index fields => Sys2Proof.Machine.execWriteItemCoverCfg port index fields s
  | .writeItemGroup port index load floor => Sys2Proof.Machine.execWriteItemGroup port index load floor s
  | .writeItemScene port index flags fade modes pairs => Sys2Proof.Machine.execWriteItemScene port index flags fade modes pairs s
  | .writeItemReadOnly port itemClass index rest => Sys2Proof.Machine.execWriteItemReadOnly port itemClass index rest s
  | .setModeHall port mode target => Sys2Proof.Machine.execSetModeHall port mode target s
  | .setModeStart port mode => Sys2Proof.Machine.execSetModeStart port mode s
  | .reportWater port temperature => Sys2Proof.Machine.execReportWater port temperature s
  | .reportCover port report => Sys2Proof.Machine.execReportCover port report s
  | .askCoverOpen port => Sys2Proof.Machine.execAskCoverOpen port s
  | .recallLayer port scene target => Sys2Proof.Machine.execRecallLayer port scene target s
  | .recallStart port scene => Sys2Proof.Machine.execRecallStart port scene s
  | .recallSafety port scene => Sys2Proof.Machine.execRecallSafety port scene s
  | .release port => Sys2Proof.Machine.execRelease port s
  | .takeNotices port => Sys2Proof.Machine.execTakeNotices port s
  | .setAcceptance port acceptance code1 subject1 code2 subject2 threshold silence => Sys2Proof.Machine.execSetAcceptance port acceptance code1 subject1 code2 subject2 threshold silence s
  | .clearWatch port watch => Sys2Proof.Machine.execClearWatch port watch s
  | .zeroSearch port channel => Sys2Proof.Machine.execZeroSearch port channel s
  | .zeroSearchStep above => Sys2Proof.Machine.execZeroSearchStep above s
  | .gainCorrect port channel error => Sys2Proof.Machine.execGainCorrect port channel error s
  | .clearCounters port => Sys2Proof.Machine.execClearCounters port s
  | .storeSettings port => Sys2Proof.Machine.execStoreSettings port s
  | .storeCompletion differing => Sys2Proof.Machine.execStoreCompletion differing s
  | .restart port => Sys2Proof.Machine.execRestart port s
  | .silenceTimerExpiry port => Sys2Proof.Machine.execSilenceTimerExpiry port s
  | .channelScan samples => Sys2Proof.Machine.execChannelScan samples s
  | .channelFault channel samples => Sys2Proof.Machine.execChannelFault channel samples s
  | .channelRecover channel samples => Sys2Proof.Machine.execChannelRecover channel samples s
  | .channelValid channel samples => Sys2Proof.Machine.execChannelValid channel samples s
  | .climateComputation => Sys2Proof.Machine.execClimateComputation s
  | .heatBlindDemand => Sys2Proof.Machine.execHeatBlindDemand s
  | .moistureBlindDemand => Sys2Proof.Machine.execMoistureBlindDemand s
  | .waterAgeSecond => Sys2Proof.Machine.execWaterAgeSecond s
  | .waterStale => Sys2Proof.Machine.execWaterStale s
  | .allocationPass => Sys2Proof.Machine.execAllocationPass s
  | .sequencerSecond => Sys2Proof.Machine.execSequencerSecond s
  | .minOffExpiry compressor => Sys2Proof.Machine.execMinOffExpiry compressor s
  | .minOnExpiry compressor => Sys2Proof.Machine.execMinOnExpiry compressor s
  | .proofLossExpiry => Sys2Proof.Machine.execProofLossExpiry s
  | .proofFailExpiry => Sys2Proof.Machine.execProofFailExpiry s
  | .interlockOn => Sys2Proof.Machine.execInterlockOn s
  | .interlockOff => Sys2Proof.Machine.execInterlockOff s
  | .coverLimitChange => Sys2Proof.Machine.execCoverLimitChange s
  | .fanProofActive => Sys2Proof.Machine.execFanProofActive s
  | .fanProofInactive => Sys2Proof.Machine.execFanProofInactive s
  | .cvpSecond => Sys2Proof.Machine.execCvpSecond s
  | .mismatchCountExpiry => Sys2Proof.Machine.execMismatchCountExpiry s
  | .travelCountExpiry => Sys2Proof.Machine.execTravelCountExpiry s
  | .settleTimeMet => Sys2Proof.Machine.execSettleTimeMet s
  | .purgeComplete => Sys2Proof.Machine.execPurgeComplete s
  | .restTimeMet => Sys2Proof.Machine.execRestTimeMet s
  | .alertHoldMet => Sys2Proof.Machine.execAlertHoldMet s
  | .preopenTimeMet => Sys2Proof.Machine.execPreopenTimeMet s
  | .permissionHoldMet => Sys2Proof.Machine.execPermissionHoldMet s
  | .purgeStarved => Sys2Proof.Machine.execPurgeStarved s
  | .fadeTick => Sys2Proof.Machine.execFadeTick s
  | .fadeComplete group => Sys2Proof.Machine.execFadeComplete group s
  | .inputSample coverLimit interlock fanProof => Sys2Proof.Machine.execInputSample coverLimit interlock fanProof s

end Sys2Proof.Machine
end

