-- ==== Sys2Proof/Machine/Step.lean ====
section
/-! DEFINITION. The step: the command at the front of the queue (DESIGN CHOICE, log 1), or the Time Base on its own (DESIGN CHOICE, log 2). -/

namespace Sys2Proof.Machine

/-- The front command runs on the state with the rest of the queue. On an empty queue the first event that is due is
taken, and part time runs on by one tick of 10 ms when none is due. -/
def step (s : State) : Host.Outcome State Fault Refusal :=
  match s.pending with
  | i :: rest => exec i { s with pending := rest }
  | [] =>
    match dueEvent s with
    | some i => exec i s
    | none => .next (elapse 1 s)

/-- The command a table word spells put at the front of the queue; no row of the table gives bits. -/
def State.withFetchWord (s : State) (nbits w : Nat) : State :=
  match decodeTableWord nbits w with
  | some i => { s with pending := i :: s.pending }
  | none => s

end Sys2Proof.Machine
end

