-- ==== Sys2Proof/WellFormed.lean ====
section
/-! DEFINITION. Well-formed commands: a request's fields fill the frame its row stands for (Tables 11-2 and 11-3),
and two rows do not stand for one frame. Events are always well formed. -/

namespace Sys2Proof

/-- The request codes of R152. -/
def requestCodes : List Nat :=
  [0x01, 0x02, 0x03, 0x10, 0x20, 0x21, 0x22, 0x30, 0x31, 0x40, 0x41, 0x42, 0x50, 0x51, 0x52, 0x60, 0x61]

/-- An unknown request has a code outside R152 and a payload of 0..60 bytes (section 8.2). -/
def unknownGood (code : Byte) (payload : List Byte) : Bool :=
  !requestCodes.contains code.toNat && payload.length ≤ 60

/-- A CONSUMER write has four draws for index 0 and one for every other index (R153). -/
def drawsGood (index : Byte) (draws : List Half) : Bool := draws.length = if index = 0 then 4 else 1

/-- Seventeen pairs are the most a frame can carry (7 + 3 × 17 = 58 bytes). -/
def pairsGood (pairs : List (Byte × Half)) : Bool := pairs.length ≤ 17

/-- A refused write fits in a frame. -/
def restGood (rest : List Byte) : Bool := rest.length ≤ 58

/-- The command's fields stand for one request frame of its row. -/
def wellFormed (i : Instr) : Bool :=
  match i with
  | .unknownRequest _ code payload => unknownGood code payload
  | .writeItemClimateCfg _ _ fields => fields.length = 18
  | .writeItemConsumer _ index draws => drawsGood index draws
  | .writeItemCoverCfg _ _ fields => fields.length = 8
  | .writeItemScene _ _ _ _ _ pairs => pairsGood pairs
  | .writeItemReadOnly _ _ _ rest => restGood rest
  | .setModeHall _ _ target => target ≠ 1
  | .recallLayer _ _ target => target ≠ 1 && target ≠ 2
  | .powerOn .. | .receiveByte .. | .lineQuietExpiry _ | .replySent _ | .status _ | .readItems ..
  | .writeItemChannel .. | .writeItemWatch .. | .writeItemAllowance .. | .writeItemCompressor ..
  | .writeItemLimits .. | .writeItemGroup .. | .setModeStart .. | .reportWater .. | .reportCover ..
  | .askCoverOpen _ | .recallStart .. | .recallSafety .. | .release _ | .takeNotices _ | .setAcceptance ..
  | .clearWatch .. | .zeroSearch .. | .zeroSearchStep _ | .gainCorrect .. | .clearCounters _ | .storeSettings _
  | .storeCompletion _ | .restart _ | .silenceTimerExpiry _ | .channelScan _ | .channelFault ..
  | .channelRecover .. | .channelValid .. | .climateComputation | .heatBlindDemand | .moistureBlindDemand
  | .waterAgeSecond | .waterStale | .allocationPass | .sequencerSecond | .minOffExpiry _ | .minOnExpiry _
  | .proofLossExpiry | .proofFailExpiry | .interlockOn | .interlockOff | .coverLimitChange | .fanProofActive
  | .fanProofInactive | .cvpSecond | .mismatchCountExpiry | .travelCountExpiry | .settleTimeMet | .purgeComplete
  | .restTimeMet | .alertHoldMet | .preopenTimeMet | .permissionHoldMet | .purgeStarved | .fadeTick
  | .fadeComplete _ | .inputSample .. => true

end Sys2Proof
end

