-- ==== Sys2Proof/Safety.lean ====
section
/-! DEFINITION. What a sound state of the part is, in the words of the manual: the bounds of its stores, and the
promises it makes about the plant, the covers and the lighting. -/

namespace Sys2Proof.Machine

/-- R149, R162: the queue holds at most 8 records, and the drop and discard counts stop at 255. -/
def portBounded (q : Port) : Prop := q.notices.queue.length ≤ 8 ∧ q.notices.drops ≤ 255 ∧ q.discards ≤ 255

/-- Every port is within its bounds. -/
def PortsBounded (s : State) : Prop := ∀ p : PortId, portBounded s.ports[p]

/-- R102: while the interlock is active every plant line and output is off. -/
def PlantHeld (s : State) : Prop :=
  s.seq.interlock.active = true →
    s.seq.fanLevel = 0 ∧ s.seq.pfLine = false ∧ s.seq.valve = 0 ∧ (∀ h : Fin 3, s.seq.heaters[h].line = false) ∧
      ∀ i : CompId, running s.seq.comps[i] = false

/-- R122: the cover-open permission is outstanding exactly while the programme is in RELEASED. -/
def ReleaseHeld (s : State) : Prop := s.cover.release = true ↔ s.cover.prog = .released

/-- R141 to R143: the cap limit is the one R142 gives, the applied cap is at most the limit, and every applied level
is the one R141 gives. -/
def capSound (l : Lighting) : Prop :=
  l.capLimit = capLimitOf l ∧ l.appliedCap ≤ l.capLimit ∧
    ∀ g : GroupId, l.groups[g].applied = appliedLevel l.appliedCap l.groups[g]

/-- The cap record of the part is sound. -/
def CapHeld (s : State) : Prop := capSound s.light

/-- R90, R91: no start history holds more starts than the start limit in force. -/
def StartsHeld (s : State) : Prop := ∀ i : CompId, (s.seq.comps[i]).history.length ≤ startLimit s.alloc s.seq.comps[i]

/-- R12, R13: a channel is CALIBRATING exactly while the search record names it, and a conflict channel is UNUSED. -/
def SearchHeld (s : State) : Prop :=
  ∀ n : ChanId, (s.channels[n].status = .calibrating ↔ underSearch s n = true) ∧
    (s.channels[n].conflict = true → s.channels[n].status = .unused)

/-- R156, R157: an OBSERVER port has no presence, and a silence timer runs exactly while its role is PRESENT. -/
def presenceSound (q : Port) : Prop :=
  (q.role = .observer ↔ q.presence = .none) ∧ (q.silenceTimer.isSome = true ↔ q.presence = .present)

/-- Presence is sound at every port. -/
def PresenceHeld (s : State) : Prop := ∀ p : PortId, presenceSound s.ports[p]

/-- R152: the roles that may send a request, or the form of it that its operands name; a READ_ITEMS names a class. -/
def mayAsk (role : Role) (i : Instr) : Bool :=
  match i with
  | .status _ | .takeNotices _ | .setAcceptance .. => true
  | .readItems _ k _ _ => (classOf k).isSome
  | .writeItemChannel .. | .writeItemWatch .. | .writeItemClimateCfg .. | .writeItemConsumer ..
  | .writeItemAllowance .. | .writeItemCompressor .. | .writeItemLimits .. | .setModeStart .. | .recallStart ..
  | .recallSafety .. | .clearWatch .. | .zeroSearch .. | .gainCorrect .. | .clearCounters _ | .restart _ =>
    role = .building
  | .writeItemCoverCfg .. | .reportWater .. | .reportCover .. | .askCoverOpen _ => role = .pool
  | .writeItemGroup .. | .writeItemScene .. => role = .lighting
  | .setModeHall _ _ target => role = .building || (target ≠ 0 && role ≠ .observer)
  | .recallLayer .. | .release _ => role ≠ .observer
  | .storeSettings _ => role = .building || role = .lighting
  | .unknownRequest .. | .writeItemReadOnly .. => false
  | .powerOn .. | .receiveByte .. | .lineQuietExpiry _ | .replySent _ | .zeroSearchStep _ | .storeCompletion _
  | .silenceTimerExpiry _ | .channelScan _ | .channelFault .. | .channelRecover .. | .channelValid ..
  | .climateComputation | .heatBlindDemand | .moistureBlindDemand | .waterAgeSecond | .waterStale
  | .allocationPass | .sequencerSecond | .minOffExpiry _ | .minOnExpiry _ | .proofLossExpiry | .proofFailExpiry
  | .interlockOn | .interlockOff | .coverLimitChange | .fanProofActive | .fanProofInactive | .cvpSecond
  | .mismatchCountExpiry | .travelCountExpiry | .settleTimeMet | .purgeComplete | .restTimeMet | .alertHoldMet
  | .preopenTimeMet | .permissionHoldMet | .purgeStarved | .fadeTick | .fadeComplete _ | .inputSample .. => false

/-! ## Words of the statements -/

/-- The request c is in service at port p: its frame was valid, it passed the tests of R152, and its owner has yet to
take it. -/
def Served (s : State) (p : PortId) (c : Instr) : Prop := s.ports[p].handed = some c

/-- Port p replies with a result and no payload (R151). -/
def reply (p : PortId) (code : Byte) (r : Result) (s : State) : State := sendReply p code ⟨r, []⟩ s

/-- Port p has received a valid frame: it is SERVING, and presence has been handled (R152, R157, R158). -/
def heard (p : PortId) (s : State) : State :=
  frameHeard p (setPort p { s.ports[p] with rx := .serving, buffer := [] } s)

/-- Port p has received the valid frame of the request c and handed it to its owner (R152). -/
def inService (p : PortId) (c : Instr) (s : State) : State :=
  setPort p { (heard p s).ports[p] with handed := some c } (heard p s)

/-- Commands run one after the other, up to the first that does not answer a next state. -/
def execAll (cs : List Instr) (s : State) : Host.Outcome State Fault Refusal :=
  match cs with
  | [] => .next s
  | c :: rest =>
    match exec c s with
    | .next t => execAll rest t
    | .fault r => .fault r
    | .refused r => .refused r

/-- The discard count after one more discarded frame (R149). -/
def moreDiscards (n : Nat) : Nat := if n < 255 then n + 1 else n

/-- R110, R116 to R118: where the programme stands after the derived state has changed to `d`; `alert` says that some
ALERT_PURGE watch is TRIPPED (R111). -/
def programmeAfter (alert : Bool) (p : Prog) (d : Derived) : Prog :=
  match p, d with
  | .disagree, .closed => if alert then .alert else .purge
  | .disagree, .coverOpen => .idle
  | .disagree, _ => .disagree
  | .idle, .closed => if alert then .alert else .settle
  | .idle, .disagree => .disagree
  | .idle, _ => .idle
  | p, .closed => p
  | _, .disagree => .disagree
  | _, _ => .idle

/-- Notices posted one after the other: code, subject and value of each (R160). -/
def postAll (ns : List (Code × Nat × Int)) (s : State) : State :=
  ns.foldl (fun acc n => post n.1 n.2.1 n.2.2 acc) s

/-- A phase is entered with nothing left of the one before (R112 to R118; what R107 does not name for it is DEDUCED,
log 9). -/
def cleared (p : Prog) (c : Cover) : Cover :=
  { c with
    prog := p, elapsed := 0, counted := 0, preopenAcc := 0, origin := none, hold := none, release := false
    starve := 0, starved := false }

/-- R105, R110, R116 to R118: the cover record after its derived state has changed to `d`. -/
def coverAfter (alert : Bool) (d : Derived) (c : Cover) : Cover :=
  let p := programmeAfter alert c.prog d
  if p = c.prog then { c with derived := d }
  else { cleared p c with derived := d, cycles := if c.prog = .idle ∧ d = .closed then 0 else c.cycles }

/-- R116, R118: what the programme posts when the derived state changes to `d`. -/
def programmeNotices (d : Derived) (c : Cover) : List (Code × Nat × Int) :=
  if c.prog = .released ∧ d = .disagree then
    [(.coverReleaseLapsed, 2, ((c.cfg.permissionHold - c.elapsed : Nat) : Int))]
  else if c.prog ≠ .idle ∧ c.prog ≠ .released ∧ c.prog ≠ .disagree ∧ (d = .coverOpen ∨ d = .moving) then
    [(.coverUnsanctioned, progCode c.prog, (derivedCode d : Int))]
  else []

/-- R105: the report and the switch have been evaluated: a held row starts the mismatch count, another row gives the
derived state, and a new one is posted and reaches the programme. -/
def coverEvaluated (s : State) : State :=
  let c := s.cover
  match pairOutcome c.report s.seq.coverLimit.active with
  | none => { s with cover := { c with mismatch := 0 } }
  | some (d, only) =>
    if d = c.derived then { s with cover := { c with switchOnly := only } }
    else
      { postAll ((.coverState, derivedCode d, (derivedCode c.derived : Int)) :: programmeNotices d c) s with
        cover := coverAfter (alertTripped s) d { c with switchOnly := only } }

/-- R104: the report is `r`, and a new one has been evaluated. -/
def reported (r : Report) (s : State) : State :=
  if r = s.cover.report then s
  else coverEvaluated
    { s with cover := { s.cover with report := r, travel := if r = .moving then 0 else s.cover.travel } }

/-- R106, R116: a count has made the derived state DISAGREE, for the cause it carries. -/
def disagreed (cause : Nat) (s : State) : State :=
  { postAll ([(.coverState, 3, (derivedCode s.cover.derived : Int)), (.coverDisagree, cause, (reportCode s.cover.report : Int))]
      ++ programmeNotices .disagree s.cover) s with
    cover := coverAfter (alertTripped s) .disagree s.cover }

/-- R106: the mismatch and travel counts one second on. -/
def disagreeCounts (held : Bool) (c : Cover) : Cover :=
  { c with
    mismatch := if held = true ∧ c.mismatch < 30 then c.mismatch + 1 else c.mismatch
    travel := if c.report = .moving ∧ c.travel < 1800 then c.travel + 1 else c.travel }

/-- R109, R112, R115, R121: the counts of the programme's state one second on, with the PF line as it is read. -/
def phaseCounted (line : Bool) (c : Cover) : Cover :=
  let timed := c.prog = .purge ∨ c.prog = .preopen
  let starve := if line then 0 else if c.starve < 4 then c.starve + 1 else c.starve
  { c with
    elapsed := if c.elapsed < 65535 then c.elapsed + 1 else c.elapsed
    counted := if c.prog = .purge ∧ line = true then c.counted + 1 else c.counted
    preopenAcc :=
      if c.prog = .preopen ∧ line = true ∧ c.preopenAcc < c.cfg.preopenTime then c.preopenAcc + 1 else c.preopenAcc
    hold := if c.prog = .alert then c.hold.map (· + 1) else c.hold
    starve := if timed then starve else c.starve
    starved := if timed then !line && (c.starved || decide (starve = 4)) else c.starved }

/-- The cover record with every count of the programme's second taken (R106, R109, R112, R115, R121). -/
def secondOf (s : State) : Cover := phaseCounted s.seq.pfLine (disagreeCounts (heldRow s) s.cover)

/-- R109, R112: the second of the programme as far as its counts, PURGE_STARVED posted where the starve flag becomes
set (its value in PREOPEN is log 28, its place before the tests of the state log 29). -/
def countedSecond (s : State) : State :=
  let c := secondOf s
  let w := atCvpSecond s
  { (if c.starved = true ∧ s.cover.starved = false then
      post .purgeStarved (progCode c.prog) (if c.prog = .preopen then c.preopenAcc else c.counted) w
     else w) with cover := c }

/-- R106: no count makes the derived state DISAGREE at this second. -/
def countsQuiet (s : State) : Prop :=
  let c := disagreeCounts (heldRow s) s.cover
  c.derived = .disagree ∨
    ((heldRow s = true → c.mismatch < 30) ∧ (c.report = .moving → c.travel < c.cfg.travelLimit))

/-- R110, R113, R115, R121, R122: a state of the programme ends at a second that leaves the counts `c`. -/
def phaseEnds (s : State) (c : Cover) : Prop :=
  (c.prog = .settle ∧ c.cfg.settleTime ≤ c.elapsed) ∨ (c.prog = .purge ∧ purgeHighInForce s ≤ c.counted) ∨
  (c.prog = .rest ∧ (c.cfg.cycleLimit = 0 ∨ c.cycles < c.cfg.cycleLimit) ∧ c.cfg.restLow ≤ c.elapsed) ∨
  (c.prog = .alert ∧ ∃ h, c.hold = some h ∧ c.cfg.alertHold ≤ h) ∨
  (c.prog = .preopen ∧ c.cfg.preopenTime ≤ c.preopenAcc ∧ alertTripped s = false) ∨
  (c.prog = .released ∧ c.cfg.permissionHold ≤ c.elapsed)

/-- R111: the night state that an entry into `p` gives. -/
def nightState (s : State) (p : Prog) : Prog := if alertTripped s = true then .alert else p

/-! ### Watches -/

/-- R20, R21: a watch reached with a value of its source; `none` is a lost source. -/
def watchAfter (w : Watch) (v : Option Int) : Watch :=
  match v with
  | none => { w with lost := true }
  | some x =>
    { w with tripped := compareWatch w x, latch := w.latch || (compareWatch w x && !w.tripped), lost := false }

/-- R21: what watch i posts for its change from `s` to `t` on the value v, and whether it is the trip of an ALERT_PURGE
watch. -/
def watchNotice (i : Fin 8) (v : Int) (s t : State) : List (Bool × Code × Nat × Int) :=
  let a := s.watches[i]
  let b := t.watches[i]
  if a.tripped = b.tripped then []
  else if b.tripped then [(decide (a.cfg.action = .alertPurge), .watchTrip, i, v)]
  else [(false, .watchClear, i, v)]

/-- R114: in RELEASED the first trip of an ALERT_PURGE watch is followed by the lapse of the permission (log 26). -/
def withLapse (rest : Nat) : List (Bool × Code × Nat × Int) → List (Code × Nat × Int)
  | [] => []
  | n :: ns => if n.1 then n.2 :: (.coverReleaseLapsed, 1, (rest : Int)) :: ns.map Prod.snd else n.2 :: withLapse rest ns

/-- The notices of a scan or a computation in the order they are filed (R114; logs 7 and 26). -/
def watchesFiled (c : Cover) (ns : List (Bool × Code × Nat × Int)) : List (Code × Nat × Int) :=
  if c.prog = .released then withLapse (c.cfg.permissionHold - c.elapsed) ns else ns.map Prod.snd

/-- R114, R115: the cover record after the ALERT_PURGE watches have changed from `s` to `t`. -/
def coverWatched (s t : State) : Cover :=
  let c := s.cover
  if ∃ i : Fin 8, s.watches[i].cfg.action = .alertPurge ∧ s.watches[i].tripped = false ∧ t.watches[i].tripped = true then
    match c.prog with
    | .settle | .purge | .rest | .released => cleared .alert c
    | .alert => { c with hold := none }
    | .preopen | .idle | .disagree => c
  else if c.prog = .alert ∧ alertTripped t = false ∧ ∃ i : Fin 8,
      s.watches[i].cfg.action = .alertPurge ∧ s.watches[i].tripped = true ∧ t.watches[i].tripped = false then
    { c with hold := some 0 }
  else c

/-! ### Inputs -/

/-- R85: one sample at `level` of an input that stands at `d`, from u to v: an agreeing level clears the count, a
differing one counts, and the fifth has the effect of the row at that moment; `put` replaces the input. -/
def Sampled (d : Debounced) (level : Bool) (row : Instr) (put : Debounced → Sequencer → Sequencer) (u v : State) : Prop :=
  (level = d.active → v = { u with seq := put ⟨level, 0⟩ u.seq }) ∧
  (level ≠ d.active → d.count < 4 → v = { u with seq := put ⟨d.active, d.count + 1⟩ u.seq }) ∧
  (level ≠ d.active → 4 ≤ d.count → exec row { u with timers := { u.timers with sample := 0 } } = .next v)

/-! ### Fields of records -/

/-- R172: the number that n bytes of a record hold from an offset on, least significant byte first. -/
def fieldAt (b : List Byte) (o n : Nat) : Nat :=
  (List.range n).foldr (fun k acc => (b.getD (o + k) 0).toNat + 256 * acc) 0

/-- R172: the number that carries a signed value in two bytes. -/
def signedField (v : Int) : Nat := (v % 65536).toNat

/-- R172: the flags byte with bit 0 first. -/
def flagsOf (bits : List Bool) : Nat := bits.foldr (fun b acc => b.toNat + 2 * acc) 0

/-! ### The walk of a pass -/

/-- The order in which classes 2 to 5 reach the consumers beside FAN (R71, R74): the compressors are in class 2 while
the protective flag is set, else in class 5. -/
def walkOrder (protective : Bool) (lead : CompId) : List (Fin 8) :=
  let pair : List (Fin 8) := if lead = 0 then [1, 2] else [2, 1]
  if protective then pair ++ [6, 3, 4, 5, 7] else [6, 3, 4, 5, 7] ++ pair

/-- R71, R74: the draw a consumer beside FAN takes in the walk from its record after the pass: a committed one takes
none there, LT takes its grant. -/
def walkDraw (s : State) (cs : Vector Consumer 8) (k : Fin 8) : Nat :=
  if k = 7 then cs[k].granted
  else if cs[k].granted = 1 ∧ cs[k].cls ≠ .committed then s.alloc.draws.items.toList.getD (k.val - 1) 0 else 0

/-- What the consumers before k in the walk leave of `left`. -/
def leftBefore (s : State) (cs : Vector Consumer 8) (order : List (Fin 8)) (left : Nat) (k : Fin 8) : Nat :=
  left - ((order.takeWhile fun j => decide (j ≠ k)).map (walkDraw s cs)).sum

/-- R63, R77: consumer k runs, and its row of R77 asks for a grant of 0. -/
def mayShed (s : State) (k : Fin 8) : Bool :=
  match k with
  | 0 => 0 < s.seq.fanLevel && 0 < fanDraw s.alloc.draws s.seq.fanLevel
  | 1 => s.seq.comps[0].state = .run
  | 2 => s.seq.comps[1].state = .run
  | 3 => s.seq.heaters[0].line && 0 < s.alloc.draws.items[2]
  | 4 => s.seq.heaters[1].line && 0 < s.alloc.draws.items[3]
  | 5 => s.seq.heaters[2].line && 0 < s.alloc.draws.items[4]
  | 6 => s.seq.pfLine && 0 < s.alloc.draws.items[5]
  | 7 => false

/-- R81: the lowest limits field that does not match its complement. -/
def lowestBad (a : Allocator) : Option (Fin 4) :=
  (List.finRange 4).find? fun k => decide (a.limits[k].complement ≠ ~~~a.limits[k].value)

/-- R73, R77, R81: the notices of a pass before those of the Sequencer, from the records after it. -/
def passNotices (s t : State) : List (Code × Nat × Int) :=
  (if s.alloc.overCommit = false ∧ s.alloc.allowance < t.alloc.committed then
    [(.overCommit, 0, ((min (t.alloc.committed - s.alloc.allowance) 32767 : Nat) : Int))] else []) ++
  ((List.finRange 8).filter fun k => mayShed s k && t.alloc.consumers[k].granted = 0).map
    (fun k => (.shed, k.val, if 0 < t.alloc.consumers[k].requested then 1 else 0)) ++
  match lowestBad s.alloc with
  | none => []
  | some k => if s.alloc.limitsFault = true then [] else [(.limitsFault, k.val, (s.alloc.limits[k].value.toNat : Int))]

/-! ### Compressors -/

/-- R91: the conditions of a start beside the start history, with the supply fan at a level. -/
def mayStart (q : Sequencer) (level : Nat) : Prop := q.interlock.active = false ∧ q.proof = .proven ∧ 2 ≤ level

/-- R90 to R92: a test event at part time `pt` has taken compressor c to d, under the start limit in force; `free` says
that the other conditions of a start hold. Only a compressor in OFF_READY with a stored grant of 1 is tested: it
starts, waits, or is blocked by a full history. -/
def StartTested (pt : Word) (limit : Nat) (free : Prop) (c d : Compressor) : Prop :=
  let h := prune pt c.history
  let tested := c.state = .offReady ∧ c.grant = true
  (¬tested → d = c) ∧
  (tested → h.length < limit → free → d = { c with
    state := .runMin, history := h ++ [pt], offTimer := none, onTimer := some (100 * c.cfg.minOn), blocked := false }) ∧
  (tested → h.length < limit → ¬free → d = { c with history := h }) ∧
  (tested → limit ≤ h.length →
    d = { c with history := h, blocked := true, nextStart := d.nextStart } ∧
    (c.blocked = true → d.nextStart = c.nextStart) ∧
    (c.blocked = false → ∀ e, h.head? = some e → d.nextStart = e + 3600))

/-- R91, R92: what a test event that has taken compressor i from c to d posts: COMP_START with the entries of its
history, or START_LIMIT where a blocked episode begins. -/
def startNotices (i : CompId) (c d : Compressor) : List (Code × Nat × Int) :=
  if c.state = .offReady ∧ d.state = .runMin then [(.compStart, i.val, (d.history.length : Int))]
  else if c.blocked = false ∧ d.blocked = true then [(.startLimit, i.val, (d.nextStart.toNat : Int))]
  else []

/-- R81, R90, R91: an event has moved the start limit in force from `old` to `new`: the history is shortened to it, and a
raise is a test event. -/
def LimitMoved (pt : Word) (old new : Nat) (free : Prop) (c d : Compressor) : Prop :=
  let short := { c with history := c.history.drop (c.history.length - new) }
  (new ≤ old → d = short) ∧ (old < new → StartTested pt new free short d)

/-- R95: a compressor that has stopped, with the min-off floor in force. -/
def stopped (floor : Nat) (c : Compressor) : Compressor :=
  { c with state := .offLocked, onTimer := none, offTimer := some (100 * max c.cfg.minOff floor) }

/-- R95, R96: COMP_STOP of each compressor that runs when a forced stop comes (C1 first, log 27). -/
def forcedStops (cause : Nat) (q : Sequencer) : List (Code × Nat × Int) :=
  ((List.finRange 2).filter fun i => running q.comps[i]).map fun i => (.compStop, i.val, (cause : Int))

/-- R89, R92, R94: a compressor with the grant of a pass: a grant of 0 ends a blocked episode, and stops it in RUN. -/
def withGrant (g : Bool) (floor : Nat) (c : Compressor) : Compressor :=
  let d := { c with grant := g, blocked := c.blocked && g }
  if c.state = .run ∧ g = false then stopped floor d else d

/-! ### Lighting -/

/-- R57: the fade time of group g at a change into mode m: that of the scene that leaves the layer the group had its
target from. -/
def modeFade (m : Mode) (l : Lighting) (g : GroupId) : Nat :=
  match l.groups[g].source with
  | none => 0
  | some k =>
    if k = .safety then 0
    else match getLayer l.layers k with
      | none => 0
      | some st => if permits (sceneAt l st.scene).modes m = true then 0 else (sceneAt l st.scene).fade

/-- R145: every group at its floor, no layer filled. -/
def atFloors (l : Lighting) : Lighting :=
  { l with
    layers := ⟨none, none, none, none⟩
    groups := l.groups.map fun g =>
      { cfg := g.cfg, target := g.cfg.floor, source := none, current := g.cfg.floor, fade := none
        applied := g.cfg.floor } }

/-- R137, R138, R142: the targets of `a` have been formed again as `b`: every group that changes its target starts a
fade of its duration from where it stands, the others keep level and fade, and the cap record is sound, an applied cap above the limit having fallen to it
(R143). -/
def RetargetedBy (dur : GroupId → Nat) (a b : Lighting) : Prop :=
  b.scenes = a.scenes ∧ b.startScene = a.startScene ∧ b.safetyScene = a.safetyScene ∧ b.grant = a.grant ∧
  capSound b ∧ b.appliedCap = min a.appliedCap b.capLimit ∧
  ∀ g : GroupId,
    b.groups[g].cfg = a.groups[g].cfg ∧
    b.groups[g].target = max (resolve b g).1 a.groups[g].cfg.floor ∧
    b.groups[g].source = (resolve b g).2 ∧
    (b.groups[g].target = a.groups[g].target →
      b.groups[g].current = a.groups[g].current ∧ b.groups[g].fade = a.groups[g].fade) ∧
    (b.groups[g].target ≠ a.groups[g].target →
      if dur g = 0 then b.groups[g].current = b.groups[g].target ∧ b.groups[g].fade = none
      else b.groups[g].current = a.groups[g].current ∧ b.groups[g].fade = some ⟨a.groups[g].current, 0, dur g⟩)

/-- R137, R138, R142: the targets formed again with one fade time for every group that changes. -/
def Retargeted (dur : Nat) (a b : Lighting) : Prop := RetargetedBy (fun _ => dur) a b

/-- R127, R138: the fade time of a target that falls with its floor: that of the scene in its source layer, 0 for NONE and
for an undefined safety scene. -/
def fallFade (l : Lighting) (source : Option Layer) : Nat :=
  match source.bind fun k => (getLayer l.layers k).map fun st => (k, sceneAt l st.scene) with
  | none => 0
  | some (k, sc) => if k = .safety ∧ sc.defined = false then 0 else sc.fade

/-- R134: layer k of u has been emptied by the silence of its owner, giving t. -/
def LayerSilenced (k : Layer) (u t : State) : Prop :=
  (getLayer u.light.layers k = none → t = u) ∧
  ∀ st, getLayer u.light.layers k = some st →
    t = { post .layerReleased (layerCode k) st.scene u with light := t.light } ∧
    t.light.layers = setLayer k none u.light.layers ∧ Retargeted (sceneAt u.light st.scene).fade u.light t.light

end Sys2Proof.Machine
end

