-- ==== Sys2Proof/Certificates/Slice0/Obligations.lean ====
section
/-! DEFINITION. The statements about the part, for the provers. Part time and idle steps are the model's (log 2). -/

open Sys2Proof Sys2Proof.Machine

/-! ## The step -/

/-- The step takes the front command, or on an empty queue the event that is due, or lets one tick pass. Section 1.6.3:
when k ticks pass, PT and tick count them, every running timer has k ticks less, and nothing else changes.
The model's choices in it: the queue is log 1, part time on an empty queue log 2, the order of due events log 7, the
wrap of PT log 18. -/
def Obligations.StepRunsFrontCommand : Prop :=
  (∀ (c : Instr) (rest : List Instr) (s : State), s.pending = c :: rest → step s = exec c { s with pending := rest }) ∧
  (∀ (c : Instr) (s : State), s.pending = [] → dueEvent s = some c → step s = exec c s) ∧
  (∀ s : State, s.pending = [] → dueEvent s = none → step s = .next (elapse 1 s)) ∧
  ∀ (k : Nat) (s : State), s.tick < 100 →
    let t := elapse k s
    let less := fun x : Option Nat => x.map (· - k)
    let m := s.timers
    t.tick < 100 ∧ (100 * t.pt.toNat + t.tick) % 429496729600 = (100 * s.pt.toNat + s.tick + k) % 429496729600 ∧
    t.timers = ⟨m.sample - k, m.fade - k, m.scan - k, m.water - k, m.sequencer - k, m.cvp - k, m.pass - k, m.compute - k⟩ ∧
    t.search = s.search.map (fun r => { r with stepLeft := r.stepLeft - k }) ∧
    t.seq = { s.seq with
      comps := t.seq.comps, lossTimer := less s.seq.lossTimer, failTimer := less s.seq.failTimer
      interlockTicks := if s.seq.interlock.active = true then s.seq.interlockTicks + k else s.seq.interlockTicks } ∧
    (∀ i : CompId, t.seq.comps[i] = { s.seq.comps[i] with
      offTimer := less s.seq.comps[i].offTimer, onTimer := less s.seq.comps[i].onTimer }) ∧
    (∀ p : PortId, t.ports[p] = { s.ports[p] with silenceTimer := less s.ports[p].silenceTimer }) ∧
    t.store = { s.store with left := s.store.left - k } ∧
    t = { s with
      pt := t.pt, tick := t.tick, timers := t.timers, search := t.search, seq := t.seq, ports := t.ports
      store := t.store }

/-- Every command answers a next state, and no command touches the queue of waiting commands.
The model's choices in it: the queue is log 1. -/
def Obligations.EveryCommandCompletesAndKeepsQueue : Prop :=
  ∀ (c : Instr) (s : State), ∃ t, exec c s = .next t ∧ t.pending = s.pending

/-! ## Frames and dispatch (chapters 8 and 11) -/

/-- Decode and encode agree: the frame of every well-formed request that the role may send is dispatched to exactly
that request, with every operand at every value (R152, R172). -/
def Obligations.DispatchRecoversEveryRequest : Prop :=
  ∀ (i : Instr) (role : Role) (p : PortId) (code : Byte) (payload : List Byte),
    wellFormed i = true → mayAsk role i = true → requestFrame i = some (p, code, payload) →
      payload.length ≤ 60 ∧ dispatch p role code payload = .handed i

/-- R152, R153: what the port refuses by itself; UNKNOWN_REQUEST and a refused WRITE_ITEM on an IDLE port get one reply,
and nothing else changes but the presence of the master.
The model's choices in it: an unknown target of an OBSERVER is log 13, a row as its frame log 1. -/
def Obligations.PortRefusesForbiddenRequests : Prop :=
  (∀ (i : Instr) (role : Role) (p : PortId) (code : Byte) (payload : List Byte),
    wellFormed i = true → mayAsk role i = false → requestFrame i = some (p, code, payload) →
      match i with
      | .unknownRequest .. => dispatch p role code payload = .refused .unknown
      | .readItems .. => dispatch p role code payload = .refused .badItem
      | .writeItemReadOnly _ k _ _ =>
        (classOf k = none → dispatch p role code payload = .refused .badItem) ∧
        ∀ cls, classOf k = some cls → writeOwner cls ≠ some role → dispatch p role code payload = .refused .notPermitted
      | _ => dispatch p role code payload = .refused .notPermitted) ∧
  ((∀ (p : PortId) (code : Byte) (payload : List Byte) (s : State),
    wellFormed (.unknownRequest p code payload) = true → s.ports[p].rx = .idle →
      exec (.unknownRequest p code payload) s = .next (reply p code .unknown (heard p s))) ∧
  ∀ (p : PortId) (k n : Byte) (rest : List Byte) (s : State),
    wellFormed (.writeItemReadOnly p k n rest) = true → s.ports[p].rx = .idle →
      (classOf k = none → exec (.writeItemReadOnly p k n rest) s = .next (reply p 3 .badItem (heard p s))) ∧
      ∀ cls, classOf k = some cls → writeOwner cls ≠ some s.ports[p].role →
        exec (.writeItemReadOnly p k n rest) s = .next (reply p 3 .notPermitted (heard p s)))

/-- R148, R149, section 8.2: a request frame sums to 0xFF modulo 256, as does a reply frame (R151); a request frame
that arrives byte by byte without error on an IDLE port, with the line then quiet, is served as the request it
carries. R147: a byte is sent as a start bit, its data bits from the least significant, an even parity bit and a stop
bit, and a port drives its line with the bytes of its reply, and only while it sends one. -/
def Obligations.FrameOnLineReachesService : Prop :=
  ((∀ (code : Byte) (payload : List Byte), byteSum (requestBytes code payload) = 0xFF) ∧
  ∀ (code result : Byte) (payload : List Byte), byteSum (replyBytes code result payload) = 0xFF) ∧
  (∀ (p : PortId) (code : Byte) (payload : List Byte) (frame : List (Byte × Bool)) (s : State),
    s.ports[p].rx = .idle → payload.length ≤ 60 → frame.map Prod.fst = requestBytes code payload →
      (∀ x ∈ frame, parityGood x.1 x.2 = true) →
        execAll (frame.map (fun x => .receiveByte p x.1 x.2 true) ++ [.lineQuietExpiry p]) s
          = .next (serveFrame p code payload s)) ∧
  (∀ b : Byte, ∃ par : Bool, parityGood b par = true ∧ lineBits b =
    [.start, .data (b.getLsbD 0), .data (b.getLsbD 1), .data (b.getLsbD 2), .data (b.getLsbD 3), .data (b.getLsbD 4),
      .data (b.getLsbD 5), .data (b.getLsbD 6), .data (b.getLsbD 7), .parity par, .stop]) ∧
  (∀ (p : PortId) (code : Byte) (a : Answer) (s : State), txdLine (sendReply p code a s).ports[p] =
    some ((replyBytes code (resultCode a.result) a.payload).flatMap lineBits)) ∧
  ∀ q : Port, q.rx ≠ .transmitting → txdLine q = none

/-- R157, R158, R152: a valid frame reloads the silence timer, makes an ABSENT role PRESENT, and only then is
dispatched; a request row on an IDLE port is the arrival of its frame (log 1). -/
def Obligations.ServiceHandlesPresenceThenDispatch : Prop :=
  (∀ (p : PortId) (code : Byte) (payload : List Byte) (s : State),
    (s.ports[p].presence = .none →
      heard p s = setPort p { s.ports[p] with rx := .serving, buffer := [] } s) ∧
    (s.ports[p].presence = .present →
      heard p s = setPort p { s.ports[p] with
        rx := .serving, buffer := [], silenceTimer := some (100 * s.ports[p].silence) } s) ∧
    (s.ports[p].presence = .absent →
      heard p s = post .rolePresent p (roleCode s.ports[p].role) (setPort p { s.ports[p] with
        rx := .serving, buffer := [], presence := .present, silenceTimer := some (100 * s.ports[p].silence) } s)) ∧
    serveFrame p code payload s =
      match dispatch p s.ports[p].role code payload with
      | .refused r => reply p code r (heard p s)
      | .handed c => inService p c s) ∧
  (∀ (i : Instr) (p : PortId) (code : Byte) (payload : List Byte) (s : State),
    wellFormed i = true → requestFrame i = some (p, code, payload) → mayAsk s.ports[p].role i = true →
      s.ports[p].rx = .idle → s.ports[p].handed = none →
        Served (inService p i s) p i ∧ exec i s = exec i (inService p i s))

/-- R148 to R150: what a received byte does in each receive state. -/
def Obligations.ReceivedByteByReceiveState : Prop :=
  ∀ (p : PortId) (b : Byte) (par stop : Bool) (s : State),
    let q := s.ports[p]
    let bad := lineError b par stop
    (q.rx = .idle → bad = false → b = 0xA7 →
      exec (.receiveByte p b par stop) s = .next (setPort p { q with rx := .receiving, buffer := [b] } s)) ∧
    (q.rx = .idle → (bad = true ∨ b ≠ 0xA7) → exec (.receiveByte p b par stop) s =
      .next (setPort p { q with rx := .discarding, buffer := [], discards := moreDiscards q.discards } s)) ∧
    (q.rx = .receiving → (bad = true ∨ frameFull q.buffer = true ∨ (q.buffer.length = 2 ∧ 60 < b.toNat)) →
      exec (.receiveByte p b par stop) s =
        .next (setPort p { q with rx := .discarding, buffer := [], discards := moreDiscards q.discards } s)) ∧
    (q.rx = .receiving → bad = false → frameFull q.buffer = false → (q.buffer.length = 2 → b.toNat ≤ 60) →
      exec (.receiveByte p b par stop) s = .next (setPort p { q with buffer := q.buffer ++ [b] } s)) ∧
    (q.rx = .discarding → exec (.receiveByte p b par stop) s = .next s) ∧
    ((q.rx = .serving ∨ q.rx = .transmitting) → q.overrun = true → exec (.receiveByte p b par stop) s = .next s) ∧
    ((q.rx = .serving ∨ q.rx = .transmitting) → q.overrun = false → exec (.receiveByte p b par stop) s =
      .next (setPort p { q with overrun := true, discards := moreDiscards q.discards } s))

/-- R148 to R150: a gap of more than 30 bit times by receive state, and the end of a reply that starts no warm
restart. -/
def Obligations.QuietLineAndEndOfReply : Prop :=
  (∀ (p : PortId) (s : State),
    let q := s.ports[p]
    (q.rx = .receiving → frameFull q.buffer = false → exec (.lineQuietExpiry p) s =
      .next (setPort p { q with rx := .idle, buffer := [], discards := moreDiscards q.discards } s)) ∧
    (q.rx = .receiving → byteSum q.buffer ≠ 0xFF → exec (.lineQuietExpiry p) s =
      .next (setPort p { q with rx := .idle, buffer := [], discards := moreDiscards q.discards } s)) ∧
    (∀ (code : Byte) (payload : List Byte), q.rx = .receiving → payload.length ≤ 60 →
      q.buffer = requestBytes code payload →
        exec (.lineQuietExpiry p) s = .next (serveFrame p code payload s)) ∧
    (q.rx = .discarding → exec (.lineQuietExpiry p) s = .next (setPort p { q with rx := .idle } s)) ∧
    ((q.rx = .idle ∨ q.rx = .serving ∨ q.rx = .transmitting) → exec (.lineQuietExpiry p) s = .next s)) ∧
  (∀ (p : PortId) (s : State),
    let q := s.ports[p]
    q.rx = .transmitting → s.restartPending ≠ some p → exec (.replySent p) s =
      .next (setPort p { q with
        rx := if q.overrun = true ∧ q.idleAfter = false then .discarding else .idle
        tx := [], overrun := false, idleAfter := false } s))

/-- R155, R171, Table 10-1: the warm restart that follows the reply to RESTART while no other request is in service.
The model's choices in it: in a held row SWITCH_ONLY, and counts that R124 does not name, are log 15 and are not stated. -/
def Obligations.WarmRestartKeepsAndResets : Prop :=
  ∀ (p : PortId) (s : State),
    s.ports[p].rx = .transmitting → s.restartPending = some p → (∀ q : PortId, s.ports[q].handed = none) →
      ∃ t, exec (.replySent p) s = .next t ∧
        t = { s with
          timers := { s.timers with pass := 200, compute := 1000 }
          channels := t.channels
          search := none
          watches := s.watches.map fun w => { w with tripped := false, latch := false, lost := false }
          climate := { s.climate with i16 := 0, heatCount := 0, moistCount := 0, heatBlind := false, moistBlind := false }
          cover := t.cover
          ports := t.ports
          restartPending := none } ∧
        (∀ n : ChanId, s.channels[n].status = .unused → underSearch s n = false → t.channels[n] = s.channels[n]) ∧
        (∀ n : ChanId, s.channels[n].status ≠ .unused → underSearch s n = false →
          t.channels[n] = { s.channels[n] with status := .settling, window := [], rail := 0, settle := 0 }) ∧
        (∀ r, s.search = some r → t.channels[r.channel].cfg.trim = r.trimBefore ∧
          (s.channels[r.channel].status ≠ .unused → t.channels[r.channel] = { s.channels[r.channel] with
            cfg := { s.channels[r.channel].cfg with trim := r.trimBefore }
            status := .settling, window := [], rail := 0, settle := 0 })) ∧
        t.cover.report = s.cover.report ∧ t.cover.cfg = s.cover.cfg ∧
        t.cover.derived =
          (if s.cover.report = .moving then .moving else if s.seq.coverLimit.active then .closed else .coverOpen) ∧
        t.cover.prog = (if t.cover.derived = .closed then .settle else .idle) ∧
        t.cover.release = false ∧ t.cover.cycles = 0 ∧ t.cover.elapsed = 0 ∧ t.cover.hold = none ∧
        t.cover.counted = 0 ∧ t.cover.preopenAcc = 0 ∧ t.cover.origin = none ∧ t.cover.starve = 0 ∧
        t.cover.starved = false ∧ (heldRow s = true → t.cover.mismatch = 0) ∧
        (s.cover.report = .moving → t.cover.travel = 0) ∧
        (∀ d only, pairOutcome s.cover.report s.seq.coverLimit.active = some (d, only) → t.cover.switchOnly = only) ∧
        let emptied : State := { s with ports := s.ports.map fun q =>
          { q with notices := { q.notices with slot := none, queue := [], drops := 0 } } }
        ∀ q : PortId,
          t.ports[q].notices = (postAll (if s.cover.prog = .released then
            [(.coverReleaseLapsed, 3, ((s.cover.cfg.permissionHold - s.cover.elapsed : Nat) : Int))] else [])
            emptied).ports[q].notices ∧
          t.ports[q].role = s.ports[q].role ∧ t.ports[q].clash = s.ports[q].clash ∧
          t.ports[q].presence = s.ports[q].presence ∧ t.ports[q].silence = s.ports[q].silence ∧
          (s.ports[q].presence = .present → t.ports[q].silenceTimer = some (100 * s.ports[q].silence)) ∧
          t.ports[q].notices.acceptance = s.ports[q].notices.acceptance ∧
          t.ports[q].notices.filter1 = s.ports[q].notices.filter1 ∧
          t.ports[q].notices.filter2 = s.ports[q].notices.filter2 ∧
          t.ports[q].notices.threshold = s.ports[q].notices.threshold ∧
          t.ports[q].notices.drops = 0 ∧
          (s.cover.prog ≠ .released → t.ports[q].notices.slot = none ∧ t.ports[q].notices.queue = []) ∧
          (q = p ∨ s.ports[q].rx = .idle ∨ s.ports[q].rx = .receiving ∨ s.ports[q].rx = .discarding →
            t.ports[q].rx = .idle) ∧
          t.ports[q].discards =
            (if s.ports[q].rx = .receiving ∧ q ≠ p then moreDiscards s.ports[q].discards else s.ports[q].discards)

/-! ## Requests on the notices and records -/

/-- R166: STATUS is answered OK with its eleven bytes in every state, and changes nothing but the port's line. -/
def Obligations.StatusShowsTheRecords : Prop :=
  ∀ (p : PortId) (s : State), Served s p (.status p) →
    exec (.status p) s = .next (sendReply p 0x01
      ⟨.ok, [byteOf (modeCode s.mode.mode), flagByte s.seq.interlock.active,
        byteOf (presenceCode (rolePresence s .building)), byteOf (presenceCode (rolePresence s .pool)),
        byteOf (presenceCode (rolePresence s .lighting)), byteOf (roleCode s.ports[p].role),
        flagsByte [s.ports[p].clash, s.ports[p].notices.slot.isSome, s.climate.condensation,
          s.climate.heatBlind || s.climate.moistBlind, s.alloc.overCommit, s.alloc.limitsFault, s.store.busy],
        byteOf s.ports[p].notices.queue.length, byteOf s.ports[p].notices.drops,
        byteOf (derivedCode s.cover.derived), byteOf (progCode s.cover.prog)]⟩ s)

/-- R154: the reply to READ_ITEMS: the header, then whole records from the first index upward until the count, the
end of the class or 57 bytes of records stop it; CLAMPED when the count was clamped or not reached. Every record has
the length of its class (Table 11-3), and the records hold their fields at their offsets: those of Tables 11-6 to 11-10
as laid out there, the others in the order of their owner's table (R172).
The model's choices in it: the draw of LT is log 25; the code of source layer NONE, and the order of the PORT and LIMITS
records log 10; the signed configuration fields log 11; the free bytes of GROUP and LAYER records log 6. -/
def Obligations.ReadItemsReturnsWholeRecords : Prop :=
  (∀ (p : PortId) (k first count : Byte) (cls : ItemClass) (s : State),
    Served s p (.readItems p k first count) → classOf k = some cls →
      (classCount cls ≤ first.toNat → exec (.readItems p k first count) s = .next (reply p 0x02 .badItem s)) ∧
      (first.toNat < classCount cls → ∃ (n m : Nat) (r : Result),
        exec (.readItems p k first count) s = .next (sendReply p 0x02
          ⟨r, [k, first, byteOf n] ++ (List.range n).flatMap fun j => record s cls (first.toNat + j)⟩
          { s with freeSeq := m }) ∧
        1 ≤ n ∧ n ≤ max 1 (min count.toNat 16) ∧ first.toNat + n ≤ classCount cls ∧ n * recordLength cls ≤ 57 ∧
        (n < max 1 (min count.toNat 16) → first.toNat + n < classCount cls → 57 < (n + 1) * recordLength cls) ∧
        r = if 1 ≤ count.toNat ∧ count.toNat ≤ 16 ∧ n = count.toNat then .ok else .clamped)) ∧
  (∀ (s : State) (cls : ItemClass) (i : Nat), i < classCount cls →
    (∀ n : ChanId, (s.channels[n]).window.length ≤ 8) → (∀ c : CompId, (s.seq.comps[c]).history.length ≤ 12) →
      (∀ n : Fin 32, (s.light.scenes[n]).levels.length ≤ 16) → (record s cls i).length = recordLength cls) ∧
  (∀ (s : State) (n : ChanId),
    let b := record s .channel n
    let c := s.channels[n]
    fieldAt b 0 1 = kindCode c.cfg.kind ∧ fieldAt b 1 1 = c.cfg.zone % 256 ∧ fieldAt b 2 1 = flagsOf [c.conflict] ∧
    fieldAt b 3 1 = c.cfg.trim % 256 ∧ fieldAt b 4 2 = c.cfg.gain % 65536 ∧ fieldAt b 6 1 = statusCode c.status ∧
    fieldAt b 7 2 = c.raw % 65536 ∧ fieldAt b 9 2 = signedField c.fast ∧ fieldAt b 11 2 = signedField c.settled ∧
    fieldAt b 13 1 = c.window.length % 256 ∧ fieldAt b 14 1 = c.rail % 256 ∧ fieldAt b 15 1 = c.settle % 256 ∧
    ∀ j : Fin 8, fieldAt b (16 + 2 * j.val) 2 = signedField (c.window.getD j 0)) ∧
  (∀ s : State,
    let b := record s .climate 0
    let c := s.climate
    fieldAt b 0 2 = signedField c.th ∧ fieldAt b 2 2 = signedField c.tdh ∧ fieldAt b 4 2 = c.rhMax % 65536 ∧
    fieldAt b 6 2 = signedField c.tg ∧ fieldAt b 8 2 = signedField c.m ∧ fieldAt b 10 2 = signedField c.s ∧
    fieldAt b 12 2 = signedField c.tw ∧ fieldAt b 14 2 = s.water.age % 65536 ∧ fieldAt b 16 2 = c.i16 % 65536 ∧
    fieldAt b 18 2 = c.dh % 65536 ∧ fieldAt b 20 2 = c.dd % 65536 ∧ fieldAt b 22 1 = c.heatCount % 256 ∧
    fieldAt b 23 1 = c.moistCount % 256 ∧ fieldAt b 24 1 = flagsOf [s.water.stale, c.protective, c.heatBlind,
      c.moistBlind, c.dewFloor, c.glazeSubst, c.condensation]) ∧
  (∀ (s : State) (k : Fin 8),
    let b := record s .consumer k
    let c := s.alloc.consumers[k]
    let d := s.alloc.draws
    let draws := if k = 0 then d.fan.toList
      else [if k = 7 then s.alloc.ltDraw else d.items.toList.getD (k.val - 1) 0, 0, 0, 0]
    fieldAt b 0 2 = c.requested % 65536 ∧ fieldAt b 2 2 = c.granted % 65536 ∧
    (∀ j : Fin 4, fieldAt b (4 + 2 * j.val) 2 = draws.getD j 0 % 65536) ∧ fieldAt b 12 1 = classCode c.cls ∧
    fieldAt b 13 1 = c.class2 % 256 ∧ fieldAt b 14 1 = flagsOf [c.held] ∧ fieldAt b 15 2 = c.energyAcc % 65536 ∧
    fieldAt b 17 4 = c.energyCount % 4294967296) ∧
  (∀ (s : State) (n : Fin 32),
    let b := record s .scene n
    let c := s.light.scenes[n]
    fieldAt b 0 1 = flagsOf [c.defined] ∧ fieldAt b 1 2 = c.fade % 65536 ∧
    fieldAt b 3 1 = flagsOf [c.modes.hallOpen, c.modes.night, c.modes.preopen, c.modes.service] ∧
    fieldAt b 4 1 = c.levels.length % 256 ∧
    ∀ j : Fin 16, fieldAt b (5 + 3 * j.val) 1 = (c.levels.getD j (0, 0)).1 % 256 ∧
      fieldAt b (6 + 3 * j.val) 2 = (c.levels.getD j (0, 0)).2 % 65536) ∧
  (∀ (s : State) (n : Fin 8),
    let b := record s .watch n
    let c := s.watches[n]
    fieldAt b 0 1 = sourceCode c.cfg.source ∧ fieldAt b 1 1 = directionCode c.cfg.direction ∧
    fieldAt b 2 2 = signedField c.cfg.threshold ∧ fieldAt b 4 2 = c.cfg.hysteresis % 65536 ∧
    fieldAt b 6 1 = actionCode c.cfg.action ∧ fieldAt b 7 1 = c.tripped.toNat ∧ fieldAt b 8 1 = c.latch.toNat ∧
    fieldAt b 9 1 = c.lost.toNat) ∧
  (∀ s : State,
    let b := record s .climateCfg 0
    let c := s.climateCfg
    let fields : List Nat := [c.substituteDrop % 65536, c.waterHold % 65536, signedField c.fallbackWater,
      signedField c.dayOffset, signedField c.nightOffset, signedField c.sLo, signedField c.sHi,
      signedField c.serviceSetpoint, c.kp % 65536, c.ki % 65536, c.kc % 65536, c.kl % 65536, c.dayTarget % 65536,
      c.nightTarget % 65536, c.kr % 65536, c.kg % 65536, c.mSet % 65536, c.slew % 65536]
    ∀ j : Fin 18, fieldAt b (2 * j.val) 2 = fields.getD j 0) ∧
  (∀ s : State,
    let b := record s .allowance 0
    let c := s.alloc
    fieldAt b 0 2 = c.allowance % 65536 ∧ fieldAt b 2 2 = c.committed % 65536 ∧ fieldAt b 4 2 = c.remaining % 65536 ∧
    fieldAt b 6 2 = c.granted % 65536 ∧ fieldAt b 8 1 = c.overCommit.toNat ∧ fieldAt b 9 1 = c.heatHeld.toNat ∧
    fieldAt b 10 1 = c.dehumHeld.toNat ∧ fieldAt b 11 1 = c.lead.val ∧ fieldAt b 12 1 = c.count % 256 ∧
    ∀ j : Fin 3, fieldAt b (13 + j.val) 1 = (c.heaterReq[j]).toNat) ∧
  (∀ (s : State) (i : CompId), (s.seq.comps[i]).history.length ≤ 12 →
    let b := record s .compressor i
    let c := s.seq.comps[i]
    let q := s.seq
    let h := c.history.dropWhile fun e => decide (3600 ≤ (s.pt - e).toNat)
    fieldAt b 0 1 = compStateCode c.state ∧ fieldAt b 1 1 = c.grant.toNat ∧ fieldAt b 2 2 = c.cfg.minOff % 65536 ∧
    fieldAt b 4 2 = c.cfg.minOn % 65536 ∧ fieldAt b 6 1 = c.cfg.startLimit % 256 ∧
    fieldAt b 7 1 = startLimit s.alloc c % 256 ∧
    (∀ x, c.offTimer = some x → fieldAt b 8 2 = (x + 99) / 100 % 65536) ∧ (c.offTimer = none → fieldAt b 8 2 = 65535) ∧
    (∀ x, c.onTimer = some x → fieldAt b 10 2 = (x + 99) / 100 % 65536) ∧ (c.onTimer = none → fieldAt b 10 2 = 65535) ∧
    fieldAt b 12 1 = h.length ∧
    (∀ j : Fin 12, fieldAt b (13 + 2 * j.val) 2 = (h.map fun e => (s.pt - e).toNat % 65536).getD j 0) ∧
    fieldAt b 37 1 = c.blocked.toNat ∧ fieldAt b 38 4 = c.nextStart.toNat ∧
    fieldAt b 42 4 = c.runSeconds % 4294967296 ∧ fieldAt b 46 1 = q.coverLimit.active.toNat ∧
    fieldAt b 47 1 = q.interlock.active.toNat ∧ fieldAt b 48 1 = q.fanProof.active.toNat ∧
    fieldAt b 49 1 = proofCode q.proof ∧ fieldAt b 50 1 = q.fanLevel % 256 ∧ fieldAt b 51 2 = q.valve % 65536 ∧
    (∀ j : Fin 3, fieldAt b (53 + j.val) 1 = (q.heaters[j]).line.toNat) ∧ fieldAt b 56 1 = q.pfLine.toNat) ∧
  (∀ s : State,
    let b := record s .coverCfg 0
    let c := s.cover.cfg
    let fields : List Nat := [c.settleTime, c.purgeHigh, c.restLow, c.cycleLimit, c.preopenTime, c.alertHold,
      c.permissionHold, c.travelLimit]
    ∀ j : Fin 8, fieldAt b (2 * j.val) 2 = fields.getD j 0 % 65536) ∧
  (∀ (s : State) (g : GroupId),
    let b := record s .group g
    let c := s.light.groups[g]
    fieldAt b 0 2 = c.cfg.load % 65536 ∧ fieldAt b 2 2 = c.cfg.floor % 65536 ∧ fieldAt b 4 2 = c.target % 65536 ∧
    fieldAt b 6 1 = sourceLayerCode c.source ∧ fieldAt b 7 2 = c.current % 65536 ∧
    (∀ f, c.fade = some f → fieldAt b 9 2 = f.start % 65536 ∧ fieldAt b 11 2 = f.elapsed % 65536 ∧
      fieldAt b 13 2 = f.duration % 65536) ∧
    fieldAt b 15 2 = c.applied % 65536) ∧
  (∀ (s : State) (k : Fin 4),
    let b := record s .layer k
    let l := s.light
    let here := getLayer l.layers (layerAt k)
    (here = none → fieldAt b 0 1 = 255) ∧
    (∀ st, here = some st → fieldAt b 0 1 = st.scene % 256 ∧ fieldAt b 1 4 = st.recallTime.toNat) ∧
    fieldAt b 5 2 = floorDraw l % 65536 ∧ fieldAt b 7 2 = requestR l % 65536 ∧ fieldAt b 9 2 = inFlightU l % 65536 ∧
    fieldAt b 11 2 = l.grant % 65536 ∧ fieldAt b 13 2 = l.capLimit % 65536 ∧ fieldAt b 15 2 = l.appliedCap % 65536 ∧
    fieldAt b 17 2 = appliedLighting l % 65536 ∧ fieldAt b 19 1 = (l.startScene.getD 255) % 256 ∧
    fieldAt b 20 1 = l.safetyScene % 256) ∧
  (∀ (s : State) (p : PortId),
    let b := record s .port p
    let q := s.ports[p]
    let a := q.notices
    fieldAt b 0 1 = roleCode q.strapped ∧ fieldAt b 1 1 = roleCode q.role ∧ fieldAt b 2 1 = q.clash.toNat ∧
    fieldAt b 3 1 = presenceCode q.presence ∧ fieldAt b 4 2 = q.silence % 65536 ∧
    (∀ x, q.silenceTimer = some x → fieldAt b 6 2 = (x + 99) / 100 % 65536) ∧
    (q.silenceTimer = none → fieldAt b 6 2 = 65535) ∧ fieldAt b 8 1 = rxCode q.rx ∧ fieldAt b 9 1 = q.discards % 256 ∧
    fieldAt b 10 8 = a.acceptance.toNat ∧ fieldAt b 18 1 = a.filter1.code.toNat ∧
    fieldAt b 19 2 = a.filter1.subject.toNat ∧ fieldAt b 21 1 = a.filter2.code.toNat ∧
    fieldAt b 22 2 = a.filter2.subject.toNat ∧ fieldAt b 24 1 = a.slot.isSome.toNat ∧
    fieldAt b 25 1 = a.queue.length % 256 ∧ fieldAt b 26 1 = a.drops % 256 ∧ fieldAt b 27 1 = a.threshold % 256) ∧
  (∀ (s : State) (k : Fin 8),
    let b := record s .counters k
    let c := s.alloc.consumers[k]
    fieldAt b 0 2 = c.energyAcc % 65536 ∧ fieldAt b 2 4 = c.energyCount % 4294967296) ∧
  (∀ s : State,
    let b := record s .limits 0
    let c := s.alloc
    fieldAt b 16 1 = c.limitsFault.toNat ∧
    ∀ k : Fin 4, fieldAt b (4 * k.val) 2 = c.limits[k].value.toNat ∧
      fieldAt b (4 * k.val + 2) 2 = c.limits[k].complement.toNat ∧ fieldAt b (17 + 2 * k.val) 2 = (c.inForce[k]).toNat) ∧
  (∀ s : State,
    let b := record s .mode 0
    fieldAt b 0 1 = modeCode s.mode.mode ∧ fieldAt b 1 1 = modeCode s.mode.previous ∧
    fieldAt b 2 4 = s.mode.changeTime.toNat ∧ fieldAt b 6 1 = modeCode s.mode.startMode) ∧
  ∀ s : State,
    let b := record s .cover 0
    let c := s.cover
    fieldAt b 0 1 = reportCode c.report ∧ fieldAt b 1 1 = flagsOf [s.seq.coverLimit.active] ∧
    fieldAt b 2 1 = derivedCode c.derived ∧
    fieldAt b 3 1 = flagsOf [c.switchOnly, c.release, c.starved, c.hold.isSome] ∧ fieldAt b 4 1 = c.mismatch % 256 ∧
    fieldAt b 5 2 = c.travel % 65536 ∧ fieldAt b 7 1 = progCode c.prog ∧ fieldAt b 8 2 = c.elapsed % 65536 ∧
    fieldAt b 10 2 = c.counted % 65536 ∧ fieldAt b 12 2 = c.preopenAcc % 65536 ∧
    fieldAt b 14 1 = originCode c.origin ∧ fieldAt b 15 1 = c.cycles % 256 ∧
    fieldAt b 16 2 = (c.hold.getD 65535) % 65536 ∧ fieldAt b 18 1 = c.starve % 256 ∧
    fieldAt b 19 2 = ((remainingTime s).getD 65535) % 65536

/-- R163: TAKE_NOTICES returns the header, the slot and up to three queued records, and removes them. -/
def Obligations.TakeNoticesEmptiesInOrder : Prop :=
  ∀ (p : PortId) (s : State), Served s p (.takeNotices p) →
    let q := s.ports[p]
    exec (.takeNotices p) s = .next (sendReply p 0x40
      ⟨.ok, [flagByte q.notices.slot.isSome, byteOf (q.notices.queue.length - 3), byteOf q.notices.drops] ++
        (q.notices.slot.toList ++ q.notices.queue.take 3).flatMap fun n =>
          [byteOf (eventCode n.code), byteOf n.subject] ++ le2 n.value ++ le4 n.pt ++ [byteOf n.tick]⟩
      (setPort p { q with notices := { q.notices with slot := none, queue := q.notices.queue.drop 3, drops := 0 } } s)) ∧
    (attn { q.notices with slot := none, queue := q.notices.queue.drop 3, drops := 0 } = true ↔
      q.notices.threshold ≤ q.notices.queue.length - 3)

/-- R164, R157: SET_ACCEPTANCE replaces the port's choices, with threshold and silence time clamped; the running
silence timer is not touched.
The model's choices in it: the order of the refusals is log 8, a disabled filter log 14. -/
def Obligations.SetAcceptanceReplacesTheChoices : Prop :=
  ∀ (p : PortId) (acc : BitVec 64) (c1 : Byte) (s1 : Half) (c2 : Byte) (s2 : Half) (th : Byte) (si : Half) (s : State),
    Served s p (.setAcceptance p acc c1 s1 c2 s2 th si) →
      let q := s.ports[p]
      let good := c1.toNat ≤ 63 ∧ (s1.toNat ≤ 255 ∨ s1 = 0xFFFF) ∧ c2.toNat ≤ 63 ∧ (s2.toNat ≤ 255 ∨ s2 = 0xFFFF)
      (¬good → exec (.setAcceptance p acc c1 s1 c2 s2 th si) s = .next (reply p 0x41 .badValue s)) ∧
      (good → s.store.busy = true →
        exec (.setAcceptance p acc c1 s1 c2 s2 th si) s = .next (reply p 0x41 .busy s)) ∧
      (good → s.store.busy = false → exec (.setAcceptance p acc c1 s1 c2 s2 th si) s =
        .next (reply p 0x41
          (if 1 ≤ th.toNat ∧ th.toNat ≤ 8 ∧ 10 ≤ si.toNat ∧ si.toNat ≤ 3600 then .ok else .clamped)
          (setPort p { q with
            silence := max 10 (min si.toNat 3600)
            notices := { q.notices with
              acceptance := acc, filter1 := ⟨c1, s1⟩, filter2 := ⟨c2, s2⟩,
              threshold := max 1 (min th.toNat 8) } } s)))

/-- R161, R162: the filing of a notice at a port. R160: a posted notice carries its code, subject and signed 16-bit value
with PT and tick as they stand, is filed at each of the three ports on its own, and changes nothing else. -/
def Obligations.NoticeFiledByThePortsChoice : Prop :=
  (∀ (code : Code) (subject : Nat) (value : Half) (s : State),
    let t := post code subject value.toInt s
    t = { s with ports := t.ports } ∧ ∀ p : PortId, t.ports[p] = { s.ports[p] with
      notices := fileNotice ⟨code, subject, value, s.pt, s.tick⟩ s.ports[p].notices }) ∧
  ∀ (n : Notice) (q : NoticeStore),
    let hit := fun f : Filter => f.code.toNat ≠ 0 ∧ f.code.toNat = eventCode n.code ∧
      (f.subject = 0xFFFF ∨ f.subject.toNat = n.subject)
    let queued : NoticeStore :=
      if q.queue.length < 8 then { q with queue := q.queue ++ [n] }
      else { q with queue := q.queue.drop 1 ++ [n], drops := if q.drops < 255 then q.drops + 1 else q.drops }
    ((hit q.filter1 ∨ hit q.filter2) → q.slot = none → fileNotice n q = { q with slot := some n }) ∧
    ((hit q.filter1 ∨ hit q.filter2) → q.slot ≠ none → fileNotice n q = queued) ∧
    (¬(hit q.filter1 ∨ hit q.filter2) → q.acceptance.getLsbD (eventCode n.code) = true → fileNotice n q = queued) ∧
    (¬(hit q.filter1 ∨ hit q.filter2) → q.acceptance.getLsbD (eventCode n.code) = false → fileNotice n q = q)

/-! ## Requests on the settings -/

/-- R60 and R83: WRITE_ITEM of class ALLOWANCE, and CLEAR_COUNTERS.
The model's choices in it: the order of the refusals is log 8. -/
def Obligations.AllowanceWriteAndClearCounters : Prop :=
  (∀ (p : PortId) (n : Byte) (v : Half) (s : State), Served s p (.writeItemAllowance p n v) →
    exec (.writeItemAllowance p n v) s = .next
      (if n ≠ 0 then reply p 3 .badItem s
       else if s.store.busy = true then reply p 3 .busy s
       else reply p 3 .ok { s with alloc := { s.alloc with allowance := v.toNat } })) ∧
  ∀ (p : PortId) (s : State), Served s p (.clearCounters p) →
    ∃ cs, exec (.clearCounters p) s = .next (reply p 0x52 .ok { s with alloc := { s.alloc with consumers := cs } }) ∧
      ∀ k : Fin 8, cs[k] = { s.alloc.consumers[k] with energyAcc := 0, energyCount := 0 }

/-- R2, R3, R16: WRITE_ITEM of class CHANNEL.
The model's choices in it: the order of the refusals is log 8. -/
def Obligations.ChannelWriteRestartsTheChannel : Prop :=
  ∀ (p : PortId) (n kind zone : Byte) (s : State), Served s p (.writeItemChannel p n kind zone) →
    (16 ≤ n.toNat → exec (.writeItemChannel p n kind zone) s = .next (reply p 3 .badItem s)) ∧
    ∀ c : ChanId, c.val = n.toNat →
      (s.store.busy = true → exec (.writeItemChannel p n kind zone) s = .next (reply p 3 .busy s)) ∧
      (s.store.busy = false → kindOf kind = none →
        exec (.writeItemChannel p n kind zone) s = .next (reply p 3 .badValue s)) ∧
      ∀ k, s.store.busy = false → kindOf kind = some k →
        let old := s.channels[c]
        let z := min zone.toNat 2
        let claimed := fun j : ChanId => s.channels[j].conflict = true ∧
          s.channels[j].cfg.kind = old.cfg.kind ∧ s.channels[j].cfg.zone = old.cfg.zone
        let gives := (old.cfg.kind = .airT ∨ old.cfg.kind = .airRh) ∧ old.conflict = false ∧
          (old.cfg.kind ≠ k ∨ old.cfg.zone ≠ z)
        (old.cfg.kind = k → old.cfg.zone = z → underSearch s c = false →
          exec (.writeItemChannel p n kind zone) s =
            .next (reply p 3 (if zone.toNat ≤ 2 then .ok else .clamped) s)) ∧
        (¬(old.cfg.kind = k ∧ old.cfg.zone = z ∧ underSearch s c = false) →
          ∃ t, exec (.writeItemChannel p n kind zone) s =
              .next (reply p 3 (if zone.toNat ≤ 2 ∧ t.channels[c].conflict = false then .ok else .clamped) t) ∧
            t = { s with channels := t.channels, search := if underSearch s c = true then none else s.search } ∧
            (t.channels[c].conflict = true ↔ (k = .airT ∨ k = .airRh) ∧ ∃ j : ChanId, j ≠ c ∧
              s.channels[j].conflict = false ∧ s.channels[j].cfg.kind = k ∧ s.channels[j].cfg.zone = z) ∧
            t.channels[c].cfg.kind = k ∧ t.channels[c].cfg.zone = z ∧ t.channels[c].cfg.gain = old.cfg.gain ∧
            t.channels[c].window = [] ∧ t.channels[c].rail = 0 ∧ t.channels[c].settle = 0 ∧
            t.channels[c].fast = 0 ∧ t.channels[c].settled = 0 ∧ t.channels[c].raw = old.raw ∧
            (underSearch s c = false → t.channels[c].cfg.trim = old.cfg.trim) ∧
            (∀ r, s.search = some r → r.channel = c → t.channels[c].cfg.trim = r.trimBefore) ∧
            t.channels[c].status = (if k = .unused ∨ t.channels[c].conflict = true then .unused else .settling) ∧
            ∀ m : ChanId, m ≠ c →
              (gives ∧ claimed m ∧ (∀ j : ChanId, j < m → j ≠ c → ¬claimed j) → t.channels[m] =
                { s.channels[m] with conflict := false, status := .settling, window := [], rail := 0, settle := 0 }) ∧
              (¬(gives ∧ claimed m ∧ ∀ j : ChanId, j < m → j ≠ c → ¬claimed j) → t.channels[m] = s.channels[m]))

/-- R19 and R23: WRITE_ITEM of class WATCH, and CLEAR_WATCH.
The model's choices in it: the order of the refusals and BAD_ITEM above 7 are log 8. -/
def Obligations.WatchWriteAndClearWatch : Prop :=
  (∀ (p : PortId) (n src dir : Byte) (th hy : Half) (act : Byte) (s : State),
    Served s p (.writeItemWatch p n src dir th hy act) →
      (8 ≤ n.toNat → exec (.writeItemWatch p n src dir th hy act) s = .next (reply p 3 .badItem s)) ∧
      ∀ i : Fin 8, i.val = n.toNat →
        (s.store.busy = true → exec (.writeItemWatch p n src dir th hy act) s = .next (reply p 3 .busy s)) ∧
        (s.store.busy = false → (sourceOf src = none ∨ directionOf dir = none ∨ actionOf act = none) →
          exec (.writeItemWatch p n src dir th hy act) s = .next (reply p 3 .badValue s)) ∧
        ∀ (so : WatchSource) (di : Direction) (ac : WatchAction), s.store.busy = false →
          sourceOf src = some so → directionOf dir = some di → actionOf act = some ac →
            let w := s.watches[i]
            let cfg : WatchCfg := ⟨so, di, max (-1000) (min th.toInt 1000), min hy.toNat 200, ac⟩
            let r : Result := if -1000 ≤ th.toInt ∧ th.toInt ≤ 1000 ∧ hy.toNat ≤ 200 then .ok else .clamped
            let fresh : Watch := { cfg := cfg, tripped := false, latch := false, lost := false }
            let same := w.cfg.source = so ∧ w.cfg.direction = di ∧ w.cfg.action = ac
            (same → exec (.writeItemWatch p n src dir th hy act) s =
              .next (reply p 3 r (setWatch i { w with cfg := cfg } s))) ∧
            (¬same → w.tripped = false → exec (.writeItemWatch p n src dir th hy act) s =
              .next (reply p 3 r (setWatch i fresh s))) ∧
            (¬same → w.tripped = true → w.cfg.action ≠ .alertPurge → exec (.writeItemWatch p n src dir th hy act) s =
              .next (reply p 3 r (post .watchClear i 0 (setWatch i fresh s)))) ∧
            (¬same → w.tripped = true → w.cfg.action = .alertPurge → exec (.writeItemWatch p n src dir th hy act) s =
              .next (reply p 3 r (alertClear (post .watchClear i 0 (setWatch i fresh s)))))) ∧
  ∀ (p : PortId) (n : Byte) (s : State), Served s p (.clearWatch p n) →
    (8 ≤ n.toNat → exec (.clearWatch p n) s = .next (reply p 0x42 .badItem s)) ∧
    ∀ i : Fin 8, i.val = n.toNat →
      exec (.clearWatch p n) s = .next (reply p 0x42 .ok (setWatch i { s.watches[i] with latch := false } s))

/-- R26: WRITE_ITEM of class CLIMATE_CFG: every field clamped into its range, and the band not inverted; CLAMPED when
the record reads otherwise than it was written.
The model's choices in it: the order of the refusals is log 8, the sign of the fields log 11. -/
def Obligations.ClimateConfigurationWrite : Prop :=
  ∀ (p : PortId) (n : Byte) (f0 f1 f2 f3 f4 f5 f6 f7 f8 f9 f10 f11 f12 f13 f14 f15 f16 f17 : Half) (s : State),
    let fs := [f0, f1, f2, f3, f4, f5, f6, f7, f8, f9, f10, f11, f12, f13, f14, f15, f16, f17]
    Served s p (.writeItemClimateCfg p n fs) →
      let lo := max 150 (min f5.toInt 400)
      let hi := max 150 (min f6.toInt 400)
      let cfg : ClimateCfg :=
        { substituteDrop := min f0.toNat 200, waterHold := max 60 (min f1.toNat 7200),
          fallbackWater := max 150 (min f2.toInt 380), dayOffset := max (-50) (min f3.toInt 100),
          nightOffset := max (-50) (min f4.toInt 100), sLo := lo, sHi := hi,
          serviceSetpoint := max 150 (min f7.toInt 400), kp := min f8.toNat 100, ki := min f9.toNat 50,
          kc := min f10.toNat 500, kl := min f11.toNat 20, dayTarget := max 300 (min f12.toNat 900),
          nightTarget := max 300 (min f13.toNat 900), kr := min f14.toNat 100, kg := min f15.toNat 100,
          mSet := min f16.toNat 200, slew := max 10 (min f17.toNat 1000) }
      (n ≠ 0 → exec (.writeItemClimateCfg p n fs) s = .next (reply p 3 .badItem s)) ∧
      (n = 0 → s.store.busy = true → exec (.writeItemClimateCfg p n fs) s = .next (reply p 3 .busy s)) ∧
      (n = 0 → s.store.busy = false → hi < lo →
        exec (.writeItemClimateCfg p n fs) s = .next (reply p 3 .badValue s)) ∧
      (n = 0 → s.store.busy = false → lo ≤ hi → exec (.writeItemClimateCfg p n fs) s = .next
        (reply p 3 (if climateCfgRecord cfg = fieldBytes fs then .ok else .clamped) { s with climateCfg := cfg }))

/-- R62: WRITE_ITEM of class CONSUMER.
The model's choices in it: the order of the refusals is log 8. -/
def Obligations.ConsumerDrawWrite : Prop :=
  (∀ (p : PortId) (n : Byte) (ds : List Half) (s : State), Served s p (.writeItemConsumer p n ds) →
    (7 ≤ n.toNat → exec (.writeItemConsumer p n ds) s = .next (reply p 3 .badItem s)) ∧
    (n.toNat < 7 → s.store.busy = true → exec (.writeItemConsumer p n ds) s = .next (reply p 3 .busy s))) ∧
  (∀ (p : PortId) (a b c d : Half) (s : State), Served s p (.writeItemConsumer p 0 [a, b, c, d]) →
    s.store.busy = false →
      let x := min a.toNat 5000
      let y := min b.toNat 5000
      let z := min c.toNat 5000
      let w := min d.toNat 5000
      (¬(x ≤ y ∧ y ≤ z ∧ z ≤ w) → exec (.writeItemConsumer p 0 [a, b, c, d]) s = .next (reply p 3 .badValue s)) ∧
      (x ≤ y → y ≤ z → z ≤ w → exec (.writeItemConsumer p 0 [a, b, c, d]) s =
        .next (reply p 3
          (if a.toNat ≤ 5000 ∧ b.toNat ≤ 5000 ∧ c.toNat ≤ 5000 ∧ d.toNat ≤ 5000 then .ok else .clamped)
          { s with alloc := { s.alloc with draws := { s.alloc.draws with fan := #v[x, y, z, w] } } }))) ∧
  ∀ (p : PortId) (n : Byte) (a : Half) (k : Fin 6) (s : State), Served s p (.writeItemConsumer p n [a]) →
    n.toNat = k.val + 1 → s.store.busy = false → exec (.writeItemConsumer p n [a]) s =
      .next (reply p 3 (if a.toNat ≤ 5000 then .ok else .clamped)
        { s with alloc := { s.alloc with
          draws := { s.alloc.draws with items := s.alloc.draws.items.set k (min a.toNat 5000) } } })

/-- R88, R90 to R92: WRITE_ITEM of class COMPRESSOR: the settings are stored, the history is shortened to the limit in
force, a run and its grant are left alone, and only a compressor that waits with a grant in OFF_READY is tested, when
its limit in force is raised.
The model's choices in it: the order of the refusals is log 8, the wrap of part time log 18, the value of START_LIMIT
log 20. -/
def Obligations.CompressorWriteKeepsTheRun : Prop :=
  ∀ (p : PortId) (n : Byte) (off on : Half) (lim : Byte) (s : State),
    Served s p (.writeItemCompressor p n off on lim) →
      (2 ≤ n.toNat → exec (.writeItemCompressor p n off on lim) s = .next (reply p 3 .badItem s)) ∧
      ∀ i : CompId, i.val = n.toNat →
        (s.store.busy = true → exec (.writeItemCompressor p n off on lim) s = .next (reply p 3 .busy s)) ∧
        (s.store.busy = false →
          let c := s.seq.comps[i]
          let cfg : CompCfg :=
            ⟨max 60 (min off.toNat 900), max 60 (min on.toNat 900), max 1 (min lim.toNat 12)⟩
          let limit := min cfg.startLimit (startCap s.alloc)
          let short := c.history.drop (c.history.length - limit)
          let h := prune s.pt short
          let tested := startLimit s.alloc c < limit ∧ c.state = .offReady ∧ c.grant = true
          let free := s.seq.interlock.active = false ∧ s.seq.proof = .proven ∧ 2 ≤ s.seq.fanLevel
          ∃ t, exec (.writeItemCompressor p n off on lim) s = .next (reply p 3
              (if 60 ≤ off.toNat ∧ off.toNat ≤ 900 ∧ 60 ≤ on.toNat ∧ on.toNat ≤ 900 ∧ 1 ≤ lim.toNat ∧ lim.toNat ≤ 12
               then .ok else .clamped) t) ∧
            t = { s with seq := { s.seq with comps := t.seq.comps }, ports := t.ports, freeSeq := t.freeSeq } ∧
            t.seq.comps[i].cfg = cfg ∧ (∀ j : CompId, j ≠ i → t.seq.comps[j] = s.seq.comps[j]) ∧
            (t.seq.comps[i]).history.length ≤ limit ∧ t.seq.comps[i].grant = c.grant ∧
            t.seq.comps[i].runSeconds = c.runSeconds ∧
            (¬tested → t.seq.comps[i] = { c with cfg := cfg, history := short } ∧ t.ports = s.ports) ∧
            (tested → h.length < limit → free →
              t.seq.comps[i] =
                { c with
                  cfg := cfg, state := .runMin, history := h ++ [s.pt], offTimer := none
                  onTimer := some (100 * cfg.minOn), blocked := false } ∧
              t.ports = (post .compStart i (h.length + 1 : Nat) s).ports) ∧
            (tested → h.length < limit → ¬free →
              t.seq.comps[i] = { c with cfg := cfg, history := h } ∧ t.ports = s.ports) ∧
            (tested → limit ≤ h.length →
              t.seq.comps[i] =
                { c with cfg := cfg, history := h, blocked := true, nextStart := t.seq.comps[i].nextStart } ∧
              (c.blocked = true → t.seq.comps[i].nextStart = c.nextStart ∧ t.ports = s.ports) ∧
              (c.blocked = false → t.ports = (post .startLimit i t.seq.comps[i].nextStart.toNat s).ports ∧
                ∀ e, h.head? = some e → t.seq.comps[i].nextStart = e + 3600)))

/-- R80, R90 to R92: WRITE_ITEM of class LIMITS stores each value with its complement, brings it into force and clears the
fault; a start limit it lowers shortens a history, and one it raises is a test event.
The model's choices in it: the order of the refusals is log 8, the sign of the S_hi cap log 11, the value of START_LIMIT
log 20, the test in the write itself log 21, the order of the two compressors log 27. -/
def Obligations.LimitsWriteClearsTheFault : Prop :=
  ∀ (p : PortId) (n : Byte) (a b c d : Half) (s : State), Served s p (.writeItemLimits p n a b c d) →
    (n ≠ 0 → exec (.writeItemLimits p n a b c d) s = .next (reply p 3 .badItem s)) ∧
    (n = 0 → s.store.busy = true → exec (.writeItemLimits p n a b c d) s = .next (reply p 3 .busy s)) ∧
    (n = 0 → s.store.busy = false → ∃ t, exec (.writeItemLimits p n a b c d) s =
        .next (reply p 3
          (if 150 ≤ a.toInt ∧ a.toInt ≤ 400 ∧ 1 ≤ b.toNat ∧ b.toNat ≤ 12 ∧ 60 ≤ c.toNat ∧ c.toNat ≤ 900 ∧
              60 ≤ d.toNat ∧ d.toNat ≤ 3600 then .ok else .clamped) t) ∧
      t = { s with
        alloc := { s.alloc with limits := t.alloc.limits, limitsFault := false, inForce := t.alloc.inForce }
        seq := { s.seq with comps := t.seq.comps }
        ports := (postAll (startNotices 0 s.seq.comps[0] t.seq.comps[0] ++
          startNotices 1 s.seq.comps[1] t.seq.comps[1]) s).ports
        freeSeq := t.freeSeq } ∧
      (∀ k : Fin 4, t.alloc.limits[k].complement = ~~~t.alloc.limits[k].value ∧
        t.alloc.inForce[k] = t.alloc.limits[k].value) ∧
      sHiCap t = max 150 (min a.toInt 400) ∧ startCap t.alloc = max 1 (min b.toNat 12) ∧
      minOffFloor t = max 60 (min c.toNat 900) ∧ purgeFloor t = max 60 (min d.toNat 3600) ∧
      ∀ i : CompId, (t.seq.comps[i]).history.length ≤ startLimit t.alloc t.seq.comps[i] ∧
        LimitMoved s.pt (startLimit s.alloc s.seq.comps[i]) (startLimit t.alloc s.seq.comps[i])
          (mayStart s.seq s.seq.fanLevel) s.seq.comps[i] t.seq.comps[i])

/-- R108: WRITE_ITEM of class COVER_CFG.
The model's choices in it: the order of the refusals is log 8. -/
def Obligations.CoverConfigurationWrite : Prop :=
  ∀ (p : PortId) (n : Byte) (a b c d e f g h : Half) (s : State),
    Served s p (.writeItemCoverCfg p n [a, b, c, d, e, f, g, h]) →
      let cfg : CoverCfg :=
        { settleTime := max 60 (min a.toNat 3600), purgeHigh := max 60 (min b.toNat 3600),
          restLow := max 60 (min c.toNat 14400), cycleLimit := min d.toNat 255,
          preopenTime := max 60 (min e.toNat 7200), alertHold := max 60 (min f.toNat 3600),
          permissionHold := max 60 (min g.toNat 3600), travelLimit := max 60 (min h.toNat 1800) }
      exec (.writeItemCoverCfg p n [a, b, c, d, e, f, g, h]) s = .next
        (if n ≠ 0 then reply p 3 .badItem s
         else if s.store.busy = true then reply p 3 .busy s
         else reply p 3
           (if 60 ≤ a.toNat ∧ a.toNat ≤ 3600 ∧ 60 ≤ b.toNat ∧ b.toNat ≤ 3600 ∧ 60 ≤ c.toNat ∧ c.toNat ≤ 14400 ∧
               d.toNat ≤ 255 ∧ 60 ≤ e.toNat ∧ e.toNat ≤ 7200 ∧ 60 ≤ f.toNat ∧ f.toNat ≤ 3600 ∧ 60 ≤ g.toNat ∧
               g.toNat ≤ 3600 ∧ 60 ≤ h.toNat ∧ h.toNat ≤ 1800 then .ok else .clamped)
           { s with cover := { s.cover with cfg := cfg } })

/-- R126, R127, R138: WRITE_ITEM of class GROUP: a raised floor lifts the group at once, a target that falls with a
lowered floor fades by the scene of its source layer, a change of load alone moves no level, other groups keep target,
level and fade, and the cap record is sound again.
The model's choices in it: the order of the refusals is log 8, the start of a running fade at a raised floor log 12. -/
def Obligations.GroupWriteActsAtOnce : Prop :=
  ∀ (p : PortId) (n : Byte) (load floor : Half) (s : State), Served s p (.writeItemGroup p n load floor) →
    (16 ≤ n.toNat → exec (.writeItemGroup p n load floor) s = .next (reply p 3 .badItem s)) ∧
    ∀ i : GroupId, i.val = n.toNat →
      (s.store.busy = true → exec (.writeItemGroup p n load floor) s = .next (reply p 3 .busy s)) ∧
      (s.store.busy = false →
        let fl := min floor.toNat 1000
        let g0 := s.light.groups[i]
        let cfg : GroupCfg := ⟨min load.toNat 2000, fl⟩
        let moved := fun g : Group => { s.light with groups := s.light.groups.set i g }
        ∃ t, exec (.writeItemGroup p n load floor) s =
            .next (reply p 3 (if load.toNat ≤ 2000 ∧ floor.toNat ≤ 1000 then .ok else .clamped) t) ∧
          t = { s with light := t.light } ∧ capSound t.light ∧ t.light.layers = s.light.layers ∧
          t.light.scenes = s.light.scenes ∧ t.light.grant = s.light.grant ∧
          t.light.groups[i].cfg = ⟨min load.toNat 2000, fl⟩ ∧
          (∀ g : GroupId, g ≠ i → t.light.groups[g].cfg = s.light.groups[g].cfg) ∧
          (fl = s.light.groups[i].cfg.floor → ∀ g : GroupId,
            t.light.groups[g].target = s.light.groups[g].target ∧
            t.light.groups[g].current = s.light.groups[g].current ∧ t.light.groups[g].fade = s.light.groups[g].fade) ∧
          (fl ≠ s.light.groups[i].cfg.floor → ∀ g : GroupId,
            t.light.groups[g].target = max (resolve s.light g).1 t.light.groups[g].cfg.floor) ∧
          (s.light.groups[i].cfg.floor < fl → fl ≤ t.light.groups[i].current) ∧
          (fl < s.light.groups[i].cfg.floor → s.light.groups[i].target = t.light.groups[i].target →
            t.light.groups[i].current = s.light.groups[i].current) ∧
          (fl = g0.cfg.floor → ∀ g : GroupId, t.light.groups[g].source = s.light.groups[g].source) ∧
          (g0.cfg.floor < fl → RetargetedBy (fun _ => 0) (moved { g0 with
            cfg := cfg, current := max g0.current fl
            fade := g0.fade.map fun f => { f with start := max f.start fl } }) t.light) ∧
          (fl < g0.cfg.floor → RetargetedBy (fun g => fallFade s.light (resolve s.light g).2)
            (moved { g0 with cfg := cfg }) t.light) ∧
          (fl ≠ g0.cfg.floor → ∀ g : GroupId, g ≠ i →
            s.light.groups[g].target = max (resolve s.light g).1 s.light.groups[g].cfg.floor →
              t.light.groups[g].target = s.light.groups[g].target ∧
              t.light.groups[g].current = s.light.groups[g].current ∧
              t.light.groups[g].fade = s.light.groups[g].fade))

/-- R129, R130, R138: WRITE_ITEM of class SCENE; a scene that stands in a layer is shown anew in its new form.
The model's choices in it: the order of the refusals is log 8, ignored bits log 17. -/
def Obligations.SceneWriteReplacesTheScene : Prop :=
  ∀ (p : PortId) (n flags : Byte) (fade : Half) (modes : Byte) (ps : List (Byte × Half)) (s : State),
    Served s p (.writeItemScene p n flags fade modes ps) →
      let levels := ps.map fun x => (x.1.toNat, x.2.toNat)
      let new : Scene :=
        if flags.getLsbD 0 = true then
          ⟨true, min fade.toNat 6000,
            ⟨modes.getLsbD 0, modes.getLsbD 1, modes.getLsbD 2, modes.getLsbD 3⟩, levels⟩
        else ⟨false, 0, ⟨false, false, false, false⟩, []⟩
      let sound := levels.length ≤ 16 ∧ (∀ x ∈ levels, x.1 < 16 ∧ x.2 ≤ 1000) ∧
        (levels.map Prod.fst).Pairwise (· < ·)
      (32 ≤ n.toNat → exec (.writeItemScene p n flags fade modes ps) s = .next (reply p 3 .badItem s)) ∧
      ∀ k : Fin 32, k.val = n.toNat →
        (s.store.busy = true → exec (.writeItemScene p n flags fade modes ps) s = .next (reply p 3 .busy s)) ∧
        (s.store.busy = false → flags.getLsbD 0 = true → ¬sound →
          exec (.writeItemScene p n flags fade modes ps) s = .next (reply p 3 .badValue s)) ∧
        (s.store.busy = false → (flags.getLsbD 0 = true → sound) →
          let inSafety := ∃ st, s.light.layers.safety = some st ∧ st.scene = k.val
          let shown := ∃ l : Layer, ∃ st, getLayer s.light.layers l = some st ∧ st.scene = k.val
          ∃ t, exec (.writeItemScene p n flags fade modes ps) s =
              .next (reply p 3 (if flags.getLsbD 0 = true ∧ 6000 < fade.toNat then .clamped else .ok) t) ∧
            t = { s with light := t.light, ports := t.ports } ∧
            t.light.scenes[k] = new ∧ (∀ m : Fin 32, m ≠ k → t.light.scenes[m] = s.light.scenes[m]) ∧
            t.light.layers.safety = s.light.layers.safety ∧
            (∀ l : Layer, l ≠ .safety → getLayer t.light.layers l =
              match getLayer s.light.layers l with
              | some st => if st.scene = k.val ∧ ¬(new.defined = true ∧ permits new.modes s.mode.mode = true)
                  then none else some st
              | none => none) ∧
            (¬shown → t.light = { s.light with scenes := t.light.scenes } ∧ t.ports = s.ports) ∧
            (shown → ∃ d : Nat,
              (new.defined = true → d = new.fade) ∧
              (new.defined = false → inSafety → d = 0) ∧
              (new.defined = false → ¬inSafety → d = (s.light.scenes[k]).fade) ∧
              Retargeted d { s.light with scenes := t.light.scenes } t.light ∧
              t.ports = (postAllReleased (rejected s.light fun m =>
                decide (m = k.val) && !(new.defined && permits new.modes s.mode.mode)) s).ports))

/-- R49, R51, R54 to R57, R111: SET_MODE with target HALL.
The model's choices in it: the fields a cancelled or begun purge leaves are log 9. -/
def Obligations.SetModeChangesTheHall : Prop :=
  ∀ (p : PortId) (mode target : Byte) (s : State), Served s p (.setModeHall p mode target) →
    ((modeOf mode = none ∨ target ≠ 0) →
      exec (.setModeHall p mode target) s = .next (reply p 0x10 .badValue s)) ∧
    ∀ m, modeOf mode = some m → target = 0 →
      (m = s.mode.mode → exec (.setModeHall p mode target) s = .next (reply p 0x10 .ok s)) ∧
      (m = .preopen → s.mode.mode ≠ .preopen → s.mode.mode ≠ .night →
        exec (.setModeHall p mode target) s = .next (reply p 0x10 .notInMode s)) ∧
      (m ≠ s.mode.mode → (m = .preopen → s.mode.mode = .night) →
        let c := s.cover
        let night := c.prog = .settle ∨ c.prog = .purge ∨ c.prog = .rest ∨ c.prog = .alert
        let cancel := s.mode.mode = .preopen ∧ (m = .night ∨ m = .service) ∧ c.prog = .preopen ∧ c.origin = some .mode
        let kept := ∀ l : Layer, l ≠ .safety → ∀ st, getLayer s.light.layers l = some st →
          permits (sceneAt s.light st.scene).modes m = true
        ∃ t, exec (.setModeHall p mode target) s = .next (reply p 0x10 .ok t) ∧
          t = { s with
            mode := ⟨m, s.mode.mode, s.pt, s.mode.startMode⟩
            seq := { s.seq with heaters := t.seq.heaters }
            cover := t.cover
            light := t.light
            ports := (postAllReleased (rejected s.light fun n => !permits (sceneAt s.light n).modes m)
              (post .modeChanged (modeCode m) (modeCode s.mode.mode) s)).ports } ∧
          (∀ h : Fin 3, t.seq.heaters[h] = if m = .service then ⟨false, false⟩ else s.seq.heaters[h]) ∧
          t.light.layers.safety = s.light.layers.safety ∧
          (∀ l : Layer, l ≠ .safety → getLayer t.light.layers l =
            match getLayer s.light.layers l with
            | some st => if permits (sceneAt s.light st.scene).modes m = true then some st else none
            | none => none) ∧
          (kept → t.light = s.light) ∧ (¬kept → RetargetedBy (modeFade m s.light) s.light t.light) ∧
          (m = .preopen → night → t.cover =
            { cleared .preopen c with
              origin := some .mode
              preopenAcc := if c.prog = .purge then min c.counted c.cfg.preopenTime else 0 }) ∧
          (cancel → t.cover = cleared (nightState s .rest) c) ∧
          (¬(m = .preopen ∧ night) → ¬cancel → t.cover = c))

/-- R50 and R136: SET_MODE with target START, RECALL with targets START and SAFETY.
The model's choices in it: the order of the refusals is log 8. -/
def Obligations.StartSettingsRequests : Prop :=
  (∀ (p : PortId) (mode : Byte) (s : State), Served s p (.setModeStart p mode) →
    ((modeOf mode = none ∨ modeOf mode = some .preopen) →
      exec (.setModeStart p mode) s = .next (reply p 0x10 .badValue s)) ∧
    ∀ m, modeOf mode = some m → m ≠ .preopen → exec (.setModeStart p mode) s = .next
      (if s.store.busy = true then reply p 0x10 .busy s
       else reply p 0x10 .ok { s with mode := { s.mode with startMode := m } })) ∧
  (∀ (p : PortId) (n : Byte) (s : State), Served s p (.recallStart p n) →
    exec (.recallStart p n) s = .next
      (if 31 < n.toNat ∧ n ≠ 0xFF then reply p 0x30 .badItem s
       else if s.store.busy = true then reply p 0x30 .busy s
       else reply p 0x30 .ok
         { s with light := { s.light with startScene := if n = 0xFF then none else some n.toNat } })) ∧
  ∀ (p : PortId) (n : Byte) (s : State), Served s p (.recallSafety p n) →
    exec (.recallSafety p n) s = .next
      (if 31 < n.toNat then reply p 0x30 .badItem s
       else if s.store.busy = true then reply p 0x30 .busy s
       else reply p 0x30 .ok { s with light := { s.light with safetyScene := n.toNat } })

/-! ## Requests on the runtime state -/

/-- R33, R34: REPORT_WATER, a second of the water record, and the second at which its stale flag becomes set.
The model's choices in it: a second as a row and WATER_STALE as its outcome are logs 2 and 16. -/
def Obligations.WaterReportAndAge : Prop :=
  (∀ (p : PortId) (v : Half) (s : State), Served s p (.reportWater p v) →
    exec (.reportWater p v) s = .next
      (reply p 0x20 (if 150 ≤ v.toInt ∧ v.toInt ≤ 380 then .ok else .clamped)
        { s with water := ⟨some (max 150 (min v.toInt 380)), 0, false⟩ })) ∧
  (∀ s : State,
    let u := elapse s.timers.water s
    let age := if s.water.age < 7200 then s.water.age + 1 else s.water.age
    let t : State :=
      { u with
        timers := { u.timers with water := 100 }
        water := ⟨s.water.reported, age, s.water.stale || decide (s.climateCfg.waterHold ≤ age)⟩ }
    exec .waterAgeSecond s = .next t ∧
    (s.water.stale = false → s.climateCfg.waterHold ≤ age →
      exec .waterStale s = .next t ∧ t.water.stale = true))

/-- R104 to R106, R110, R116 to R118: REPORT_COVER.
The model's choices in it: the fields cleared on entry are log 9. -/
def Obligations.ReportCoverFormsTheDerivedState : Prop :=
  ∀ (p : PortId) (b : Byte) (s : State), Served s p (.reportCover p b) →
    (reportOf b = none → exec (.reportCover p b) s = .next (reply p 0x21 .badValue s)) ∧
    ∀ r, reportOf b = some r →
      (r = s.cover.report → exec (.reportCover p b) s = .next (reply p 0x21 .ok s)) ∧
      (r ≠ s.cover.report → ∃ t, exec (.reportCover p b) s = .next (reply p 0x21 .ok t) ∧
        t = { s with cover := t.cover, ports := t.ports } ∧ t.cover.report = r ∧ t.cover.cfg = s.cover.cfg ∧
        t.cover.travel = (if r = .moving then 0 else s.cover.travel) ∧
        (∀ d only, pairOutcome r s.seq.coverLimit.active = some (d, only) →
          t.cover.derived = d ∧ t.cover.switchOnly = only ∧
          t.cover.prog = (if d = s.cover.derived then s.cover.prog
            else programmeAfter (alertTripped s) s.cover.prog d)) ∧
        (pairOutcome r s.seq.coverLimit.active = none →
          t.cover = { s.cover with report := r, mismatch := 0 } ∧ t.ports = s.ports) ∧
        t = reported r s)

/-- R119, R120: ASK_COVER_OPEN.
The model's choices in it: the fields that a begun purge clears are log 9. -/
def Obligations.AskCoverOpenByProgrammeState : Prop :=
  (∀ (p : PortId) (role : Role), role ≠ .pool → dispatch p role 0x22 [] = .refused .notPermitted) ∧
  ∀ (p : PortId) (s : State), Served s p (.askCoverOpen p) →
    let c := s.cover
    let acc := if c.prog = .purge then min c.counted c.cfg.preopenTime else 0
    ((c.prog = .idle ∨ c.prog = .disagree) →
      exec (.askCoverOpen p) s = .next (reply p 0x22 .notApplicable s)) ∧
    (c.prog = .preopen → exec (.askCoverOpen p) s = .next
      (sendReply p 0x22 ⟨.ok, natField (c.cfg.preopenTime - c.preopenAcc)⟩
        { s with cover := { c with origin := some .ask } })) ∧
    (c.prog = .released → exec (.askCoverOpen p) s = .next
      (sendReply p 0x22 ⟨.ok, natField (c.cfg.permissionHold - c.elapsed)⟩ s)) ∧
    ((c.prog = .settle ∨ c.prog = .purge ∨ c.prog = .rest ∨ c.prog = .alert) →
      exec (.askCoverOpen p) s = .next
        (sendReply p 0x22 ⟨.ok, natField (c.cfg.preopenTime - acc)⟩
          { s with cover := { c with
            prog := .preopen, elapsed := 0, counted := 0, preopenAcc := acc, origin := some .ask, hold := none,
            release := false, starve := 0, starved := false } }))

/-- R132, R133, R137, R138: RECALL with target LAYER and RELEASE.
The model's choice in it: an unknown target is BAD_VALUE (R152) whatever the scene number, log 31. -/
def Obligations.RecallAndReleaseFormTheTargets : Prop :=
  (∀ (p : PortId) (n target : Byte) (k : Layer) (s : State), Served s p (.recallLayer p n target) →
    layerOfRole s.ports[p].role = some k →
      (target ≠ 0 → exec (.recallLayer p n target) s = .next (reply p 0x30 .badValue s)) ∧
      (target = 0 → (31 < n.toNat ∨ (sceneAt s.light n.toNat).defined = false) →
        exec (.recallLayer p n target) s = .next (reply p 0x30 .badItem s)) ∧
      (target = 0 → n.toNat ≤ 31 → (sceneAt s.light n.toNat).defined = true →
        permits (sceneAt s.light n.toNat).modes s.mode.mode = false →
          exec (.recallLayer p n target) s = .next (reply p 0x30 .notInMode s)) ∧
      (target = 0 → n.toNat ≤ 31 → (sceneAt s.light n.toNat).defined = true →
        permits (sceneAt s.light n.toNat).modes s.mode.mode = true →
          ∃ l, exec (.recallLayer p n target) s = .next (reply p 0x30 .ok { s with light := l }) ∧
            l.layers = setLayer k (some ⟨n.toNat, s.pt⟩) s.light.layers ∧
            Retargeted (sceneAt s.light n.toNat).fade s.light l)) ∧
  ∀ (p : PortId) (k : Layer) (s : State), Served s p (.release p) → layerOfRole s.ports[p].role = some k →
    (getLayer s.light.layers k = none → exec (.release p) s = .next (reply p 0x31 .ok s)) ∧
    ∀ st, getLayer s.light.layers k = some st →
      ∃ l, exec (.release p) s = .next (reply p 0x31 .ok { s with light := l }) ∧
        l.layers = setLayer k none s.light.layers ∧ Retargeted (sceneAt s.light st.scene).fade s.light l

/-- R12 to R15: ZERO_SEARCH; six comparator reports, from the highest bit down, make the new trim code of a search that
has begun: a bit is kept where the report is not "above"; the channel then settles afresh, and the completion is
posted.
The model's choices in it: the expiry as a row is log 2. -/
def Obligations.ZeroSearchBeginsAndTakesSixSteps : Prop :=
  (∀ (p : PortId) (n : Byte) (s : State), Served s p (.zeroSearch p n) →
    (16 ≤ n.toNat → exec (.zeroSearch p n) s = .next (reply p 0x50 .badItem s)) ∧
    ∀ c : ChanId, c.val = n.toNat → exec (.zeroSearch p n) s = .next
      (if s.channels[c].status = .unused then reply p 0x50 .badItem s
       else if s.search.isSome = true ∨ s.store.busy = true then reply p 0x50 .busy s
       else reply p 0x50 .accepted
         { s with
           channels := s.channels.set c { s.channels[c] with status := .calibrating }
           search := some
             { channel := c, trimBefore := s.channels[c].cfg.trim, statusBefore := s.channels[c].status,
               code := 32, bit := 5, stepLeft := 10 } })) ∧
  ((∀ (above : Bool) (b : Nat) (r : Search) (s : State), s.search = some r → r.bit = b + 1 →
    exec (.zeroSearchStep above) s = .next { elapse r.stepLeft s with
      search := some { r with
        code := (if above then r.code - 2 ^ (b + 1) else r.code) + 2 ^ b, bit := b, stepLeft := 10 } }) ∧
  ∀ (a5 a4 a3 a2 a1 a0 : Bool) (r : Search) (s : State), s.search = some r → r.code = 32 → r.bit = 5 →
    let code := (if a5 then 0 else 32) + (if a4 then 0 else 16) + (if a3 then 0 else 8) + (if a2 then 0 else 4) +
      (if a1 then 0 else 2) + (if a0 then 0 else 1)
    ∃ t u, execAll [.zeroSearchStep a5, .zeroSearchStep a4, .zeroSearchStep a3, .zeroSearchStep a2,
        .zeroSearchStep a1, .zeroSearchStep a0] s = .next t ∧
      u.channels = s.channels.set r.channel { s.channels[r.channel] with
        cfg := { s.channels[r.channel].cfg with trim := code }
        status := .settling, window := [], rail := 0, settle := 0 } ∧
      u.search = none ∧ u.watches = s.watches ∧ u.climate = s.climate ∧ u.alloc = s.alloc ∧ u.cover = s.cover ∧
      u.light = s.light ∧ u.mode = s.mode ∧ u.water = s.water ∧
      (∀ q : PortId, u.ports[q].notices = s.ports[q].notices) ∧
      t = post (if code = 0 ∨ code = 63 then .calLimit else .calDone) r.channel ((code : Int) - 32) u)

/-- R18: GAIN_CORRECT. -/
def Obligations.GainCorrectRoundsHalfUp : Prop :=
  ∀ (p : PortId) (n : Byte) (e : Half) (s : State), Served s p (.gainCorrect p n e) →
    (16 ≤ n.toNat → exec (.gainCorrect p n e) s = .next (reply p 0x51 .badItem s)) ∧
    ∀ c : ChanId, c.val = n.toNat →
      let k := s.channels[c]
      (k.status = .unused → exec (.gainCorrect p n e) s = .next (reply p 0x51 .badItem s)) ∧
      (k.status ≠ .unused → (e.toInt < -2000 ∨ 2000 < e.toInt) →
        exec (.gainCorrect p n e) s = .next (reply p 0x51 .badValue s)) ∧
      (k.status ≠ .unused → -2000 ≤ e.toInt → e.toInt ≤ 2000 → (underSearch s c = true ∨ s.store.busy = true) →
        exec (.gainCorrect p n e) s = .next (reply p 0x51 .busy s)) ∧
      (k.status ≠ .unused → -2000 ≤ e.toInt → e.toInt ≤ 2000 → underSearch s c = false → s.store.busy = false →
        ∃ g : Nat, (2 * (g : Int) - 1) * (10000 + e.toInt) ≤ 2 * ((k.cfg.gain : Int) * 10000) ∧
          2 * ((k.cfg.gain : Int) * 10000) < (2 * (g : Int) + 1) * (10000 + e.toInt) ∧
          let done := { k with cfg := { k.cfg with gain := max 24576 (min g 40960) } }
          exec (.gainCorrect p n e) s = .next
            (reply p 0x51 (if 24576 ≤ g ∧ g ≤ 40960 then .ok else .clamped)
              (setChannel c
                (if k.status = .settling ∨ k.status = .valid then
                  { done with status := .settling, window := [], rail := 0, settle := 0 }
                 else done) s)))

/-- R169 and R155: STORE_SETTINGS, the end of a store, and RESTART.
The model's choices in it: the end of a store is log 2. -/
def Obligations.StoreAndRestartRequests : Prop :=
  (∀ (p : PortId) (s : State), Served s p (.storeSettings p) →
    exec (.storeSettings p) s = .next
      (if s.store.busy = true ∨ s.restartPending.isSome = true then reply p 0x60 .busy s
       else reply p 0x60 .accepted
         { s with store := { busy := true, port := p, left := 50, marked := false, image := workingSettings s } })) ∧
  (∀ (d : BitVec 11) (s : State), s.store.busy = true →
    (d = 0 → exec (.storeCompletion d) s = .next
      (post .storeDone s.store.port 0 { s with store := { s.store with busy := false, marked := true } })) ∧
    (∀ k : Nat, d.getLsbD k = true → (∀ j < k, d.getLsbD j = false) → exec (.storeCompletion d) s = .next
      (post .storeFailed s.store.port k { s with store := { s.store with busy := false, marked := false } }))) ∧
  ∀ (p : PortId) (s : State), Served s p (.restart p) →
    exec (.restart p) s = .next
      (if s.store.busy = true then reply p 0x61 .busy s
       else reply p 0x61 .ok { s with restartPending := some p })

/-- R168 to R170: a completed store brings the part up, after any power-on, on the settings as they stood when the
store began, whatever ran between the store's end and the power-on, as long as marker and image stand.
The model's choices in it: the end of a store is log 2. -/
def Obligations.StoredSettingsSurvivePowerOn : Prop :=
  ∀ (p : PortId) (strap0 strap1 strap2 : BitVec 2) (s t u : State), Served s p (.storeSettings p) →
    s.store.busy = false → s.restartPending = none → exec (.storeSettings p) s = .next t →
      exec (.storeCompletion 0) t = .next u →
        ∀ v, v.store.marked = u.store.marked → v.store.image = u.store.image →
          ∃ w, exec (.powerOn strap0 strap1 strap2) v = .next w ∧ workingSettings w = workingSettings s

/-! ## Power-on and silence -/

/-- R170 and the power-on rules of the chapters: what a power-on leaves.
The model's choice in it: held pins are log 5; the fields of log 4 are not stated. -/
def Obligations.PowerOnFormsThePart : Prop :=
  ∀ (a b c : BitVec 2) (s : State), ∃ t, exec (.powerOn a b c) s = .next t ∧
    t.pt = 0 ∧ t.tick = 0 ∧ t.timers = ⟨1, 10, 100, 100, 100, 100, 200, 1000⟩ ∧ t.search = none ∧
    t.restartPending = none ∧ t.store.busy = false ∧ t.store.marked = s.store.marked ∧ t.store.image = s.store.image ∧
    t.pins = s.pins ∧
    workingSettings t = (if s.store.marked = true then s.store.image else Settings.factory) ∧
    t.mode.mode = t.mode.startMode ∧ t.mode.previous = t.mode.startMode ∧ t.mode.changeTime = 0 ∧
    t.water = ⟨none, 0, true⟩ ∧
    t.climate = {
      th := 0, tdh := 0, rhMax := 0, tg := 0, m := 0, s := 0, tw := t.climateCfg.fallbackWater, i16 := 0, dh := 0, dd := 0
      protective := false, heatCount := 0, moistCount := 0, heatBlind := false, moistBlind := false
      dewFloor := false, glazeSubst := false, condensation := false } ∧
    t.seq.fanLevel = 0 ∧ t.seq.fanGrant = 0 ∧ t.seq.valve = 0 ∧ t.seq.pfLine = false ∧ t.seq.pfGrant = false ∧
    t.seq.proof = .unproven ∧ t.seq.interlock = ⟨false, 0⟩ ∧ t.seq.lossTimer = some 1000 ∧ t.seq.failTimer = none ∧
    (∀ h : Fin 3, t.seq.heaters[h] = ⟨false, false⟩) ∧
    (∀ i : CompId, t.seq.comps[i] = {
      cfg := t.seq.comps[i].cfg, state := .offLocked, grant := false
      offTimer := some (100 * max t.seq.comps[i].cfg.minOff (minOffFloor t)), onTimer := none, history := []
      blocked := false, nextStart := t.seq.comps[i].nextStart, runSeconds := 0 }) ∧
    t.seq.coverLimit = ⟨false, 0⟩ ∧ t.seq.fanProof = ⟨false, 0⟩ ∧
    t.cover = {
      cfg := t.cover.cfg, report := .unknown, derived := .coverOpen, switchOnly := true, mismatch := 0, travel := 0
      prog := .idle, elapsed := 0, counted := 0, preopenAcc := 0, origin := none, cycles := 0, hold := none
      release := false, starve := 0, starved := false } ∧
    (∀ i : Fin 8, t.watches[i].tripped = false ∧ t.watches[i].latch = false ∧ t.watches[i].lost = false) ∧
    t.light.layers.safety = none ∧ t.light.layers.showing = none ∧ t.light.layers.work = none ∧
    t.light.layers.base = (match t.light.startScene with
      | some n =>
        if (sceneAt t.light n).defined = true ∧ permits (sceneAt t.light n).modes t.mode.startMode = true
        then some ⟨n, 0⟩ else none
      | none => none) ∧
    Retargeted (match t.light.layers.base with
      | some st => (sceneAt t.light st.scene).fade
      | none => 0) (atFloors t.light) t.light ∧
    t.light.grant = 0 ∧
    ((0 < requestR t.light ∨ t.light.layers.base = none) →
      ∀ g : GroupId, t.light.groups[g].applied = t.light.groups[g].cfg.floor) ∧
    t.alloc = { t.alloc with
      committed := 0, remaining := 0, granted := 0, overCommit := false, heatHeld := false, dehumHeld := false
      lead := 0, count := 0, heaterReq := #v[false, false, false], limitsFault := false } ∧
    (∀ k : Fin 8, t.alloc.consumers[k] = {
      requested := 0, granted := 0, cls := .none, class2 := 0, held := false, energyAcc := 0, energyCount := 0 }) ∧
    (∀ k : Fin 4, t.alloc.inForce[k] = t.alloc.limits[k].value) ∧
    (∀ n : ChanId,
      let c := t.channels[n]
      c.status = (if c.cfg.kind = .unused ∨ c.conflict = true then .unused else .settling) ∧
      (c.conflict = true ↔ (c.cfg.kind = .airT ∨ c.cfg.kind = .airRh) ∧ ∃ m : ChanId, m < n ∧
        t.channels[m].cfg.kind = c.cfg.kind ∧ t.channels[m].cfg.zone = c.cfg.zone) ∧
      c.raw = 0 ∧ c.fast = 0 ∧ c.settled = 0 ∧ c.window = [] ∧ c.rail = 0 ∧ c.settle = 0) ∧
    t.ports[0].strapped = roleOf a ∧ t.ports[1].strapped = roleOf b ∧ t.ports[2].strapped = roleOf c ∧
    t.ports[0].role = roleOf a ∧ t.ports[0].clash = false ∧
    t.ports[1].clash = decide (roleOf b ≠ .observer ∧ roleOf b = roleOf a) ∧
    t.ports[1].role = (if t.ports[1].clash = true then .observer else roleOf b) ∧
    t.ports[2].clash = decide (roleOf c ≠ .observer ∧ (roleOf c = roleOf a ∨ roleOf c = roleOf b)) ∧
    t.ports[2].role = (if t.ports[2].clash = true then .observer else roleOf c) ∧
    (∀ q : PortId, t.ports[q].rx = .idle ∧ t.ports[q].discards = 0 ∧ presenceSound t.ports[q] ∧
      (t.ports[q].clash = true → t.ports[q].role = .observer) ∧
      t.ports[q].presence = (if t.ports[q].role = .observer then .none else .present) ∧
      (t.ports[q].role ≠ .observer → t.ports[q].silenceTimer = some (100 * t.ports[q].silence)) ∧
      t.ports[q].handed = none ∧ t.ports[q].tx = [] ∧ t.ports[q].buffer = [] ∧ t.ports[q].overrun = false ∧
      (t.ports[q].role = .observer → t.ports[q].silenceTimer = none) ∧
      t.ports[q].notices.filter1.code = 0 ∧ t.ports[q].notices.filter2.code = 0 ∧ t.ports[q].notices.drops = 0 ∧
      t.ports[q].notices.acceptance = defaultAcceptance t.ports[q].role ∧ t.ports[q].notices.slot = none ∧
      t.ports[q].notices.queue =
        if s.store.marked = true ∨ t.ports[q].role ≠ .building then [] else [⟨.settingsDefaulted, 0, 0, 0, 0⟩]) ∧
    ∀ q r : PortId, q ≠ r → t.ports[q].role = t.ports[r].role → t.ports[q].role = .observer

/-- R157, R134, R104: a role falls silent: at POOL's silence the report becomes UNKNOWN and WORK is emptied, at
LIGHTING's SHOW is emptied, with their notices.
The model's choices in it: the expiry as a row is log 2, report before layer log 30. -/
def Obligations.SilenceMakesTheRoleAbsent : Prop :=
  ∀ (p : PortId) (k : Nat) (s : State), s.ports[p].presence = .present → s.ports[p].silenceTimer = some k →
    ∃ t u, exec (.silenceTimerExpiry p) s = .next t ∧
      u = post .roleAbsent p (roleCode s.ports[p].role)
        (setPort p { (elapse k s).ports[p] with presence := .absent, silenceTimer := none } (elapse k s)) ∧
      t = { u with cover := t.cover, light := t.light, ports := t.ports } ∧
      t.ports[p].presence = .absent ∧ t.ports[p].silenceTimer = none ∧
      ((s.ports[p].role = .building ∨ s.ports[p].role = .observer) → t = u) ∧
      (s.ports[p].role = .pool → t.cover.report = .unknown ∧ t.light.layers.work = none ∧
        t.light.layers.showing = s.light.layers.showing ∧ LayerSilenced .work (reported .unknown u) t) ∧
      (s.ports[p].role = .lighting → t.cover = s.cover ∧ t.light.layers.showing = none ∧
        t.light.layers.work = s.light.layers.work ∧ LayerSilenced .showing u t) ∧
      t.light.layers.base = s.light.layers.base ∧ t.light.layers.safety = s.light.layers.safety

/-! ## Measurement and climate -/

/-- R4 to R9, R20, R114, R115: what a scan does with each channel, whatever it does with the others, with the watches
on its channels, and through them with the programme, and the notices it files.
The model's choices in it: the scan as a row is log 2, the order of channels and watches log 7, the lapse among the
watch notices log 26, the fields cleared on entry log 9. -/
def Obligations.ScanVisitsEveryChannelOnce : Prop :=
  ∀ (samples : Samples) (s : State), ∃ t, exec (.channelScan samples) s = .next t ∧
    (let u := elapse s.timers.scan s
    t = { u with
      timers := { u.timers with scan := 100 }, pins := { s.pins with samples := samples }, channels := t.channels
      watches := t.watches, cover := t.cover, ports := t.ports }) ∧
    (∀ n : ChanId,
      let c := s.channels[n]
      let raw := samples[n].toNat
      let rail := raw ≤ 15 ∨ 4080 ≤ raw
      let x := engineering c.cfg.kind (min (raw * c.cfg.gain / 32768) 4095)
      let f := if c.settle = 0 then x else c.fast + Int.tdiv (x - c.fast) 4
      let w := if c.window.length < 8 then c.window ++ [f] else c.window.drop 1 ++ [f]
      ((c.status = .unused ∨ c.status = .calibrating) → t.channels[n] = c) ∧
      ((c.status = .settling ∨ c.status = .valid) → rail → c.rail < 2 →
        t.channels[n] = { c with raw := raw, rail := c.rail + 1 }) ∧
      ((c.status = .settling ∨ c.status = .valid) → rail → 2 ≤ c.rail →
        t.channels[n] = { c with raw := raw, rail := 0, status := .fault }) ∧
      ((c.status = .settling ∨ c.status = .valid) → ¬rail → t.channels[n] =
        { c with
          raw := raw, rail := 0, fast := f, window := w
          settle := if c.settle < 8 then c.settle + 1 else c.settle
          settled := if w.length = 8 then Int.tdiv w.sum 8 else c.settled
          status := if c.status = .settling ∧ (c.settle = 7 ∨ c.settle = 8) then .valid else c.status }) ∧
      (c.status = .fault → rail → t.channels[n] = { c with raw := raw, rail := 0 }) ∧
      (c.status = .fault → ¬rail → c.rail < 2 → t.channels[n] = { c with raw := raw, rail := c.rail + 1 }) ∧
      (c.status = .fault → ¬rail → 2 ≤ c.rail → t.channels[n] =
        { c with raw := raw, rail := 0, fast := x, window := [x], settle := 1, status := .settling })) ∧
    (∀ i : Fin 8,
      let w := s.watches[i]
      ((∀ n : ChanId, w.cfg.source ≠ .channel n) → t.watches[i] = w) ∧
      ∀ n : ChanId, w.cfg.source = .channel n → t.watches[i] =
        match t.channels[n].status with
        | .valid => watchAfter w (some t.channels[n].settled)
        | .calibrating => w
        | .unused | .settling | .fault => watchAfter w none) ∧
    t.cover = coverWatched s t ∧
    t.ports = (postAll (watchesFiled s.cover ((List.finRange 16).flatMap fun n =>
      (if t.channels[n].status = .fault ∧ s.channels[n].status ≠ .fault then
        [(false, .channelFault, n.val, (samples[n].toNat : Int))]
       else if s.channels[n].status = .fault ∧ t.channels[n].status ≠ .fault then
        [(false, .channelRecover, n.val, 0)]
       else []) ++
      (List.finRange 8).flatMap fun i =>
        if s.watches[i].cfg.source = .channel n then watchNotice i t.channels[n].settled s t else []))
      (elapse s.timers.scan s)).ports

/-- R20 to R22, R114, R115: the comparison of a watch with its hysteresis, what a change posts, latches and leaves, a
lost source, and what a trip and a clear of an ALERT_PURGE watch do to the programme in each of its states.
The model's choices in it: the fields cleared on the entry into ALERT are log 9. -/
def Obligations.WatchComparesWithHysteresis : Prop :=
  (∀ (i : Fin 8) (v : Int) (s : State),
    let w := s.watches[i]
    (compareWatch w v = w.tripped → evalWatch i (some v) s = setWatch i { w with lost := false } s) ∧
    (compareWatch w v = true → w.tripped = false → evalWatch i (some v) s = watchAction w.cfg.action true
      (post .watchTrip i v (setWatch i { w with tripped := true, latch := true, lost := false } s))) ∧
    (compareWatch w v = false → w.tripped = true → evalWatch i (some v) s = watchAction w.cfg.action false
      (post .watchClear i v (setWatch i { w with tripped := false, lost := false } s))) ∧
    evalWatch i none s = setWatch i { w with lost := true } s) ∧
  (∀ (w : Watch) (v : Int),
    (w.cfg.direction = .above → w.tripped = false → (compareWatch w v = true ↔ w.cfg.threshold < v)) ∧
    (w.cfg.direction = .above → w.tripped = true →
      (compareWatch w v = false ↔ v < w.cfg.threshold - w.cfg.hysteresis)) ∧
    (w.cfg.direction = .below → w.tripped = false → (compareWatch w v = true ↔ v < w.cfg.threshold)) ∧
    (w.cfg.direction = .below → w.tripped = true →
      (compareWatch w v = false ↔ w.cfg.threshold + w.cfg.hysteresis < v))) ∧
  ∀ s : State,
    let c := s.cover
    (∀ (a : WatchAction) (b : Bool), a ≠ .alertPurge → watchAction a b s = s) ∧
    ((c.prog = .settle ∨ c.prog = .purge ∨ c.prog = .rest) →
      watchAction .alertPurge true s = { s with cover := cleared .alert c }) ∧
    (c.prog = .alert → watchAction .alertPurge true s = { s with cover := { c with hold := none } }) ∧
    (c.prog = .released → watchAction .alertPurge true s =
      { post .coverReleaseLapsed 1 ((c.cfg.permissionHold - c.elapsed : Nat) : Int) s with
        cover := cleared .alert c }) ∧
    ((c.prog = .preopen ∨ c.prog = .idle ∨ c.prog = .disagree) → watchAction .alertPurge true s = s) ∧
    (c.prog = .alert → (∀ i : Fin 8, s.watches[i].cfg.action = .alertPurge → s.watches[i].tripped = false) →
      watchAction .alertPurge false s = { s with cover := { c with hold := some 0 } }) ∧
    ((c.prog ≠ .alert ∨ ∃ i : Fin 8, s.watches[i].cfg.action = .alertPurge ∧ s.watches[i].tripped = true) →
      watchAction .alertPurge false s = s)

/-- R28, R29, Table 2-1: the dew point inverts the saturation table, rises with the vapour pressure, and the pressure
rises with temperature and humidity. -/
def Obligations.DewPointInvertsTheTable : Prop :=
  (∀ i : Fin 25, saturationAt (20 * (i.val : Int)) = esAt i ∧ dewOfPressure (esAt i) = 20 * i.val) ∧
  (∀ e f : Nat, e ≤ f → dewOfPressure e ≤ dewOfPressure f) ∧
  (∀ a b : Int, a ≤ b → saturationAt a ≤ saturationAt b) ∧
  (∀ e : Nat, dewOfPressure e ≤ 480) ∧
  ∀ t a b : Int, a ≤ b → (zoneAir t a).dew ≤ (zoneAir t b).dew ∧ (zoneAir t b).dew ≤ t

/-- R20, R25, R27, R30 to R44, R114, R115: what a computation places in the climate record, sense by sense, what it does
with the watches on climate sources, and through them with the programme, and the notices it files.
The model's choices in it: the computation as a row is log 2, the order of watches log 7, the lapse among the watch
notices log 26, the fields cleared on entry log 9. -/
def Obligations.ComputationFormsTheRecord : Prop :=
  ∀ s : State, ∃ t, exec .climateComputation s = .next t ∧
    let c := s.climate
    let n := t.climate
    let u := atComputation s
    let ts := airTemps s
    let zs := moistZones s
    let gs := glazeTemps s
    let cfg := s.climateCfg
    t = { u with
      climate := n
      seq := { u.seq with valve := if s.seq.interlock.active = true then 0 else n.dh }
      watches := t.watches, cover := t.cover, ports := t.ports } ∧
    (ts ≠ [] → n.th = Int.tdiv ts.sum ts.length) ∧ (ts = [] → n.th = c.th) ∧
    (zs = [] → n.tdh = c.tdh ∧ n.rhMax = c.rhMax ∧ n.dewFloor = c.dewFloor ∧ n.m = c.m ∧
      n.condensation = c.condensation ∧ n.protective = c.protective) ∧
    (zs ≠ [] → (∀ z ∈ zs, z.dew ≤ n.tdh ∧ z.rh ≤ n.rhMax) ∧ (∃ z ∈ zs, z.dew = n.tdh) ∧ (∃ z ∈ zs, z.rh = n.rhMax) ∧
      (n.dewFloor = true ↔ ∃ z ∈ zs, z.floor = true)) ∧
    (gs ≠ [] → n.glazeSubst = false ∧ n.tg ∈ gs ∧ ∀ g ∈ gs, n.tg ≤ g) ∧
    (gs = [] → ts ≠ [] → n.glazeSubst = true ∧ n.tg = n.th - cfg.substituteDrop) ∧
    (gs = [] → ts = [] → n.glazeSubst = c.glazeSubst ∧ n.tg = c.tg) ∧
    (zs ≠ [] → n.m = n.tg - n.tdh ∧ (n.condensation = true ↔ n.m ≤ 0)) ∧
    n.tw = waterInUse s ∧ n.s = setpoint cfg (sHiCap s) s.mode.mode n.tw ∧
    (ts ≠ [] →
      let e := n.s - n.th
      n.i16 = (if (c.dh = 1000 ∧ 0 < e) ∨ (c.dh = 0 ∧ e < 0) ∨ (s.alloc.heatHeld = true ∧ 0 < e) then c.i16
        else (max 0 (min (c.i16 + cfg.ki * e) 16000)).toNat) ∧
      n.dh = (max 0 (min (cfg.kp * e + (n.i16 / 16 : Nat) -
        ((runningCount s * cfg.kc + cfg.kl * (appliedLighting s.light / 10) : Nat) : Int)) 1000)).toNat ∧
      n.heatCount = 0 ∧ n.heatBlind = false) ∧
    (ts = [] → n.i16 = c.i16 ∧ n.heatCount = (if c.heatCount < 30 then c.heatCount + 1 else c.heatCount) ∧
      n.dh = (if c.heatCount = 29 then 300 else c.dh) ∧ n.heatBlind = (c.heatCount = 0 || c.heatBlind)) ∧
    (zs ≠ [] →
      let rt := if s.mode.mode = .night then cfg.nightTarget else cfg.dayTarget
      let dr := (max 0 (min (cfg.kr * ((n.rhMax : Int) - rt)) 1000)).toNat
      let dg := (max 0 (min (cfg.kg * ((cfg.mSet : Int) - n.m)) 1000)).toNat
      let dt := if forceTripped s = true then 1000 else max dr dg
      n.dd = (if c.dd < dt then (if n.m ≤ 0 then dt else min dt (c.dd + cfg.slew)) else max dt (c.dd - cfg.slew)) ∧
      (n.protective = true ↔ forceTripped s = true ∨ (dr ≤ dg ∧ 0 < dg)) ∧
      n.moistCount = 0 ∧ n.moistBlind = false) ∧
    (zs = [] → n.moistCount = (if c.moistCount < 30 then c.moistCount + 1 else c.moistCount) ∧
      n.dd = (if c.moistCount = 29 then 500 else c.dd) ∧ n.moistBlind = (c.moistCount = 0 || c.moistBlind)) ∧
    (∀ i : Fin 8,
      let w := s.watches[i]
      let glaze := ∃ k : ChanId, s.channels[k].cfg.kind = .glazeT ∧ s.channels[k].status = .valid
      t.watches[i] =
        match w.cfg.source with
        | .none | .channel _ => w
        | .hallT => watchAfter w (if ts = [] then none else some n.th)
        | .hallDew => watchAfter w (if zs = [] then none else some n.tdh)
        | .margin => watchAfter w (if zs = [] ∨ (ts = [] ∧ ¬glaze) then none else some n.m)
        | .dh => watchAfter w (some n.dh)
        | .dd => watchAfter w (some n.dd)) ∧
    t.cover = coverWatched s t ∧
    t.ports = (postAll (watchesFiled s.cover
      ((if ts = [] ∧ c.heatCount = 0 then [(false, .climateBlind, 0, (c.dh : Int))] else []) ++
       (if zs = [] ∧ c.moistCount = 0 then [(false, .climateBlind, 1, (c.dd : Int))] else []) ++
       (if c.glazeSubst = false ∧ n.glazeSubst = true then [(false, .glazeSubst, 0, n.tg)] else []) ++
       (if c.condensation = false ∧ n.condensation = true then [(false, .condensation, 0, n.m)] else []) ++
       (if c.condensation = true ∧ n.condensation = false then [(false, .condensation, 1, n.m)] else []) ++
       (List.finRange 8).flatMap fun i =>
        match s.watches[i].cfg.source with
        | .none | .channel _ => []
        | .hallT => watchNotice i n.th s t
        | .hallDew => watchNotice i n.tdh s t
        | .margin => watchNotice i n.m s t
        | .dh => watchNotice i n.dh s t
        | .dd => watchNotice i n.dd s t)) u).ports

/-- R5, R6, R9, R42, R43 (log 16): CHANNEL_FAULT, CHANNEL_RECOVER and CHANNEL_VALID are the scans in which the
channel comes to that, and the blind demands are the computations that bring them. -/
def Obligations.OutcomeRowsAreTheirScansAndComputations : Prop :=
  (∀ (n : ChanId) (samples : Samples) (s : State),
    let c := s.channels[n]
    let raw := samples[n].toNat
    let rail := raw ≤ 15 ∨ 4080 ≤ raw
    ((c.status = .settling ∨ c.status = .valid) → rail → c.rail = 2 →
      ∃ t, exec (.channelFault n samples) s = .next t ∧ exec (.channelScan samples) s = .next t ∧
        t.channels[n].status = .fault) ∧
    (c.status = .fault → ¬rail → c.rail = 2 →
      ∃ t, exec (.channelRecover n samples) s = .next t ∧ exec (.channelScan samples) s = .next t ∧
        t.channels[n].status = .settling ∧ t.channels[n].settle = 1) ∧
    (c.status = .settling → ¬rail → c.settle = 7 →
      ∃ t, exec (.channelValid n samples) s = .next t ∧ exec (.channelScan samples) s = .next t ∧
        t.channels[n].status = .valid ∧ t.channels[n].settle = 8)) ∧
  (∀ s : State,
    (airTemps s = [] → s.climate.heatCount = 29 → ∃ t, exec .heatBlindDemand s = .next t ∧
      exec .climateComputation s = .next t ∧ t.climate.dh = 300 ∧ t.climate.heatCount = 30) ∧
    (moistZones s = [] → s.climate.moistCount = 29 → ∃ t, exec .moistureBlindDemand s = .next t ∧
      exec .climateComputation s = .next t ∧ t.climate.dd = 500 ∧ t.climate.moistCount = 30))

/-! ## The allowance and the plant -/

/-- R60, R71, R73 to R76, R78, R79, R142: the walk of a pass. The committed draws are taken off the allowance, then the
classes in order: FAN to its class-2 level, the compressors under the protective flag, PF, H1 to H3, LT, the
compressors without the flag, FAN above its class-2 level; each takes what it asks for where it fits in what is left.
Nothing is lost or made: what classes 2 to 6 are granted and what is left make the draw at the start of the walk.
The pass as a row is the model's choice (log 2). -/
def Obligations.AllowanceIsNeverOverspent : Prop :=
  ∀ s : State, ∃ t, exec .allocationPass s = .next t ∧
    t.alloc.allowance = s.alloc.allowance ∧ t.alloc.draws = s.alloc.draws ∧
    t.alloc.committed = committedDraw s (formRequests s) ∧
    t.alloc.granted + t.alloc.remaining = s.alloc.allowance - t.alloc.committed ∧
    (t.alloc.overCommit = true ↔ s.alloc.allowance < t.alloc.committed) ∧
    t.light.grant ≤ t.alloc.granted ∧ t.light.grant = t.alloc.consumers[7].granted ∧
    (let u := elapse s.timers.pass s
    t = { u with
      timers := { u.timers with pass := 200 }, alloc := t.alloc, seq := t.seq, light := t.light, ports := t.ports
      freeSeq := t.freeSeq } ∧ ∀ q : PortId, t.ports[q] = { u.ports[q] with notices := t.ports[q].notices }) ∧
    (capSound t.light ∧ t.light.appliedCap = min s.light.appliedCap t.light.capLimit ∧
      t.light.layers = s.light.layers ∧ t.light.scenes = s.light.scenes ∧
      ∀ g : GroupId, t.light.groups[g] = { s.light.groups[g] with applied := t.light.groups[g].applied }) ∧
    let cs := t.alloc.consumers
    let d := s.alloc.draws
    let runMin := fun i : CompId => s.seq.comps[i].state = .runMin
    let order := walkOrder s.climate.protective t.alloc.lead
    let low := cs[0].class2
    t.alloc.committed = floorDraw s.light + (if runMin 0 then d.items[0] else 0) + (if runMin 1 then d.items[1] else 0) +
      (if cs[6].cls = .committed then d.items[5] else 0) ∧
    (∀ i : CompId, runMin i → cs[i.val + 1].granted = cs[i.val + 1].requested) ∧
    (cs[6].cls = .committed → cs[6].granted = 1) ∧
    (∃ f : Nat, f ≤ low ∧
      let start := s.alloc.allowance - t.alloc.committed
      let left := start - fanDraw d f
      let last := left - (order.map (walkDraw s cs)).sum
      fanDraw d f ≤ start ∧ (∀ k, f < k → k ≤ low → start < fanDraw d k) ∧
      (∀ k : Fin 8, k ≠ 0 → k ≠ 7 → cs[k].requested = 1 → cs[k].cls ≠ .committed →
        (cs[k].granted = 1 ↔ d.items.toList.getD (k.val - 1) 0 ≤ leftBefore s cs order left k)) ∧
      cs[7].granted = min cs[7].requested (leftBefore s cs order left 7) ∧
      (cs[0].requested ≤ low → cs[0].granted = f) ∧
      (low < cs[0].requested → f ≤ cs[0].granted ∧ cs[0].granted ≤ cs[0].requested ∧
        fanDraw d cs[0].granted - fanDraw d f ≤ last ∧
        ∀ k, cs[0].granted < k → k ≤ cs[0].requested → last < fanDraw d k - fanDraw d f) ∧
      t.alloc.remaining = last - (fanDraw d cs[0].granted - fanDraw d f) ∧
      t.alloc.granted = fanDraw d f + (fanDraw d cs[0].granted - fanDraw d f) + (order.map (walkDraw s cs)).sum) ∧
    (∀ k : Fin 8, k ≠ 0 → k ≠ 7 → cs[k].granted ≤ 1 ∧ (cs[k].requested = 0 → cs[k].granted = 0) ∧
      (cs[k].held = true ↔ cs[k].requested = 1 ∧ cs[k].granted = 0)) ∧
    (cs[0].held = true ↔ cs[0].granted < cs[0].requested) ∧
    (cs[7].held = true ↔ 0 < cs[7].requested ∧ cs[7].granted = 0) ∧
    (t.alloc.heatHeld = true ↔ cs[3].held = true ∨ cs[4].held = true ∨ cs[5].held = true) ∧
    (t.alloc.dehumHeld = true ↔ cs[1].held = true ∨ cs[2].held = true)

/-- R61, R64 to R71, R73, R77, R79, R81, R82, R89 to R92, R94, R98 to R101: the requests of a pass, the lead and the
place of the count, the classes, the notices and the limits in force, the energy it counts, and the grants and lines the
Sequencer has after it.
The model's choices in it: the pass as a row is log 2, a zero-draw consumer does not run log 19, the value of
LIMITS_FAULT and START_LIMIT log 20, the limits check as a test event and its compressor's energy log 21, LT's draw
log 25, the order of the two compressors log 27. -/
def Obligations.PassFormsRequestsAndDrivesLines : Prop :=
  ∀ s : State, ∃ t, exec .allocationPass s = .next t ∧
    let off := s.mode.mode = .service ∨ s.seq.interlock.active = true
    let d := s.climate.dd
    let h := s.climate.dh
    let cs := t.alloc.consumers
    let mode2 := s.mode.mode = .hallOpen ∨ s.mode.mode = .preopen
    let low := max (if mode2 then 2 else 1) (if 0 < t.alloc.count then 2 else 0)
    let demand := if 800 ≤ max h d then 4 else if 500 ≤ max h d then 3 else if 250 ≤ max h d then 2 else 1
    let full := fun i : CompId => startLimit s.alloc s.seq.comps[i] ≤
      ((s.seq.comps[i]).history.filter fun e => ((elapse s.timers.pass s).pt - e).toNat < 3600).length
    let starts := fun i : CompId => s.seq.comps[i].state = .offReady ∧ ¬full i
    let barred := fun i : CompId => s.seq.comps[i].state = .offLocked ∨ (s.seq.comps[i].state = .offReady ∧ full i)
    (off → t.alloc.count = 0) ∧
    (¬off → t.alloc.count =
      if 700 ≤ d ∨ (600 ≤ d ∧ 2 ≤ s.alloc.count) then 2
      else if 300 ≤ d ∨ (200 ≤ d ∧ 1 ≤ s.alloc.count) then 1 else 0) ∧
    (t.alloc.heaterReq[0] = true ↔ ¬off ∧ (700 ≤ h ∨ (600 ≤ h ∧ s.alloc.heaterReq[0] = true))) ∧
    (t.alloc.heaterReq[1] = true ↔ ¬off ∧ (850 ≤ h ∨ (750 ≤ h ∧ s.alloc.heaterReq[1] = true))) ∧
    (t.alloc.heaterReq[2] = true ↔ ¬off ∧ (950 ≤ h ∨ (880 ≤ h ∧ s.alloc.heaterReq[2] = true))) ∧
    (∀ j : Fin 3, cs[j.val + 3].requested = (t.alloc.heaterReq[j]).toNat ∧
      cs[j.val + 3].cls = if t.alloc.heaterReq[j] = true then .heating else .none) ∧
    (cs[0].requested = if s.seq.interlock.active = true then 0 else max low demand) ∧
    (cs[0].class2 = if s.seq.interlock.active = true then 0 else low) ∧
    (cs[0].cls = if 0 < cs[0].class2 then .protective else .none) ∧
    (cs[6].requested = if s.seq.interlock.active = false ∧ (s.cover.prog = .purge ∨ s.cover.prog = .preopen ∨
      s.cover.prog = .alert ∨ s.cover.prog = .disagree) then 1 else 0) ∧
    (cs[6].cls = if cs[6].requested = 0 then .none
      else if s.cover.prog = .alert ∨ (s.cover.prog = .preopen ∧ alertTripped s = true) then .committed
      else .protective) ∧
    cs[7].requested = requestR s.light ∧ t.alloc.ltDraw = floorDraw s.light ∧
    (cs[7].cls = if 0 < requestR s.light then .lighting else .none) ∧
    (running s.seq.comps[0] = true → running s.seq.comps[1] = true → t.alloc.lead = s.alloc.lead) ∧
    (running s.seq.comps[0] = true → running s.seq.comps[1] = false → t.alloc.lead = 0) ∧
    (running s.seq.comps[0] = false → running s.seq.comps[1] = true → t.alloc.lead = 1) ∧
    (running s.seq.comps[0] = false → running s.seq.comps[1] = false →
      t.alloc.lead = if s.seq.comps[1].runSeconds < s.seq.comps[0].runSeconds then 1 else 0) ∧
    (∀ i j : CompId, i = t.alloc.lead → j ≠ i →
      (t.alloc.count = 0 → cs[i.val + 1].requested = 0 ∧ cs[j.val + 1].requested = 0) ∧
      (t.alloc.count = 2 → cs[i.val + 1].requested = 1 ∧ cs[j.val + 1].requested = 1) ∧
      (t.alloc.count = 1 → barred i → starts j → cs[i.val + 1].requested = 0 ∧ cs[j.val + 1].requested = 1) ∧
      (t.alloc.count = 1 → ¬(barred i ∧ starts j) → cs[i.val + 1].requested = 1 ∧ cs[j.val + 1].requested = 0)) ∧
    (∀ i : CompId, cs[i.val + 1].cls =
      if s.seq.comps[i].state = .runMin then .committed
      else if cs[i.val + 1].requested = 1 then (if s.climate.protective = true then .protective else .comfort)
      else .none) ∧
    (t.alloc.limits = s.alloc.limits ∧
      (t.alloc.limitsFault = true ↔ s.alloc.limitsFault = true ∨
        ∃ k : Fin 4, s.alloc.limits[k].complement ≠ ~~~s.alloc.limits[k].value) ∧
      (t.alloc.limitsFault = true → t.alloc.inForce = #v[340, 4, 300, 600]) ∧
      (t.alloc.limitsFault = false → ∀ k : Fin 4, t.alloc.inForce[k] = s.alloc.limits[k].value)) ∧
    (∃ mid : Vector Compressor 2,
      let u := elapse s.timers.pass s
      let given := fun i : CompId => withGrant (decide (cs[i.val + 1].granted = 1)) (minOffFloor t) mid[i]
      let shut := (List.finRange 2).filter fun i : CompId => s.seq.comps[i].state = .run && cs[i.val + 1].granted = 0
      (∀ i : CompId,
        LimitMoved u.pt (startLimit s.alloc s.seq.comps[i]) (startLimit t.alloc s.seq.comps[i])
          (mayStart s.seq s.seq.fanLevel) u.seq.comps[i] mid[i] ∧
        StartTested u.pt (startLimit t.alloc s.seq.comps[i]) (mayStart s.seq t.seq.fanLevel)
          (given i) t.seq.comps[i]) ∧
      (∀ k : Fin 8,
        let acc := s.alloc.consumers[k].energyAcc + 2 * appliedDraw { s with seq := { s.seq with comps := mid } } k
        cs[k].energyAcc = acc % 3600 ∧
        cs[k].energyCount = min (s.alloc.consumers[k].energyCount + acc / 3600) 4294967295) ∧
      t.ports =
        (postAll (passNotices s t ++
          startNotices 0 u.seq.comps[0] mid[0] ++ startNotices 1 u.seq.comps[1] mid[1] ++
          shut.map (fun i => (Code.compStop, i.val, (0 : Int))) ++
          startNotices 0 (given 0) t.seq.comps[0] ++ startNotices 1 (given 1) t.seq.comps[1]) u).ports) ∧
    (let u := elapse s.timers.pass s
    t.seq = { u.seq with
        comps := t.seq.comps, heaters := t.seq.heaters, fanLevel := t.seq.fanLevel, fanGrant := t.seq.fanGrant
        pfLine := t.seq.pfLine, pfGrant := t.seq.pfGrant
        failTimer :=
          if s.seq.fanProof.active = true ∨ t.seq.fanLevel = 0 then none
          else if s.seq.fanLevel = 0 then some 3000 else u.seq.failTimer }) ∧
    t.seq.fanGrant = cs[0].granted ∧ t.seq.pfGrant = decide (cs[6].granted = 1) ∧
    t.seq.fanLevel = (if s.seq.interlock.active = true then 0 else cs[0].granted) ∧
    (t.seq.pfLine = true ↔ s.seq.interlock.active = false ∧ cs[6].granted = 1) ∧
    (∀ j : Fin 3, t.seq.heaters[j].grant = decide (cs[j.val + 3].granted = 1) ∧
      (t.seq.heaters[j].line = true ↔ cs[j.val + 3].granted = 1 ∧ s.seq.interlock.active = false ∧
        (s.seq.heaters[j].line = true ∨ (s.mode.mode ≠ .service ∧ s.seq.proof = .proven)))) ∧
    (∀ i : CompId, t.seq.comps[i].cfg = s.seq.comps[i].cfg ∧ t.seq.comps[i].runSeconds = s.seq.comps[i].runSeconds ∧
      t.seq.comps[i].grant = decide (cs[i.val + 1].granted = 1) ∧
      (s.seq.comps[i].state = .run → cs[i.val + 1].granted = 0 → t.seq.comps[i].state = .offLocked ∧
        t.seq.comps[i].offTimer = some (100 * max s.seq.comps[i].cfg.minOff (minOffFloor t))) ∧
      (s.seq.comps[i].state = .run → cs[i.val + 1].granted = 1 → t.seq.comps[i].state = .run) ∧
      (s.seq.comps[i].state = .runMin ∨ s.seq.comps[i].state = .offLocked →
        t.seq.comps[i].state = s.seq.comps[i].state))

/-- R90, R91, R97: a second of the Sequencer: histories pruned, run seconds counted, and a granted compressor whose
conditions hold starts with COMP_START; a blocked episode begins with START_LIMIT.
The model's choices in it: the second as a row is log 2, the wrap of part time log 18, the value of START_LIMIT log 20,
the order of the two compressors log 27. -/
def Obligations.SequencerSecondPrunesAndStarts : Prop :=
  ∀ s : State, ∃ t, exec .sequencerSecond s = .next t ∧
    let u := elapse s.timers.sequencer s
    t = { u with
      timers := { u.timers with sequencer := 100 }
      seq := { u.seq with comps := t.seq.comps }
      ports := (postAll (startNotices 0 s.seq.comps[0] t.seq.comps[0] ++
        startNotices 1 s.seq.comps[1] t.seq.comps[1]) u).ports
      freeSeq := t.freeSeq } ∧
    ∀ i : CompId,
      let c := s.seq.comps[i]
      let h := prune u.pt c.history
      let room := h.length < startLimit s.alloc c
      let ready := c.state = .offReady ∧ c.grant = true
      (running c = true → t.seq.comps[i] =
        { u.seq.comps[i] with history := h, runSeconds := min (c.runSeconds + 1) (max c.runSeconds 4294967295) }) ∧
      (running c = false → ¬ready → t.seq.comps[i] = { u.seq.comps[i] with history := h }) ∧
      (ready → room → s.seq.interlock.active = false → s.seq.proof = .proven → 2 ≤ s.seq.fanLevel → t.seq.comps[i] =
        { u.seq.comps[i] with
          history := h ++ [u.pt], state := .runMin, offTimer := none, onTimer := some (100 * c.cfg.minOn)
          blocked := false }) ∧
      (ready → ¬room → t.seq.comps[i].state = .offReady ∧ t.seq.comps[i].blocked = true ∧
        (t.seq.comps[i]).history = h ∧
        (c.blocked = false → ∀ e rest, h = e :: rest → t.seq.comps[i].nextStart = e + 3600)) ∧
      (ready → room → ¬(s.seq.interlock.active = false ∧ s.seq.proof = .proven ∧ 2 ≤ s.seq.fanLevel) →
        t.seq.comps[i] = { u.seq.comps[i] with history := h })

/-- R91 to R93, R95: the expiries of a compressor's minimum timers; that of the minimum off timer is a test event.
The model's choices in it: the expiries as rows are log 2, the wrap of part time log 18, the value of START_LIMIT log 20. -/
def Obligations.MinimumTimersExpire : Prop :=
  ∀ (i : CompId) (k : Nat) (s : State),
    let c := s.seq.comps[i]
    let u := elapse k s
    (c.state = .offLocked → c.offTimer = some k → c.grant = false →
      exec (.minOffExpiry i) s =
        .next (setComp i { u.seq.comps[i] with state := .offReady, offTimer := none } u)) ∧
    (c.state = .offLocked → c.offTimer = some k → c.grant = true →
      s.seq.interlock.active = false → s.seq.proof = .proven → 2 ≤ s.seq.fanLevel →
        (prune u.pt c.history).length < startLimit s.alloc c →
          exec (.minOffExpiry i) s = .next (post .compStart i ((prune u.pt c.history).length + 1 : Nat)
            (setComp i { u.seq.comps[i] with
              state := .runMin, history := prune u.pt c.history ++ [u.pt], offTimer := none
              onTimer := some (100 * c.cfg.minOn), blocked := false } u))) ∧
    (c.state = .offLocked → c.offTimer = some k →
      let ready := { u.seq.comps[i] with state := .offReady, offTimer := none }
      ∃ t, exec (.minOffExpiry i) s = .next t ∧
        t = { setComp i t.seq.comps[i] u with
          ports := (postAll (startNotices i ready t.seq.comps[i]) u).ports, freeSeq := t.freeSeq } ∧
        StartTested u.pt (startLimit s.alloc c) (mayStart s.seq s.seq.fanLevel) ready t.seq.comps[i]) ∧
    (c.state = .runMin → c.onTimer = some k → c.grant = true →
      exec (.minOnExpiry i) s = .next (setComp i { u.seq.comps[i] with state := .run, onTimer := none } u)) ∧
    (c.state = .runMin → c.onTimer = some k → c.grant = false →
      exec (.minOnExpiry i) s = .next (post .compStop i 1
        (setComp i { u.seq.comps[i] with
          state := .offLocked, onTimer := none
          offTimer := some (100 * max c.cfg.minOff (minOffFloor s)) } u)))

/-- R91, R92, R95, R96, R98, R100: the two proof timers with the forced stops and their COMP_STOP of cause 3, and the
accepted changes of FAN_PROOF, of which the one to PROVEN is a test event of compressors and stages.
The model's choices in it: the expiries as rows are log 2, the accepted changes log 16, the value of START_LIMIT log 20,
the order of the two compressors log 27. -/
def Obligations.FanProofGuardsThePlant : Prop :=
  (∀ (k : Nat) (s : State), s.seq.lossTimer = some k → ∃ t, exec .proofLossExpiry s = .next t ∧
    let u := elapse k s
    t = { u with
      seq := { u.seq with comps := t.seq.comps, heaters := t.seq.heaters, lossTimer := none }
      ports := (postAll (forcedStops 3 s.seq) u).ports } ∧
    (∀ i : CompId, running t.seq.comps[i] = false ∧ t.seq.comps[i] =
      if running s.seq.comps[i] = true then stopped (minOffFloor s) u.seq.comps[i] else u.seq.comps[i]) ∧
    ∀ h : Fin 3, t.seq.heaters[h] = ⟨false, s.seq.heaters[h].grant⟩) ∧
  (∀ (k : Nat) (s : State), s.seq.failTimer = some k →
    let u := elapse k s
    (s.seq.proof ≠ .failed → exec .proofFailExpiry s = .next
      (post .fanProofFail 0 s.seq.fanLevel { u with seq := { u.seq with failTimer := none, proof := .failed } })) ∧
    (s.seq.proof = .failed → exec .proofFailExpiry s = .next { u with seq := { u.seq with failTimer := none } })) ∧
  (∀ s : State, s.seq.fanProof.active = false → ∃ t, exec .fanProofActive s = .next t ∧
    let v := atAccept s.seq.fanProof s
    t = { v with
      seq := { v.seq with
        fanProof := ⟨true, 0⟩, proof := .proven, lossTimer := none, failTimer := none
        comps := t.seq.comps, heaters := t.seq.heaters }
      ports := (postAll (startNotices 0 s.seq.comps[0] t.seq.comps[0] ++
        startNotices 1 s.seq.comps[1] t.seq.comps[1]) v).ports
      freeSeq := t.freeSeq, pins := { s.pins with fanProof := true } } ∧
    (∀ i : CompId, StartTested v.pt (startLimit s.alloc s.seq.comps[i])
      (s.seq.interlock.active = false ∧ 2 ≤ s.seq.fanLevel) v.seq.comps[i] t.seq.comps[i]) ∧
    ∀ h : Fin 3, t.seq.heaters[h] = ⟨s.seq.heaters[h].line ||
      (s.seq.heaters[h].grant && decide (s.mode.mode ≠ .service) && !s.seq.interlock.active), s.seq.heaters[h].grant⟩) ∧
  ∀ s : State, s.seq.fanProof.active = true → ∃ t, exec .fanProofInactive s = .next t ∧
    t.seq.fanProof = ⟨false, 0⟩ ∧ t.seq.proof = .unproven ∧ t.seq.lossTimer = some 1000 ∧
    t.seq.failTimer = (if s.seq.fanLevel = 0 then none else some 3000) ∧
    t = { atAccept s.seq.fanProof s with
      pins := { s.pins with fanProof := false }
      seq := { (atAccept s.seq.fanProof s).seq with
        fanProof := t.seq.fanProof, proof := t.seq.proof, lossTimer := t.seq.lossTimer
        failTimer := t.seq.failTimer } }

/-- R95, R96, R102, R135: the accepted changes of INTERLOCK, with INTERLOCK_ON and its COMP_STOP of cause 2, and
INTERLOCK_OFF with the seconds it lasted.
The model's choices in it: the accepted changes as rows are log 16, the order of the two compressors log 27, the
interlock time while it is inactive log 4. -/
def Obligations.InterlockStopsThePlant : Prop :=
  (∀ s : State, s.seq.interlock.active = false → ∃ t, exec .interlockOn s = .next t ∧
    let v := atAccept s.seq.interlock s
    PlantHeld t ∧
    (∀ i : CompId, t.seq.comps[i] =
      if running s.seq.comps[i] = true then { stopped (minOffFloor s) v.seq.comps[i] with grant := false, blocked := false }
      else { v.seq.comps[i] with grant := false, blocked := false }) ∧
    t.light.layers = setLayer .safety (some ⟨s.light.safetyScene, t.pt⟩) s.light.layers ∧
    Retargeted (safetyFade (sceneAt s.light s.light.safetyScene)) s.light t.light ∧
    t = { v with
      seq := { v.seq with
        interlock := ⟨true, 0⟩, interlockTicks := 0, comps := t.seq.comps
        heaters := #v[⟨false, false⟩, ⟨false, false⟩, ⟨false, false⟩]
        fanLevel := 0, fanGrant := 0, pfLine := false, pfGrant := false, valve := 0, failTimer := none }
      light := t.light
      ports := (postAll ((.interlockOn, 0, (runningCount s : Int)) :: forcedStops 2 s.seq) v).ports
      pins := { s.pins with interlock := true } }) ∧
  ∀ s : State, s.seq.interlock.active = true → ∃ t, exec .interlockOff s = .next t ∧
    let v := atAccept s.seq.interlock s
    t.light.layers = setLayer .safety none s.light.layers ∧
    (∀ st, s.light.layers.safety = some st →
      Retargeted (safetyFade (sceneAt s.light st.scene)) s.light t.light) ∧
    (s.light.layers.safety = none → t.light = s.light) ∧
    t = { v with
      seq := { v.seq with interlock := ⟨false, 0⟩, interlockTicks := 0, valve := s.climate.dh }
      light := t.light
      ports := (post .interlockOff 0 (min (v.seq.interlockTicks / 100) 32767 : Nat) v).ports
      pins := { s.pins with interlock := false } }

/-- R85, R86, R102, R100: one sample of the three inputs: a level that agrees clears the count, the fifth that differs
is accepted and has the effect of its row, in the order COVER_LIMIT, INTERLOCK, FAN_PROOF.
The model's choices in it: the order of the three inputs is log 7, the accepted changes as rows log 16. -/
def Obligations.InputsAreDebounced : Prop :=
  ∀ (c i f : Bool) (s : State), ∃ t, exec (.inputSample c i f) s = .next t ∧
    t.seq.coverLimit = (if c = s.seq.coverLimit.active then ⟨c, 0⟩
      else if 4 ≤ s.seq.coverLimit.count then ⟨c, 0⟩ else ⟨!c, s.seq.coverLimit.count + 1⟩) ∧
    t.seq.interlock = (if i = s.seq.interlock.active then ⟨i, 0⟩
      else if 4 ≤ s.seq.interlock.count then ⟨i, 0⟩ else ⟨!i, s.seq.interlock.count + 1⟩) ∧
    t.seq.fanProof = (if f = s.seq.fanProof.active then ⟨f, 0⟩
      else if 4 ≤ s.seq.fanProof.count then ⟨f, 0⟩ else ⟨!f, s.seq.fanProof.count + 1⟩) ∧
    let u := elapse s.timers.sample s
    let w : State := { u with
      timers := { u.timers with sample := 1 }
      pins := { s.pins with coverLimit := c, interlock := i, fanProof := f } }
    t = { w with seq := t.seq, cover := t.cover, light := t.light, ports := t.ports, freeSeq := t.freeSeq } ∧
    ∃ a b : State,
      Sampled s.seq.coverLimit c .coverLimitChange (fun x q => { q with coverLimit := x }) w a ∧
      Sampled s.seq.interlock i (if i = true then .interlockOn else .interlockOff)
        (fun x q => { q with interlock := x }) a b ∧
      Sampled s.seq.fanProof f (if f = true then .fanProofActive else .fanProofInactive)
        (fun x q => { q with fanProof := x }) b t

/-! ## The covers -/

/-- R86, R105, R110, R117, R118: an accepted change of COVER_LIMIT.
The model's choices in it: the accepted change as a row is log 16, the fields cleared on entry log 9. -/
def Obligations.CoverLimitChangeFormsTheDerivedState : Prop :=
  ∀ s : State, ∃ t, exec .coverLimitChange s = .next t ∧
    let switch := !s.seq.coverLimit.active
    t.seq.coverLimit = ⟨switch, 0⟩ ∧ t.cover.report = s.cover.report ∧
    (∀ d only, pairOutcome s.cover.report switch = some (d, only) →
      t.cover.derived = d ∧ t.cover.switchOnly = only ∧
      t.cover.prog = (if d = s.cover.derived then s.cover.prog
        else programmeAfter (alertTripped s) s.cover.prog d)) ∧
    (pairOutcome s.cover.report switch = none → t.cover = { s.cover with mismatch := 0 }) ∧
    let u := atAccept s.seq.coverLimit s
    let w : State := { u with
      seq := { u.seq with coverLimit := ⟨switch, 0⟩ }, pins := { s.pins with coverLimit := switch } }
    t = { w with cover := t.cover, ports := t.ports } ∧ t = coverEvaluated w

/-- R106, R116: a count at its limit makes the derived state and the programme DISAGREE, with COVER_STATE,
COVER_DISAGREE and the lapse of an outstanding permission.
The model's choices in it: the outcome rows are log 16, the order within the second log 23, the fields cleared on entry
log 9. -/
def Obligations.CountsBringDisagree : Prop :=
  ∀ s : State, s.cover.derived ≠ .disagree →
    let c := disagreeCounts (heldRow s) s.cover
    let after := fun cause : Nat =>
      let t := disagreed cause { atCvpSecond s with cover := c }
      { t with cover := { t.cover with elapsed := if t.cover.elapsed < 65535 then t.cover.elapsed + 1 else t.cover.elapsed } }
    (heldRow s = true → 30 ≤ c.mismatch →
      ∃ t, exec .mismatchCountExpiry s = .next t ∧ exec .cvpSecond s = .next t ∧
        t.cover.derived = .disagree ∧ t.cover.prog = .disagree ∧ (ReleaseHeld s → t.cover.release = false) ∧
        t = after (if c.report = .closed then 0 else 1)) ∧
    (c.report = .moving → c.cfg.travelLimit ≤ c.travel →
      ∃ t, exec .travelCountExpiry s = .next t ∧ exec .cvpSecond s = .next t ∧
        t.cover.derived = .disagree ∧ t.cover.prog = .disagree ∧ t = after 2)

/-- R109 to R113, R115: the counts of a second of the programme, and the ends of the night phases, with the entry into
ALERT while a watch is TRIPPED (R111). A second at which no state ends leaves the counts, with PURGE_STARVED where the
starve flag becomes set.
The model's choices in it: the outcome rows are log 16, the fields cleared on entry log 9, the value of PURGE_STARVED in
PREOPEN log 28. -/
def Obligations.NightPhasesEndOnTime : Prop :=
  (∀ s : State, ∃ t, exec .cvpSecond s = .next t ∧
    t = { atCvpSecond s with cover := t.cover, ports := t.ports } ∧ t.cover.cfg = s.cover.cfg ∧
    t.cover.report = s.cover.report ∧ t.cover.switchOnly = s.cover.switchOnly) ∧
  (∀ s : State,
    let c := s.cover
    let d := secondOf s
    let line := s.seq.pfLine
    d.prog = c.prog ∧ (c.elapsed < 65535 → d.elapsed = c.elapsed + 1) ∧
    (c.prog = .purge → d.counted = if line = true then c.counted + 1 else c.counted) ∧
    (c.prog = .preopen → d.preopenAcc =
      if line = true ∧ c.preopenAcc < c.cfg.preopenTime then c.preopenAcc + 1 else c.preopenAcc) ∧
    (∀ h, c.prog = .alert → c.hold = some h → d.hold = some (h + 1)) ∧
    (c.prog = .purge ∨ c.prog = .preopen → line = true → d.starve = 0 ∧ d.starved = false) ∧
    (c.prog = .purge ∨ c.prog = .preopen → line = false → c.starve < 4 →
      d.starve = c.starve + 1 ∧ (d.starved = true ↔ c.starved = true ∨ c.starve = 3)) ∧
    (heldRow s = true → c.mismatch < 30 → d.mismatch = c.mismatch + 1) ∧
    (c.report = .moving → c.travel < 1800 → d.travel = c.travel + 1) ∧
    (countsQuiet s → ¬phaseEnds s d → exec .cvpSecond s = .next (countedSecond s))) ∧
  ∀ s : State, countsQuiet s →
    let c := secondOf s
    let v := countedSecond s
    (c.prog = .settle → c.cfg.settleTime ≤ c.elapsed →
      exec .settleTimeMet s = .next { v with cover := cleared (nightState s .purge) c } ∧
      exec .cvpSecond s = .next { v with cover := cleared (nightState s .purge) c }) ∧
    (c.prog = .purge → purgeHighInForce s ≤ c.counted →
      let n := { cleared (nightState s .rest) c with cycles := if c.cycles < 255 then c.cycles + 1 else c.cycles }
      exec .purgeComplete s = .next { v with cover := n } ∧ exec .cvpSecond s = .next { v with cover := n }) ∧
    (c.prog = .rest → (c.cfg.cycleLimit = 0 ∨ c.cycles < c.cfg.cycleLimit) → c.cfg.restLow ≤ c.elapsed →
      exec .restTimeMet s = .next { v with cover := cleared (nightState s .purge) c } ∧
      exec .cvpSecond s = .next { v with cover := cleared (nightState s .purge) c }) ∧
    (∀ h, c.prog = .alert → c.hold = some h → c.cfg.alertHold ≤ h →
      exec .alertHoldMet s = .next { v with cover := cleared (nightState s .rest) c } ∧
      exec .cvpSecond s = .next { v with cover := cleared (nightState s .rest) c })

/-- R112, R121, R122: the pre-open purge and the permission it ends in with COVER_RELEASE, the lapse of the permission
with COVER_RELEASE_LAPSED, and a starved purge with PURGE_STARVED.
The model's choices in it: the outcome rows are log 16, the fields cleared on entry log 9, the value of PURGE_STARVED in
PREOPEN log 28, PURGE_STARVED before COVER_RELEASE log 29. -/
def Obligations.PermissionIsGivenAndLapses : Prop :=
  ∀ s : State, countsQuiet s →
    let c := secondOf s
    let v := countedSecond s
    (c.prog = .preopen → c.cfg.preopenTime ≤ c.preopenAcc → alertTripped s = false →
      let t := { post .coverRelease (originCode c.origin) c.cfg.permissionHold v with
        cover := { cleared .released c with origin := c.origin, preopenAcc := c.preopenAcc, release := true } }
      exec .preopenTimeMet s = .next t ∧ exec .cvpSecond s = .next t) ∧
    (c.prog = .preopen → alertTripped s = true → exec .cvpSecond s = .next v) ∧
    (c.prog = .released → c.cfg.permissionHold ≤ c.elapsed →
      let t := { post .coverReleaseLapsed 0 0 v with cover := cleared (nightState s .rest) c }
      exec .permissionHoldMet s = .next t ∧ exec .cvpSecond s = .next t) ∧
    ((c.prog = .purge ∨ c.prog = .preopen) → c.starved = true → s.cover.starved = false →
      s.seq.pfLine = false ∧ v = { post .purgeStarved (if c.prog = .purge then 2 else 5)
        (if c.prog = .purge then c.counted else c.preopenAcc) (atCvpSecond s) with cover := c } ∧
      ∃ t, exec .purgeStarved s = .next t ∧ exec .cvpSecond s = .next t ∧
        (¬phaseEnds s c → t = v ∧ t.cover.prog = s.cover.prog ∧ t.cover.counted = s.cover.counted ∧
          t.cover.starved = true))

/-! ## The lighting -/

/-- R139, R143: a fade tick moves every fade one step, then brings the cap up to date.
The model's choices in it: the tick as a row is log 2, FADE_COMPLETE log 16. -/
def Obligations.FadeTickMovesEveryFade : Prop :=
  ∀ s : State, ∃ t, exec .fadeTick s = .next t ∧
    t = { elapse s.timers.fade s with
      timers := { (elapse s.timers.fade s).timers with fade := 10 }, light := t.light } ∧
    capSound t.light ∧ t.light.layers = s.light.layers ∧ t.light.scenes = s.light.scenes ∧
    t.light.grant = s.light.grant ∧
    (s.light.appliedCap ≤ t.light.capLimit → t.light.appliedCap = min t.light.capLimit (s.light.appliedCap + 20)) ∧
    (t.light.capLimit < s.light.appliedCap → t.light.appliedCap = t.light.capLimit) ∧
    ∀ g : GroupId,
      let a := s.light.groups[g]
      let b := t.light.groups[g]
      b.cfg = a.cfg ∧ b.target = a.target ∧ b.source = a.source ∧
      (a.fade = none → b.current = a.current ∧ b.fade = none) ∧
      (∀ f, a.fade = some f → f.elapsed + 1 < f.duration →
        b.fade = some { f with elapsed := f.elapsed + 1 } ∧
        (b.current : Int) = max 0 (f.start + Int.tdiv (((a.target : Int) - f.start) * (f.elapsed + 1)) f.duration)) ∧
      (∀ f, a.fade = some f → f.duration ≤ f.elapsed + 1 →
        b.fade = none ∧ b.current = a.target ∧ exec (.fadeComplete g) s = .next t)

/-! ## What every step keeps -/

/-- R149, R156, R157, R162: the ports stay within their bounds and their presence stays sound.
The model's choices in it: step is the queue of log 1. -/
def Obligations.PortsStaySound : Prop :=
  ∀ s t : State, PortsBounded s → PresenceHeld s → step s = .next t → PortsBounded t ∧ PresenceHeld t

/-- R102: while the interlock is active every plant line and output stays off. -/
def Obligations.InterlockKeepsThePlantOff : Prop := ∀ s t : State, PlantHeld s → step s = .next t → PlantHeld t

/-- R122: the permission stays tied to RELEASED. -/
def Obligations.ReleaseOnlyInReleased : Prop := ∀ s t : State, ReleaseHeld s → step s = .next t → ReleaseHeld t

/-- R141 to R143: the cap record stays sound, and while it is sound the applied draw above the floors never exceeds
the last lighting grant. -/
def Obligations.CapRecordStaysSound : Prop :=
  (∀ s t : State, CapHeld s → step s = .next t → CapHeld t) ∧
  (∀ l : Lighting, capSound l → appliedAbove l ≤ l.grant)

/-- R90, R91: no step brings a start history above the start limit in force. -/
def Obligations.StartsStayWithinTheLimit : Prop := ∀ s t : State, StartsHeld s → step s = .next t → StartsHeld t

/-- R12, R13: at most one channel is CALIBRATING, the one the search record names. -/
def Obligations.OneSearchAtATime : Prop := ∀ s t : State, SearchHeld s → step s = .next t → SearchHeld t

/-- The state after reset meets all of these, and a first power-on with the straps of P0 BUILDING, P1 POOL and P2
LIGHTING (the model's choice, log 3) gives it back. -/
def Obligations.ResetMeetsTheInvariants : Prop :=
  PortsBounded State.reset ∧ PresenceHeld State.reset ∧ PlantHeld State.reset ∧ ReleaseHeld State.reset ∧
  CapHeld State.reset ∧ StartsHeld State.reset ∧ SearchHeld State.reset ∧
  exec (.powerOn 0 1 2) State.reset = .next State.reset
end

