-- ==== Sys2Proof/Laws/State.lean ====
section
/-! SUPPORT. One lemma per update of State: the field it writes, and all the fields it leaves (by rfl, for simp). -/

namespace Sys2Proof.Machine

@[simp] theorem setChannel_channels (n : ChanId) (c : Channel) (s : State) : (setChannel n c s).channels = s.channels.set n c := rfl

@[simp] theorem setChannel_frame (n : ChanId) (c : Channel) (s : State) :
    (setChannel n c s).pt = s.pt ∧
    (setChannel n c s).tick = s.tick ∧
    (setChannel n c s).timers = s.timers ∧
    (setChannel n c s).search = s.search ∧
    (setChannel n c s).watches = s.watches ∧
    (setChannel n c s).climateCfg = s.climateCfg ∧
    (setChannel n c s).water = s.water ∧
    (setChannel n c s).climate = s.climate ∧
    (setChannel n c s).mode = s.mode ∧
    (setChannel n c s).alloc = s.alloc ∧
    (setChannel n c s).seq = s.seq ∧
    (setChannel n c s).cover = s.cover ∧
    (setChannel n c s).light = s.light ∧
    (setChannel n c s).ports = s.ports ∧
    (setChannel n c s).restartPending = s.restartPending ∧
    (setChannel n c s).store = s.store ∧
    (setChannel n c s).pins = s.pins ∧
    (setChannel n c s).freeSeq = s.freeSeq ∧
    (setChannel n c s).pending = s.pending := by
  refine ⟨?_, ?_, ?_, ?_, ?_, ?_, ?_, ?_, ?_, ?_, ?_, ?_, ?_, ?_, ?_, ?_, ?_, ?_, ?_⟩ <;> rfl

@[simp] theorem setWatch_watches (i : Fin 8) (w : Watch) (s : State) : (setWatch i w s).watches = s.watches.set i w := rfl

@[simp] theorem setWatch_frame (i : Fin 8) (w : Watch) (s : State) :
    (setWatch i w s).pt = s.pt ∧
    (setWatch i w s).tick = s.tick ∧
    (setWatch i w s).timers = s.timers ∧
    (setWatch i w s).channels = s.channels ∧
    (setWatch i w s).search = s.search ∧
    (setWatch i w s).climateCfg = s.climateCfg ∧
    (setWatch i w s).water = s.water ∧
    (setWatch i w s).climate = s.climate ∧
    (setWatch i w s).mode = s.mode ∧
    (setWatch i w s).alloc = s.alloc ∧
    (setWatch i w s).seq = s.seq ∧
    (setWatch i w s).cover = s.cover ∧
    (setWatch i w s).light = s.light ∧
    (setWatch i w s).ports = s.ports ∧
    (setWatch i w s).restartPending = s.restartPending ∧
    (setWatch i w s).store = s.store ∧
    (setWatch i w s).pins = s.pins ∧
    (setWatch i w s).freeSeq = s.freeSeq ∧
    (setWatch i w s).pending = s.pending := by
  refine ⟨?_, ?_, ?_, ?_, ?_, ?_, ?_, ?_, ?_, ?_, ?_, ?_, ?_, ?_, ?_, ?_, ?_, ?_, ?_⟩ <;> rfl

@[simp] theorem setComp_seq (i : CompId) (c : Compressor) (s : State) : (setComp i c s).seq = { s.seq with comps := s.seq.comps.set i c } := rfl

@[simp] theorem setComp_frame (i : CompId) (c : Compressor) (s : State) :
    (setComp i c s).pt = s.pt ∧
    (setComp i c s).tick = s.tick ∧
    (setComp i c s).timers = s.timers ∧
    (setComp i c s).channels = s.channels ∧
    (setComp i c s).search = s.search ∧
    (setComp i c s).watches = s.watches ∧
    (setComp i c s).climateCfg = s.climateCfg ∧
    (setComp i c s).water = s.water ∧
    (setComp i c s).climate = s.climate ∧
    (setComp i c s).mode = s.mode ∧
    (setComp i c s).alloc = s.alloc ∧
    (setComp i c s).cover = s.cover ∧
    (setComp i c s).light = s.light ∧
    (setComp i c s).ports = s.ports ∧
    (setComp i c s).restartPending = s.restartPending ∧
    (setComp i c s).store = s.store ∧
    (setComp i c s).pins = s.pins ∧
    (setComp i c s).freeSeq = s.freeSeq ∧
    (setComp i c s).pending = s.pending := by
  refine ⟨?_, ?_, ?_, ?_, ?_, ?_, ?_, ?_, ?_, ?_, ?_, ?_, ?_, ?_, ?_, ?_, ?_, ?_, ?_⟩ <;> rfl

@[simp] theorem setPort_ports (p : PortId) (q : Port) (s : State) : (setPort p q s).ports = s.ports.set p q := rfl

@[simp] theorem setPort_frame (p : PortId) (q : Port) (s : State) :
    (setPort p q s).pt = s.pt ∧
    (setPort p q s).tick = s.tick ∧
    (setPort p q s).timers = s.timers ∧
    (setPort p q s).channels = s.channels ∧
    (setPort p q s).search = s.search ∧
    (setPort p q s).watches = s.watches ∧
    (setPort p q s).climateCfg = s.climateCfg ∧
    (setPort p q s).water = s.water ∧
    (setPort p q s).climate = s.climate ∧
    (setPort p q s).mode = s.mode ∧
    (setPort p q s).alloc = s.alloc ∧
    (setPort p q s).seq = s.seq ∧
    (setPort p q s).cover = s.cover ∧
    (setPort p q s).light = s.light ∧
    (setPort p q s).restartPending = s.restartPending ∧
    (setPort p q s).store = s.store ∧
    (setPort p q s).pins = s.pins ∧
    (setPort p q s).freeSeq = s.freeSeq ∧
    (setPort p q s).pending = s.pending := by
  refine ⟨?_, ?_, ?_, ?_, ?_, ?_, ?_, ?_, ?_, ?_, ?_, ?_, ?_, ?_, ?_, ?_, ?_, ?_, ?_⟩ <;> rfl

@[simp] theorem modCover_cover (f : Cover → Cover) (s : State) : (modCover f s).cover = f s.cover := rfl

@[simp] theorem modCover_frame (f : Cover → Cover) (s : State) :
    (modCover f s).pt = s.pt ∧
    (modCover f s).tick = s.tick ∧
    (modCover f s).timers = s.timers ∧
    (modCover f s).channels = s.channels ∧
    (modCover f s).search = s.search ∧
    (modCover f s).watches = s.watches ∧
    (modCover f s).climateCfg = s.climateCfg ∧
    (modCover f s).water = s.water ∧
    (modCover f s).climate = s.climate ∧
    (modCover f s).mode = s.mode ∧
    (modCover f s).alloc = s.alloc ∧
    (modCover f s).seq = s.seq ∧
    (modCover f s).light = s.light ∧
    (modCover f s).ports = s.ports ∧
    (modCover f s).restartPending = s.restartPending ∧
    (modCover f s).store = s.store ∧
    (modCover f s).pins = s.pins ∧
    (modCover f s).freeSeq = s.freeSeq ∧
    (modCover f s).pending = s.pending := by
  refine ⟨?_, ?_, ?_, ?_, ?_, ?_, ?_, ?_, ?_, ?_, ?_, ?_, ?_, ?_, ?_, ?_, ?_, ?_, ?_⟩ <;> rfl

@[simp] theorem modSeq_seq (f : Sequencer → Sequencer) (s : State) : (modSeq f s).seq = f s.seq := rfl

@[simp] theorem modSeq_frame (f : Sequencer → Sequencer) (s : State) :
    (modSeq f s).pt = s.pt ∧
    (modSeq f s).tick = s.tick ∧
    (modSeq f s).timers = s.timers ∧
    (modSeq f s).channels = s.channels ∧
    (modSeq f s).search = s.search ∧
    (modSeq f s).watches = s.watches ∧
    (modSeq f s).climateCfg = s.climateCfg ∧
    (modSeq f s).water = s.water ∧
    (modSeq f s).climate = s.climate ∧
    (modSeq f s).mode = s.mode ∧
    (modSeq f s).alloc = s.alloc ∧
    (modSeq f s).cover = s.cover ∧
    (modSeq f s).light = s.light ∧
    (modSeq f s).ports = s.ports ∧
    (modSeq f s).restartPending = s.restartPending ∧
    (modSeq f s).store = s.store ∧
    (modSeq f s).pins = s.pins ∧
    (modSeq f s).freeSeq = s.freeSeq ∧
    (modSeq f s).pending = s.pending := by
  refine ⟨?_, ?_, ?_, ?_, ?_, ?_, ?_, ?_, ?_, ?_, ?_, ?_, ?_, ?_, ?_, ?_, ?_, ?_, ?_⟩ <;> rfl

@[simp] theorem modLight_light (f : Lighting → Lighting) (s : State) : (modLight f s).light = f s.light := rfl

@[simp] theorem modLight_frame (f : Lighting → Lighting) (s : State) :
    (modLight f s).pt = s.pt ∧
    (modLight f s).tick = s.tick ∧
    (modLight f s).timers = s.timers ∧
    (modLight f s).channels = s.channels ∧
    (modLight f s).search = s.search ∧
    (modLight f s).watches = s.watches ∧
    (modLight f s).climateCfg = s.climateCfg ∧
    (modLight f s).water = s.water ∧
    (modLight f s).climate = s.climate ∧
    (modLight f s).mode = s.mode ∧
    (modLight f s).alloc = s.alloc ∧
    (modLight f s).seq = s.seq ∧
    (modLight f s).cover = s.cover ∧
    (modLight f s).ports = s.ports ∧
    (modLight f s).restartPending = s.restartPending ∧
    (modLight f s).store = s.store ∧
    (modLight f s).pins = s.pins ∧
    (modLight f s).freeSeq = s.freeSeq ∧
    (modLight f s).pending = s.pending := by
  refine ⟨?_, ?_, ?_, ?_, ?_, ?_, ?_, ?_, ?_, ?_, ?_, ?_, ?_, ?_, ?_, ?_, ?_, ?_, ?_⟩ <;> rfl

@[simp] theorem modAlloc_alloc (f : Allocator → Allocator) (s : State) : (modAlloc f s).alloc = f s.alloc := rfl

@[simp] theorem modAlloc_frame (f : Allocator → Allocator) (s : State) :
    (modAlloc f s).pt = s.pt ∧
    (modAlloc f s).tick = s.tick ∧
    (modAlloc f s).timers = s.timers ∧
    (modAlloc f s).channels = s.channels ∧
    (modAlloc f s).search = s.search ∧
    (modAlloc f s).watches = s.watches ∧
    (modAlloc f s).climateCfg = s.climateCfg ∧
    (modAlloc f s).water = s.water ∧
    (modAlloc f s).climate = s.climate ∧
    (modAlloc f s).mode = s.mode ∧
    (modAlloc f s).seq = s.seq ∧
    (modAlloc f s).cover = s.cover ∧
    (modAlloc f s).light = s.light ∧
    (modAlloc f s).ports = s.ports ∧
    (modAlloc f s).restartPending = s.restartPending ∧
    (modAlloc f s).store = s.store ∧
    (modAlloc f s).pins = s.pins ∧
    (modAlloc f s).freeSeq = s.freeSeq ∧
    (modAlloc f s).pending = s.pending := by
  refine ⟨?_, ?_, ?_, ?_, ?_, ?_, ?_, ?_, ?_, ?_, ?_, ?_, ?_, ?_, ?_, ?_, ?_, ?_, ?_⟩ <;> rfl

/-- R160: posting a notice changes the notice stores and nothing else. -/
@[simp] theorem post_frame (c : Code) (n : Nat) (v : Int) (s : State) :
    (post c n v s).pt = s.pt ∧
    (post c n v s).tick = s.tick ∧
    (post c n v s).timers = s.timers ∧
    (post c n v s).channels = s.channels ∧
    (post c n v s).search = s.search ∧
    (post c n v s).watches = s.watches ∧
    (post c n v s).climateCfg = s.climateCfg ∧
    (post c n v s).water = s.water ∧
    (post c n v s).climate = s.climate ∧
    (post c n v s).mode = s.mode ∧
    (post c n v s).alloc = s.alloc ∧
    (post c n v s).seq = s.seq ∧
    (post c n v s).cover = s.cover ∧
    (post c n v s).light = s.light ∧
    (post c n v s).restartPending = s.restartPending ∧
    (post c n v s).store = s.store ∧
    (post c n v s).pins = s.pins ∧
    (post c n v s).freeSeq = s.freeSeq ∧
    (post c n v s).pending = s.pending := by
  refine ⟨?_, ?_, ?_, ?_, ?_, ?_, ?_, ?_, ?_, ?_, ?_, ?_, ?_, ?_, ?_, ?_, ?_, ?_, ?_⟩ <;> rfl

/-- R160: the notice is filed at each port, and nothing else of a port changes. -/
theorem post_ports (c : Code) (n : Nat) (v : Int) (s : State) (p : PortId) :
    (post c n v s).ports[p] =
      { s.ports[p] with
        notices := fileNotice ⟨c, n, BitVec.ofInt 16 v, s.pt, s.tick⟩ s.ports[p].notices } := by
  simp [post]

/-- Part time running on changes timers and clocks only (section 1.6.3 of spec/00_scope.md). -/
@[simp] theorem elapse_frame (k : Nat) (s : State) :
    (elapse k s).channels = s.channels ∧
    (elapse k s).watches = s.watches ∧
    (elapse k s).climateCfg = s.climateCfg ∧
    (elapse k s).water = s.water ∧
    (elapse k s).climate = s.climate ∧
    (elapse k s).mode = s.mode ∧
    (elapse k s).alloc = s.alloc ∧
    (elapse k s).cover = s.cover ∧
    (elapse k s).light = s.light ∧
    (elapse k s).restartPending = s.restartPending ∧
    (elapse k s).pins = s.pins ∧
    (elapse k s).freeSeq = s.freeSeq ∧
    (elapse k s).pending = s.pending := by
  unfold elapse; split <;> simp

/-- No time passes in 0 ticks. -/
@[simp] theorem elapse_zero (s : State) : elapse 0 s = s := by simp [elapse]

/-- A running timer stays running, and a stopped one stays stopped. -/
@[simp] theorem ageTimer_isSome (k : Nat) (t : Option Nat) : (ageTimer k t).isSome = t.isSome := by
  simp [ageTimer]

/-- Part time leaves all of the Sequencer but its timers. -/
@[simp] theorem elapse_seq_frame (k : Nat) (s : State) :
    (elapse k s).seq.heaters = s.seq.heaters ∧ (elapse k s).seq.fanLevel = s.seq.fanLevel ∧
    (elapse k s).seq.fanGrant = s.seq.fanGrant ∧ (elapse k s).seq.pfLine = s.seq.pfLine ∧
    (elapse k s).seq.pfGrant = s.seq.pfGrant ∧ (elapse k s).seq.valve = s.seq.valve ∧
    (elapse k s).seq.coverLimit = s.seq.coverLimit ∧ (elapse k s).seq.interlock = s.seq.interlock ∧
    (elapse k s).seq.fanProof = s.seq.fanProof ∧ (elapse k s).seq.proof = s.seq.proof := by
  unfold elapse; split <;> simp

/-- Part time leaves all of a compressor but its timers. -/
theorem elapse_comps (k : Nat) (s : State) (i : CompId) :
    (elapse k s).seq.comps[i] = if k = 0 then s.seq.comps[i] else
      { s.seq.comps[i] with
        offTimer := ageTimer k s.seq.comps[i].offTimer, onTimer := ageTimer k s.seq.comps[i].onTimer } := by
  unfold elapse; split <;> simp_all

/-- Part time leaves all of a port but its silence timer. -/
theorem elapse_ports (k : Nat) (s : State) (p : PortId) :
    (elapse k s).ports[p] = if k = 0 then s.ports[p] else
      { s.ports[p] with silenceTimer := ageTimer k s.ports[p].silenceTimer } := by
  unfold elapse; split <;> simp_all

/-- A store of the settings goes on while part time runs. -/
@[simp] theorem elapse_store (k : Nat) (s : State) :
    (elapse k s).store = { s.store with left := s.store.left - k } := by
  unfold elapse; split <;> simp_all

/-- Part time does not move a zero search to another channel. -/
@[simp] theorem elapse_underSearch (k : Nat) (s : State) (n : ChanId) :
    underSearch (elapse k s) n = underSearch s n := by
  by_cases h : k = 0
  · simp [h]
  · cases hs : s.search <;> simp [underSearch, elapse, h, hs]

/-- R151: a refused request changes nothing. -/
@[simp] theorem refuse_fst (r : Result) (s : State) : (refuse r s).1 = s := rfl

/-- R151: a refusal carries its result and no payload. -/
@[simp] theorem refuse_snd (r : Result) (s : State) : (refuse r s).2 = ⟨r, []⟩ := rfl

end Sys2Proof.Machine
end

