-- ==== Sys2Proof/Laws/Frames.lean ====
section
/-! SUPPORT. What each block operation leaves unchanged: every field of State outside its own records. -/

namespace Sys2Proof.Machine

@[simp] theorem enterNight_frame (p : Prog) (s : State) :
    (enterNight p s).pt = s.pt ∧
    (enterNight p s).tick = s.tick ∧
    (enterNight p s).timers = s.timers ∧
    (enterNight p s).channels = s.channels ∧
    (enterNight p s).search = s.search ∧
    (enterNight p s).watches = s.watches ∧
    (enterNight p s).climateCfg = s.climateCfg ∧
    (enterNight p s).water = s.water ∧
    (enterNight p s).climate = s.climate ∧
    (enterNight p s).mode = s.mode ∧
    (enterNight p s).alloc = s.alloc ∧
    (enterNight p s).seq = s.seq ∧
    (enterNight p s).light = s.light ∧
    (enterNight p s).ports = s.ports ∧
    (enterNight p s).restartPending = s.restartPending ∧
    (enterNight p s).store = s.store ∧
    (enterNight p s).pins = s.pins ∧
    (enterNight p s).freeSeq = s.freeSeq ∧
    (enterNight p s).pending = s.pending := by
  simp [enterNight]

@[simp] theorem enterPreopen_frame (o : Origin) (s : State) :
    (enterPreopen o s).pt = s.pt ∧
    (enterPreopen o s).tick = s.tick ∧
    (enterPreopen o s).timers = s.timers ∧
    (enterPreopen o s).channels = s.channels ∧
    (enterPreopen o s).search = s.search ∧
    (enterPreopen o s).watches = s.watches ∧
    (enterPreopen o s).climateCfg = s.climateCfg ∧
    (enterPreopen o s).water = s.water ∧
    (enterPreopen o s).climate = s.climate ∧
    (enterPreopen o s).mode = s.mode ∧
    (enterPreopen o s).alloc = s.alloc ∧
    (enterPreopen o s).seq = s.seq ∧
    (enterPreopen o s).light = s.light ∧
    (enterPreopen o s).ports = s.ports ∧
    (enterPreopen o s).restartPending = s.restartPending ∧
    (enterPreopen o s).store = s.store ∧
    (enterPreopen o s).pins = s.pins ∧
    (enterPreopen o s).freeSeq = s.freeSeq ∧
    (enterPreopen o s).pending = s.pending := by
  simp [enterPreopen]

@[simp] theorem enterReleased_frame (s : State) :
    (enterReleased s).pt = s.pt ∧
    (enterReleased s).tick = s.tick ∧
    (enterReleased s).timers = s.timers ∧
    (enterReleased s).channels = s.channels ∧
    (enterReleased s).search = s.search ∧
    (enterReleased s).watches = s.watches ∧
    (enterReleased s).climateCfg = s.climateCfg ∧
    (enterReleased s).water = s.water ∧
    (enterReleased s).climate = s.climate ∧
    (enterReleased s).mode = s.mode ∧
    (enterReleased s).alloc = s.alloc ∧
    (enterReleased s).seq = s.seq ∧
    (enterReleased s).light = s.light ∧
    (enterReleased s).restartPending = s.restartPending ∧
    (enterReleased s).store = s.store ∧
    (enterReleased s).pins = s.pins ∧
    (enterReleased s).freeSeq = s.freeSeq ∧
    (enterReleased s).pending = s.pending := by
  simp [enterReleased]

@[simp] theorem programmeDisagree_frame (s : State) :
    (programmeDisagree s).pt = s.pt ∧
    (programmeDisagree s).tick = s.tick ∧
    (programmeDisagree s).timers = s.timers ∧
    (programmeDisagree s).channels = s.channels ∧
    (programmeDisagree s).search = s.search ∧
    (programmeDisagree s).watches = s.watches ∧
    (programmeDisagree s).climateCfg = s.climateCfg ∧
    (programmeDisagree s).water = s.water ∧
    (programmeDisagree s).climate = s.climate ∧
    (programmeDisagree s).mode = s.mode ∧
    (programmeDisagree s).alloc = s.alloc ∧
    (programmeDisagree s).seq = s.seq ∧
    (programmeDisagree s).light = s.light ∧
    (programmeDisagree s).restartPending = s.restartPending ∧
    (programmeDisagree s).store = s.store ∧
    (programmeDisagree s).pins = s.pins ∧
    (programmeDisagree s).freeSeq = s.freeSeq ∧
    (programmeDisagree s).pending = s.pending := by
  simp only [programmeDisagree]; split <;> simp

@[simp] theorem programmeOpening_frame (d : Derived) (s : State) :
    (programmeOpening d s).pt = s.pt ∧
    (programmeOpening d s).tick = s.tick ∧
    (programmeOpening d s).timers = s.timers ∧
    (programmeOpening d s).channels = s.channels ∧
    (programmeOpening d s).search = s.search ∧
    (programmeOpening d s).watches = s.watches ∧
    (programmeOpening d s).climateCfg = s.climateCfg ∧
    (programmeOpening d s).water = s.water ∧
    (programmeOpening d s).climate = s.climate ∧
    (programmeOpening d s).mode = s.mode ∧
    (programmeOpening d s).alloc = s.alloc ∧
    (programmeOpening d s).seq = s.seq ∧
    (programmeOpening d s).light = s.light ∧
    (programmeOpening d s).restartPending = s.restartPending ∧
    (programmeOpening d s).store = s.store ∧
    (programmeOpening d s).pins = s.pins ∧
    (programmeOpening d s).freeSeq = s.freeSeq ∧
    (programmeOpening d s).pending = s.pending := by
  simp only [programmeOpening]; split <;> simp

@[simp] theorem derivedEvent_frame (d : Derived) (s : State) :
    (derivedEvent d s).pt = s.pt ∧
    (derivedEvent d s).tick = s.tick ∧
    (derivedEvent d s).timers = s.timers ∧
    (derivedEvent d s).channels = s.channels ∧
    (derivedEvent d s).search = s.search ∧
    (derivedEvent d s).watches = s.watches ∧
    (derivedEvent d s).climateCfg = s.climateCfg ∧
    (derivedEvent d s).water = s.water ∧
    (derivedEvent d s).climate = s.climate ∧
    (derivedEvent d s).mode = s.mode ∧
    (derivedEvent d s).alloc = s.alloc ∧
    (derivedEvent d s).seq = s.seq ∧
    (derivedEvent d s).light = s.light ∧
    (derivedEvent d s).restartPending = s.restartPending ∧
    (derivedEvent d s).store = s.store ∧
    (derivedEvent d s).pins = s.pins ∧
    (derivedEvent d s).freeSeq = s.freeSeq ∧
    (derivedEvent d s).pending = s.pending := by
  simp only [derivedEvent]; (repeat' split) <;> simp

@[simp] theorem takeDerived_frame (d : Derived) (s : State) :
    (takeDerived d s).pt = s.pt ∧
    (takeDerived d s).tick = s.tick ∧
    (takeDerived d s).timers = s.timers ∧
    (takeDerived d s).channels = s.channels ∧
    (takeDerived d s).search = s.search ∧
    (takeDerived d s).watches = s.watches ∧
    (takeDerived d s).climateCfg = s.climateCfg ∧
    (takeDerived d s).water = s.water ∧
    (takeDerived d s).climate = s.climate ∧
    (takeDerived d s).mode = s.mode ∧
    (takeDerived d s).alloc = s.alloc ∧
    (takeDerived d s).seq = s.seq ∧
    (takeDerived d s).light = s.light ∧
    (takeDerived d s).restartPending = s.restartPending ∧
    (takeDerived d s).store = s.store ∧
    (takeDerived d s).pins = s.pins ∧
    (takeDerived d s).freeSeq = s.freeSeq ∧
    (takeDerived d s).pending = s.pending := by
  simp only [takeDerived]; split <;> simp

@[simp] theorem evaluateCover_frame (s : State) :
    (evaluateCover s).pt = s.pt ∧
    (evaluateCover s).tick = s.tick ∧
    (evaluateCover s).timers = s.timers ∧
    (evaluateCover s).channels = s.channels ∧
    (evaluateCover s).search = s.search ∧
    (evaluateCover s).watches = s.watches ∧
    (evaluateCover s).climateCfg = s.climateCfg ∧
    (evaluateCover s).water = s.water ∧
    (evaluateCover s).climate = s.climate ∧
    (evaluateCover s).mode = s.mode ∧
    (evaluateCover s).alloc = s.alloc ∧
    (evaluateCover s).seq = s.seq ∧
    (evaluateCover s).light = s.light ∧
    (evaluateCover s).restartPending = s.restartPending ∧
    (evaluateCover s).store = s.store ∧
    (evaluateCover s).pins = s.pins ∧
    (evaluateCover s).freeSeq = s.freeSeq ∧
    (evaluateCover s).pending = s.pending := by
  simp only [evaluateCover]; split <;> simp

@[simp] theorem changeReport_frame (r : Report) (s : State) :
    (changeReport r s).pt = s.pt ∧
    (changeReport r s).tick = s.tick ∧
    (changeReport r s).timers = s.timers ∧
    (changeReport r s).channels = s.channels ∧
    (changeReport r s).search = s.search ∧
    (changeReport r s).watches = s.watches ∧
    (changeReport r s).climateCfg = s.climateCfg ∧
    (changeReport r s).water = s.water ∧
    (changeReport r s).climate = s.climate ∧
    (changeReport r s).mode = s.mode ∧
    (changeReport r s).alloc = s.alloc ∧
    (changeReport r s).seq = s.seq ∧
    (changeReport r s).light = s.light ∧
    (changeReport r s).restartPending = s.restartPending ∧
    (changeReport r s).store = s.store ∧
    (changeReport r s).pins = s.pins ∧
    (changeReport r s).freeSeq = s.freeSeq ∧
    (changeReport r s).pending = s.pending := by
  simp only [changeReport]; split <;> simp

@[simp] theorem disagreeBy_frame (n : Nat) (s : State) :
    (disagreeBy n s).pt = s.pt ∧
    (disagreeBy n s).tick = s.tick ∧
    (disagreeBy n s).timers = s.timers ∧
    (disagreeBy n s).channels = s.channels ∧
    (disagreeBy n s).search = s.search ∧
    (disagreeBy n s).watches = s.watches ∧
    (disagreeBy n s).climateCfg = s.climateCfg ∧
    (disagreeBy n s).water = s.water ∧
    (disagreeBy n s).climate = s.climate ∧
    (disagreeBy n s).mode = s.mode ∧
    (disagreeBy n s).alloc = s.alloc ∧
    (disagreeBy n s).seq = s.seq ∧
    (disagreeBy n s).light = s.light ∧
    (disagreeBy n s).restartPending = s.restartPending ∧
    (disagreeBy n s).store = s.store ∧
    (disagreeBy n s).pins = s.pins ∧
    (disagreeBy n s).freeSeq = s.freeSeq ∧
    (disagreeBy n s).pending = s.pending := by
  simp [disagreeBy]

@[simp] theorem advanceCounts_frame (s : State) :
    (advanceCounts s).pt = s.pt ∧
    (advanceCounts s).tick = s.tick ∧
    (advanceCounts s).timers = s.timers ∧
    (advanceCounts s).channels = s.channels ∧
    (advanceCounts s).search = s.search ∧
    (advanceCounts s).watches = s.watches ∧
    (advanceCounts s).climateCfg = s.climateCfg ∧
    (advanceCounts s).water = s.water ∧
    (advanceCounts s).climate = s.climate ∧
    (advanceCounts s).mode = s.mode ∧
    (advanceCounts s).alloc = s.alloc ∧
    (advanceCounts s).seq = s.seq ∧
    (advanceCounts s).light = s.light ∧
    (advanceCounts s).ports = s.ports ∧
    (advanceCounts s).restartPending = s.restartPending ∧
    (advanceCounts s).store = s.store ∧
    (advanceCounts s).pins = s.pins ∧
    (advanceCounts s).freeSeq = s.freeSeq ∧
    (advanceCounts s).pending = s.pending := by
  simp [advanceCounts]

@[simp] theorem countsSecond_frame (s : State) :
    (countsSecond s).pt = s.pt ∧
    (countsSecond s).tick = s.tick ∧
    (countsSecond s).timers = s.timers ∧
    (countsSecond s).channels = s.channels ∧
    (countsSecond s).search = s.search ∧
    (countsSecond s).watches = s.watches ∧
    (countsSecond s).climateCfg = s.climateCfg ∧
    (countsSecond s).water = s.water ∧
    (countsSecond s).climate = s.climate ∧
    (countsSecond s).mode = s.mode ∧
    (countsSecond s).alloc = s.alloc ∧
    (countsSecond s).seq = s.seq ∧
    (countsSecond s).light = s.light ∧
    (countsSecond s).restartPending = s.restartPending ∧
    (countsSecond s).store = s.store ∧
    (countsSecond s).pins = s.pins ∧
    (countsSecond s).freeSeq = s.freeSeq ∧
    (countsSecond s).pending = s.pending := by
  simp only [countsSecond]; (repeat' split) <;> simp

@[simp] theorem phaseCounts_frame (s : State) :
    (phaseCounts s).pt = s.pt ∧
    (phaseCounts s).tick = s.tick ∧
    (phaseCounts s).timers = s.timers ∧
    (phaseCounts s).channels = s.channels ∧
    (phaseCounts s).search = s.search ∧
    (phaseCounts s).watches = s.watches ∧
    (phaseCounts s).climateCfg = s.climateCfg ∧
    (phaseCounts s).water = s.water ∧
    (phaseCounts s).climate = s.climate ∧
    (phaseCounts s).mode = s.mode ∧
    (phaseCounts s).alloc = s.alloc ∧
    (phaseCounts s).seq = s.seq ∧
    (phaseCounts s).light = s.light ∧
    (phaseCounts s).restartPending = s.restartPending ∧
    (phaseCounts s).store = s.store ∧
    (phaseCounts s).pins = s.pins ∧
    (phaseCounts s).freeSeq = s.freeSeq ∧
    (phaseCounts s).pending = s.pending := by
  simp only [phaseCounts]; split <;> simp

@[simp] theorem completePurge_frame (s : State) :
    (completePurge s).pt = s.pt ∧
    (completePurge s).tick = s.tick ∧
    (completePurge s).timers = s.timers ∧
    (completePurge s).channels = s.channels ∧
    (completePurge s).search = s.search ∧
    (completePurge s).watches = s.watches ∧
    (completePurge s).climateCfg = s.climateCfg ∧
    (completePurge s).water = s.water ∧
    (completePurge s).climate = s.climate ∧
    (completePurge s).mode = s.mode ∧
    (completePurge s).alloc = s.alloc ∧
    (completePurge s).seq = s.seq ∧
    (completePurge s).light = s.light ∧
    (completePurge s).ports = s.ports ∧
    (completePurge s).restartPending = s.restartPending ∧
    (completePurge s).store = s.store ∧
    (completePurge s).pins = s.pins ∧
    (completePurge s).freeSeq = s.freeSeq ∧
    (completePurge s).pending = s.pending := by
  simp [completePurge]

@[simp] theorem lapsePermission_frame (s : State) :
    (lapsePermission s).pt = s.pt ∧
    (lapsePermission s).tick = s.tick ∧
    (lapsePermission s).timers = s.timers ∧
    (lapsePermission s).channels = s.channels ∧
    (lapsePermission s).search = s.search ∧
    (lapsePermission s).watches = s.watches ∧
    (lapsePermission s).climateCfg = s.climateCfg ∧
    (lapsePermission s).water = s.water ∧
    (lapsePermission s).climate = s.climate ∧
    (lapsePermission s).mode = s.mode ∧
    (lapsePermission s).alloc = s.alloc ∧
    (lapsePermission s).seq = s.seq ∧
    (lapsePermission s).light = s.light ∧
    (lapsePermission s).restartPending = s.restartPending ∧
    (lapsePermission s).store = s.store ∧
    (lapsePermission s).pins = s.pins ∧
    (lapsePermission s).freeSeq = s.freeSeq ∧
    (lapsePermission s).pending = s.pending := by
  simp [lapsePermission]

@[simp] theorem phaseTests_frame (s : State) :
    (phaseTests s).pt = s.pt ∧
    (phaseTests s).tick = s.tick ∧
    (phaseTests s).timers = s.timers ∧
    (phaseTests s).channels = s.channels ∧
    (phaseTests s).search = s.search ∧
    (phaseTests s).watches = s.watches ∧
    (phaseTests s).climateCfg = s.climateCfg ∧
    (phaseTests s).water = s.water ∧
    (phaseTests s).climate = s.climate ∧
    (phaseTests s).mode = s.mode ∧
    (phaseTests s).alloc = s.alloc ∧
    (phaseTests s).seq = s.seq ∧
    (phaseTests s).light = s.light ∧
    (phaseTests s).restartPending = s.restartPending ∧
    (phaseTests s).store = s.store ∧
    (phaseTests s).pins = s.pins ∧
    (phaseTests s).freeSeq = s.freeSeq ∧
    (phaseTests s).pending = s.pending := by
  simp only [phaseTests]; (repeat' split) <;> simp

@[simp] theorem coverSecond_frame (s : State) :
    (coverSecond s).pt = s.pt ∧
    (coverSecond s).tick = s.tick ∧
    (coverSecond s).timers = s.timers ∧
    (coverSecond s).channels = s.channels ∧
    (coverSecond s).search = s.search ∧
    (coverSecond s).watches = s.watches ∧
    (coverSecond s).climateCfg = s.climateCfg ∧
    (coverSecond s).water = s.water ∧
    (coverSecond s).climate = s.climate ∧
    (coverSecond s).mode = s.mode ∧
    (coverSecond s).alloc = s.alloc ∧
    (coverSecond s).seq = s.seq ∧
    (coverSecond s).light = s.light ∧
    (coverSecond s).restartPending = s.restartPending ∧
    (coverSecond s).store = s.store ∧
    (coverSecond s).pins = s.pins ∧
    (coverSecond s).freeSeq = s.freeSeq ∧
    (coverSecond s).pending = s.pending := by
  simp [coverSecond]

@[simp] theorem alertTrip_frame (s : State) :
    (alertTrip s).pt = s.pt ∧
    (alertTrip s).tick = s.tick ∧
    (alertTrip s).timers = s.timers ∧
    (alertTrip s).channels = s.channels ∧
    (alertTrip s).search = s.search ∧
    (alertTrip s).watches = s.watches ∧
    (alertTrip s).climateCfg = s.climateCfg ∧
    (alertTrip s).water = s.water ∧
    (alertTrip s).climate = s.climate ∧
    (alertTrip s).mode = s.mode ∧
    (alertTrip s).alloc = s.alloc ∧
    (alertTrip s).seq = s.seq ∧
    (alertTrip s).light = s.light ∧
    (alertTrip s).restartPending = s.restartPending ∧
    (alertTrip s).store = s.store ∧
    (alertTrip s).pins = s.pins ∧
    (alertTrip s).freeSeq = s.freeSeq ∧
    (alertTrip s).pending = s.pending := by
  simp only [alertTrip]; split <;> simp

@[simp] theorem alertClear_frame (s : State) :
    (alertClear s).pt = s.pt ∧
    (alertClear s).tick = s.tick ∧
    (alertClear s).timers = s.timers ∧
    (alertClear s).channels = s.channels ∧
    (alertClear s).search = s.search ∧
    (alertClear s).watches = s.watches ∧
    (alertClear s).climateCfg = s.climateCfg ∧
    (alertClear s).water = s.water ∧
    (alertClear s).climate = s.climate ∧
    (alertClear s).mode = s.mode ∧
    (alertClear s).alloc = s.alloc ∧
    (alertClear s).seq = s.seq ∧
    (alertClear s).light = s.light ∧
    (alertClear s).ports = s.ports ∧
    (alertClear s).restartPending = s.restartPending ∧
    (alertClear s).store = s.store ∧
    (alertClear s).pins = s.pins ∧
    (alertClear s).freeSeq = s.freeSeq ∧
    (alertClear s).pending = s.pending := by
  simp only [alertClear]; split <;> simp

@[simp] theorem preopenByMode_frame (s : State) :
    (preopenByMode s).pt = s.pt ∧
    (preopenByMode s).tick = s.tick ∧
    (preopenByMode s).timers = s.timers ∧
    (preopenByMode s).channels = s.channels ∧
    (preopenByMode s).search = s.search ∧
    (preopenByMode s).watches = s.watches ∧
    (preopenByMode s).climateCfg = s.climateCfg ∧
    (preopenByMode s).water = s.water ∧
    (preopenByMode s).climate = s.climate ∧
    (preopenByMode s).mode = s.mode ∧
    (preopenByMode s).alloc = s.alloc ∧
    (preopenByMode s).seq = s.seq ∧
    (preopenByMode s).light = s.light ∧
    (preopenByMode s).ports = s.ports ∧
    (preopenByMode s).restartPending = s.restartPending ∧
    (preopenByMode s).store = s.store ∧
    (preopenByMode s).pins = s.pins ∧
    (preopenByMode s).freeSeq = s.freeSeq ∧
    (preopenByMode s).pending = s.pending := by
  simp only [preopenByMode]; split <;> simp

@[simp] theorem cancelByMode_frame (s : State) :
    (cancelByMode s).pt = s.pt ∧
    (cancelByMode s).tick = s.tick ∧
    (cancelByMode s).timers = s.timers ∧
    (cancelByMode s).channels = s.channels ∧
    (cancelByMode s).search = s.search ∧
    (cancelByMode s).watches = s.watches ∧
    (cancelByMode s).climateCfg = s.climateCfg ∧
    (cancelByMode s).water = s.water ∧
    (cancelByMode s).climate = s.climate ∧
    (cancelByMode s).mode = s.mode ∧
    (cancelByMode s).alloc = s.alloc ∧
    (cancelByMode s).seq = s.seq ∧
    (cancelByMode s).light = s.light ∧
    (cancelByMode s).ports = s.ports ∧
    (cancelByMode s).restartPending = s.restartPending ∧
    (cancelByMode s).store = s.store ∧
    (cancelByMode s).pins = s.pins ∧
    (cancelByMode s).freeSeq = s.freeSeq ∧
    (cancelByMode s).pending = s.pending := by
  simp only [cancelByMode]; split <;> simp

@[simp] theorem coverModeEvent_frame (old new : Mode) (s : State) :
    (coverModeEvent old new s).pt = s.pt ∧
    (coverModeEvent old new s).tick = s.tick ∧
    (coverModeEvent old new s).timers = s.timers ∧
    (coverModeEvent old new s).channels = s.channels ∧
    (coverModeEvent old new s).search = s.search ∧
    (coverModeEvent old new s).watches = s.watches ∧
    (coverModeEvent old new s).climateCfg = s.climateCfg ∧
    (coverModeEvent old new s).water = s.water ∧
    (coverModeEvent old new s).climate = s.climate ∧
    (coverModeEvent old new s).mode = s.mode ∧
    (coverModeEvent old new s).alloc = s.alloc ∧
    (coverModeEvent old new s).seq = s.seq ∧
    (coverModeEvent old new s).light = s.light ∧
    (coverModeEvent old new s).ports = s.ports ∧
    (coverModeEvent old new s).restartPending = s.restartPending ∧
    (coverModeEvent old new s).store = s.store ∧
    (coverModeEvent old new s).pins = s.pins ∧
    (coverModeEvent old new s).freeSeq = s.freeSeq ∧
    (coverModeEvent old new s).pending = s.pending := by
  simp only [coverModeEvent]; (repeat' split) <;> simp

@[simp] theorem watchAction_frame (a : WatchAction) (t : Bool) (s : State) :
    (watchAction a t s).pt = s.pt ∧
    (watchAction a t s).tick = s.tick ∧
    (watchAction a t s).timers = s.timers ∧
    (watchAction a t s).channels = s.channels ∧
    (watchAction a t s).search = s.search ∧
    (watchAction a t s).watches = s.watches ∧
    (watchAction a t s).climateCfg = s.climateCfg ∧
    (watchAction a t s).water = s.water ∧
    (watchAction a t s).climate = s.climate ∧
    (watchAction a t s).mode = s.mode ∧
    (watchAction a t s).alloc = s.alloc ∧
    (watchAction a t s).seq = s.seq ∧
    (watchAction a t s).light = s.light ∧
    (watchAction a t s).restartPending = s.restartPending ∧
    (watchAction a t s).store = s.store ∧
    (watchAction a t s).pins = s.pins ∧
    (watchAction a t s).freeSeq = s.freeSeq ∧
    (watchAction a t s).pending = s.pending := by
  simp only [watchAction]; (repeat' split) <;> simp

@[simp] theorem evalWatch_frame (i : Fin 8) (v : Option Int) (s : State) :
    (evalWatch i v s).pt = s.pt ∧
    (evalWatch i v s).tick = s.tick ∧
    (evalWatch i v s).timers = s.timers ∧
    (evalWatch i v s).channels = s.channels ∧
    (evalWatch i v s).search = s.search ∧
    (evalWatch i v s).climateCfg = s.climateCfg ∧
    (evalWatch i v s).water = s.water ∧
    (evalWatch i v s).climate = s.climate ∧
    (evalWatch i v s).mode = s.mode ∧
    (evalWatch i v s).alloc = s.alloc ∧
    (evalWatch i v s).seq = s.seq ∧
    (evalWatch i v s).light = s.light ∧
    (evalWatch i v s).restartPending = s.restartPending ∧
    (evalWatch i v s).store = s.store ∧
    (evalWatch i v s).pins = s.pins ∧
    (evalWatch i v s).freeSeq = s.freeSeq ∧
    (evalWatch i v s).pending = s.pending := by
  simp only [evalWatch]; (repeat' split) <;> simp

@[simp] theorem reachWatches_frame (reach : WatchSource → Option (Option Int)) (s : State) :
    (reachWatches reach s).pt = s.pt ∧
    (reachWatches reach s).tick = s.tick ∧
    (reachWatches reach s).timers = s.timers ∧
    (reachWatches reach s).channels = s.channels ∧
    (reachWatches reach s).search = s.search ∧
    (reachWatches reach s).climateCfg = s.climateCfg ∧
    (reachWatches reach s).water = s.water ∧
    (reachWatches reach s).climate = s.climate ∧
    (reachWatches reach s).mode = s.mode ∧
    (reachWatches reach s).alloc = s.alloc ∧
    (reachWatches reach s).seq = s.seq ∧
    (reachWatches reach s).light = s.light ∧
    (reachWatches reach s).restartPending = s.restartPending ∧
    (reachWatches reach s).store = s.store ∧
    (reachWatches reach s).pins = s.pins ∧
    (reachWatches reach s).freeSeq = s.freeSeq ∧
    (reachWatches reach s).pending = s.pending := by
  unfold reachWatches
  generalize List.finRange 8 = l
  induction l generalizing s with
  | nil => simp
  | cons i l ih =>
    simp only [List.foldl_cons]
    split
    · exact ih s
    · simpa using ih (evalWatch i _ s)

@[simp] theorem postVisit_frame (n : ChanId) (raw : Nat) (e : Option Code) (s : State) :
    (postVisit n raw e s).pt = s.pt ∧
    (postVisit n raw e s).tick = s.tick ∧
    (postVisit n raw e s).timers = s.timers ∧
    (postVisit n raw e s).channels = s.channels ∧
    (postVisit n raw e s).search = s.search ∧
    (postVisit n raw e s).watches = s.watches ∧
    (postVisit n raw e s).climateCfg = s.climateCfg ∧
    (postVisit n raw e s).water = s.water ∧
    (postVisit n raw e s).climate = s.climate ∧
    (postVisit n raw e s).mode = s.mode ∧
    (postVisit n raw e s).alloc = s.alloc ∧
    (postVisit n raw e s).seq = s.seq ∧
    (postVisit n raw e s).cover = s.cover ∧
    (postVisit n raw e s).light = s.light ∧
    (postVisit n raw e s).restartPending = s.restartPending ∧
    (postVisit n raw e s).store = s.store ∧
    (postVisit n raw e s).pins = s.pins ∧
    (postVisit n raw e s).freeSeq = s.freeSeq ∧
    (postVisit n raw e s).pending = s.pending := by
  simp only [postVisit]; split <;> simp

@[simp] theorem scanChannel_frame (n : ChanId) (raw : Nat) (s : State) :
    (scanChannel n raw s).pt = s.pt ∧
    (scanChannel n raw s).tick = s.tick ∧
    (scanChannel n raw s).timers = s.timers ∧
    (scanChannel n raw s).search = s.search ∧
    (scanChannel n raw s).climateCfg = s.climateCfg ∧
    (scanChannel n raw s).water = s.water ∧
    (scanChannel n raw s).climate = s.climate ∧
    (scanChannel n raw s).mode = s.mode ∧
    (scanChannel n raw s).alloc = s.alloc ∧
    (scanChannel n raw s).seq = s.seq ∧
    (scanChannel n raw s).light = s.light ∧
    (scanChannel n raw s).restartPending = s.restartPending ∧
    (scanChannel n raw s).store = s.store ∧
    (scanChannel n raw s).pins = s.pins ∧
    (scanChannel n raw s).freeSeq = s.freeSeq ∧
    (scanChannel n raw s).pending = s.pending := by
  simp [scanChannel]

@[simp] theorem scanAll_frame (samples : Samples) (s : State) :
    (scanAll samples s).pt = s.pt ∧
    (scanAll samples s).tick = s.tick ∧
    (scanAll samples s).timers = s.timers ∧
    (scanAll samples s).search = s.search ∧
    (scanAll samples s).climateCfg = s.climateCfg ∧
    (scanAll samples s).water = s.water ∧
    (scanAll samples s).climate = s.climate ∧
    (scanAll samples s).mode = s.mode ∧
    (scanAll samples s).alloc = s.alloc ∧
    (scanAll samples s).seq = s.seq ∧
    (scanAll samples s).light = s.light ∧
    (scanAll samples s).restartPending = s.restartPending ∧
    (scanAll samples s).store = s.store ∧
    (scanAll samples s).pins = s.pins ∧
    (scanAll samples s).freeSeq = s.freeSeq ∧
    (scanAll samples s).pending = s.pending := by
  unfold scanAll
  generalize List.finRange 16 = l
  induction l generalizing s with
  | nil => simp
  | cons n l ih => simpa using ih (scanChannel n samples[n].toNat s)

@[simp] theorem clearSearch_frame (s : State) :
    (clearSearch s).pt = s.pt ∧
    (clearSearch s).tick = s.tick ∧
    (clearSearch s).timers = s.timers ∧
    (clearSearch s).channels = s.channels ∧
    (clearSearch s).watches = s.watches ∧
    (clearSearch s).climateCfg = s.climateCfg ∧
    (clearSearch s).water = s.water ∧
    (clearSearch s).climate = s.climate ∧
    (clearSearch s).mode = s.mode ∧
    (clearSearch s).alloc = s.alloc ∧
    (clearSearch s).seq = s.seq ∧
    (clearSearch s).cover = s.cover ∧
    (clearSearch s).light = s.light ∧
    (clearSearch s).ports = s.ports ∧
    (clearSearch s).restartPending = s.restartPending ∧
    (clearSearch s).store = s.store ∧
    (clearSearch s).pins = s.pins ∧
    (clearSearch s).freeSeq = s.freeSeq ∧
    (clearSearch s).pending = s.pending := by
  simp [clearSearch]

@[simp] theorem beginSearch_frame (n : ChanId) (s : State) :
    (beginSearch n s).pt = s.pt ∧
    (beginSearch n s).tick = s.tick ∧
    (beginSearch n s).timers = s.timers ∧
    (beginSearch n s).watches = s.watches ∧
    (beginSearch n s).climateCfg = s.climateCfg ∧
    (beginSearch n s).water = s.water ∧
    (beginSearch n s).climate = s.climate ∧
    (beginSearch n s).mode = s.mode ∧
    (beginSearch n s).alloc = s.alloc ∧
    (beginSearch n s).seq = s.seq ∧
    (beginSearch n s).cover = s.cover ∧
    (beginSearch n s).light = s.light ∧
    (beginSearch n s).ports = s.ports ∧
    (beginSearch n s).restartPending = s.restartPending ∧
    (beginSearch n s).store = s.store ∧
    (beginSearch n s).pins = s.pins ∧
    (beginSearch n s).freeSeq = s.freeSeq ∧
    (beginSearch n s).pending = s.pending := by
  simp [beginSearch]

@[simp] theorem completeSearch_frame (r : Search) (code : Nat) (s : State) :
    (completeSearch r code s).pt = s.pt ∧
    (completeSearch r code s).tick = s.tick ∧
    (completeSearch r code s).timers = s.timers ∧
    (completeSearch r code s).watches = s.watches ∧
    (completeSearch r code s).climateCfg = s.climateCfg ∧
    (completeSearch r code s).water = s.water ∧
    (completeSearch r code s).climate = s.climate ∧
    (completeSearch r code s).mode = s.mode ∧
    (completeSearch r code s).alloc = s.alloc ∧
    (completeSearch r code s).seq = s.seq ∧
    (completeSearch r code s).cover = s.cover ∧
    (completeSearch r code s).light = s.light ∧
    (completeSearch r code s).restartPending = s.restartPending ∧
    (completeSearch r code s).store = s.store ∧
    (completeSearch r code s).pins = s.pins ∧
    (completeSearch r code s).freeSeq = s.freeSeq ∧
    (completeSearch r code s).pending = s.pending := by
  simp [completeSearch]

@[simp] theorem searchStep_frame (above : Bool) (r : Search) (s : State) :
    (searchStep above r s).pt = s.pt ∧
    (searchStep above r s).tick = s.tick ∧
    (searchStep above r s).timers = s.timers ∧
    (searchStep above r s).watches = s.watches ∧
    (searchStep above r s).climateCfg = s.climateCfg ∧
    (searchStep above r s).water = s.water ∧
    (searchStep above r s).climate = s.climate ∧
    (searchStep above r s).mode = s.mode ∧
    (searchStep above r s).alloc = s.alloc ∧
    (searchStep above r s).seq = s.seq ∧
    (searchStep above r s).cover = s.cover ∧
    (searchStep above r s).light = s.light ∧
    (searchStep above r s).restartPending = s.restartPending ∧
    (searchStep above r s).store = s.store ∧
    (searchStep above r s).pins = s.pins ∧
    (searchStep above r s).freeSeq = s.freeSeq ∧
    (searchStep above r s).pending = s.pending := by
  unfold searchStep; cases r.bit <;> simp

@[simp] theorem abortSearch_frame (n : ChanId) (s : State) :
    (abortSearch n s).pt = s.pt ∧
    (abortSearch n s).tick = s.tick ∧
    (abortSearch n s).timers = s.timers ∧
    (abortSearch n s).watches = s.watches ∧
    (abortSearch n s).climateCfg = s.climateCfg ∧
    (abortSearch n s).water = s.water ∧
    (abortSearch n s).climate = s.climate ∧
    (abortSearch n s).mode = s.mode ∧
    (abortSearch n s).alloc = s.alloc ∧
    (abortSearch n s).seq = s.seq ∧
    (abortSearch n s).cover = s.cover ∧
    (abortSearch n s).light = s.light ∧
    (abortSearch n s).ports = s.ports ∧
    (abortSearch n s).restartPending = s.restartPending ∧
    (abortSearch n s).store = s.store ∧
    (abortSearch n s).pins = s.pins ∧
    (abortSearch n s).freeSeq = s.freeSeq ∧
    (abortSearch n s).pending = s.pending := by
  simp only [abortSearch]; (repeat' split) <;> simp

@[simp] theorem releaseClaim_frame (old : Channel) (k : Kind) (z : Nat) (s : State) :
    (releaseClaim old k z s).pt = s.pt ∧
    (releaseClaim old k z s).tick = s.tick ∧
    (releaseClaim old k z s).timers = s.timers ∧
    (releaseClaim old k z s).search = s.search ∧
    (releaseClaim old k z s).watches = s.watches ∧
    (releaseClaim old k z s).climateCfg = s.climateCfg ∧
    (releaseClaim old k z s).water = s.water ∧
    (releaseClaim old k z s).climate = s.climate ∧
    (releaseClaim old k z s).mode = s.mode ∧
    (releaseClaim old k z s).alloc = s.alloc ∧
    (releaseClaim old k z s).seq = s.seq ∧
    (releaseClaim old k z s).cover = s.cover ∧
    (releaseClaim old k z s).light = s.light ∧
    (releaseClaim old k z s).ports = s.ports ∧
    (releaseClaim old k z s).restartPending = s.restartPending ∧
    (releaseClaim old k z s).store = s.store ∧
    (releaseClaim old k z s).pins = s.pins ∧
    (releaseClaim old k z s).freeSeq = s.freeSeq ∧
    (releaseClaim old k z s).pending = s.pending := by
  simp only [releaseClaim]; (repeat' split) <;> simp

@[simp] theorem writeWatch_frame (i : Fin 8) (cfg : WatchCfg) (s : State) :
    (writeWatch i cfg s).pt = s.pt ∧
    (writeWatch i cfg s).tick = s.tick ∧
    (writeWatch i cfg s).timers = s.timers ∧
    (writeWatch i cfg s).channels = s.channels ∧
    (writeWatch i cfg s).search = s.search ∧
    (writeWatch i cfg s).climateCfg = s.climateCfg ∧
    (writeWatch i cfg s).water = s.water ∧
    (writeWatch i cfg s).climate = s.climate ∧
    (writeWatch i cfg s).mode = s.mode ∧
    (writeWatch i cfg s).alloc = s.alloc ∧
    (writeWatch i cfg s).seq = s.seq ∧
    (writeWatch i cfg s).light = s.light ∧
    (writeWatch i cfg s).restartPending = s.restartPending ∧
    (writeWatch i cfg s).store = s.store ∧
    (writeWatch i cfg s).pins = s.pins ∧
    (writeWatch i cfg s).freeSeq = s.freeSeq ∧
    (writeWatch i cfg s).pending = s.pending := by
  simp only [writeWatch]; (repeat' split) <;> simp

@[simp] theorem postReleased_frame (k : Layer) (st : Standing) (s : State) :
    (postReleased k st s).pt = s.pt ∧
    (postReleased k st s).tick = s.tick ∧
    (postReleased k st s).timers = s.timers ∧
    (postReleased k st s).channels = s.channels ∧
    (postReleased k st s).search = s.search ∧
    (postReleased k st s).watches = s.watches ∧
    (postReleased k st s).climateCfg = s.climateCfg ∧
    (postReleased k st s).water = s.water ∧
    (postReleased k st s).climate = s.climate ∧
    (postReleased k st s).mode = s.mode ∧
    (postReleased k st s).alloc = s.alloc ∧
    (postReleased k st s).seq = s.seq ∧
    (postReleased k st s).cover = s.cover ∧
    (postReleased k st s).light = s.light ∧
    (postReleased k st s).restartPending = s.restartPending ∧
    (postReleased k st s).store = s.store ∧
    (postReleased k st s).pins = s.pins ∧
    (postReleased k st s).freeSeq = s.freeSeq ∧
    (postReleased k st s).pending = s.pending := by
  simp [postReleased]

@[simp] theorem silenceLayer_frame (k : Layer) (s : State) :
    (silenceLayer k s).pt = s.pt ∧
    (silenceLayer k s).tick = s.tick ∧
    (silenceLayer k s).timers = s.timers ∧
    (silenceLayer k s).channels = s.channels ∧
    (silenceLayer k s).search = s.search ∧
    (silenceLayer k s).watches = s.watches ∧
    (silenceLayer k s).climateCfg = s.climateCfg ∧
    (silenceLayer k s).water = s.water ∧
    (silenceLayer k s).climate = s.climate ∧
    (silenceLayer k s).mode = s.mode ∧
    (silenceLayer k s).alloc = s.alloc ∧
    (silenceLayer k s).seq = s.seq ∧
    (silenceLayer k s).cover = s.cover ∧
    (silenceLayer k s).restartPending = s.restartPending ∧
    (silenceLayer k s).store = s.store ∧
    (silenceLayer k s).pins = s.pins ∧
    (silenceLayer k s).freeSeq = s.freeSeq ∧
    (silenceLayer k s).pending = s.pending := by
  simp only [silenceLayer]; split <;> simp

@[simp] theorem postAllReleased_frame (rs : List (Layer × Standing)) (s : State) :
    (postAllReleased rs s).pt = s.pt ∧
    (postAllReleased rs s).tick = s.tick ∧
    (postAllReleased rs s).timers = s.timers ∧
    (postAllReleased rs s).channels = s.channels ∧
    (postAllReleased rs s).search = s.search ∧
    (postAllReleased rs s).watches = s.watches ∧
    (postAllReleased rs s).climateCfg = s.climateCfg ∧
    (postAllReleased rs s).water = s.water ∧
    (postAllReleased rs s).climate = s.climate ∧
    (postAllReleased rs s).mode = s.mode ∧
    (postAllReleased rs s).alloc = s.alloc ∧
    (postAllReleased rs s).seq = s.seq ∧
    (postAllReleased rs s).cover = s.cover ∧
    (postAllReleased rs s).light = s.light ∧
    (postAllReleased rs s).restartPending = s.restartPending ∧
    (postAllReleased rs s).store = s.store ∧
    (postAllReleased rs s).pins = s.pins ∧
    (postAllReleased rs s).freeSeq = s.freeSeq ∧
    (postAllReleased rs s).pending = s.pending := by
  unfold postAllReleased
  induction rs generalizing s with
  | nil => simp
  | cons r rs ih => simpa using ih (postReleased r.1 r.2 s)

@[simp] theorem lightModeEvent_frame (new : Mode) (s : State) :
    (lightModeEvent new s).pt = s.pt ∧
    (lightModeEvent new s).tick = s.tick ∧
    (lightModeEvent new s).timers = s.timers ∧
    (lightModeEvent new s).channels = s.channels ∧
    (lightModeEvent new s).search = s.search ∧
    (lightModeEvent new s).watches = s.watches ∧
    (lightModeEvent new s).climateCfg = s.climateCfg ∧
    (lightModeEvent new s).water = s.water ∧
    (lightModeEvent new s).climate = s.climate ∧
    (lightModeEvent new s).mode = s.mode ∧
    (lightModeEvent new s).alloc = s.alloc ∧
    (lightModeEvent new s).seq = s.seq ∧
    (lightModeEvent new s).cover = s.cover ∧
    (lightModeEvent new s).restartPending = s.restartPending ∧
    (lightModeEvent new s).store = s.store ∧
    (lightModeEvent new s).pins = s.pins ∧
    (lightModeEvent new s).freeSeq = s.freeSeq ∧
    (lightModeEvent new s).pending = s.pending := by
  simp only [lightModeEvent]; split <;> simp

@[simp] theorem fillSafety_frame (s : State) :
    (fillSafety s).pt = s.pt ∧
    (fillSafety s).tick = s.tick ∧
    (fillSafety s).timers = s.timers ∧
    (fillSafety s).channels = s.channels ∧
    (fillSafety s).search = s.search ∧
    (fillSafety s).watches = s.watches ∧
    (fillSafety s).climateCfg = s.climateCfg ∧
    (fillSafety s).water = s.water ∧
    (fillSafety s).climate = s.climate ∧
    (fillSafety s).mode = s.mode ∧
    (fillSafety s).alloc = s.alloc ∧
    (fillSafety s).seq = s.seq ∧
    (fillSafety s).cover = s.cover ∧
    (fillSafety s).ports = s.ports ∧
    (fillSafety s).restartPending = s.restartPending ∧
    (fillSafety s).store = s.store ∧
    (fillSafety s).pins = s.pins ∧
    (fillSafety s).freeSeq = s.freeSeq ∧
    (fillSafety s).pending = s.pending := by
  simp [fillSafety]

@[simp] theorem emptySafety_frame (s : State) :
    (emptySafety s).pt = s.pt ∧
    (emptySafety s).tick = s.tick ∧
    (emptySafety s).timers = s.timers ∧
    (emptySafety s).channels = s.channels ∧
    (emptySafety s).search = s.search ∧
    (emptySafety s).watches = s.watches ∧
    (emptySafety s).climateCfg = s.climateCfg ∧
    (emptySafety s).water = s.water ∧
    (emptySafety s).climate = s.climate ∧
    (emptySafety s).mode = s.mode ∧
    (emptySafety s).alloc = s.alloc ∧
    (emptySafety s).seq = s.seq ∧
    (emptySafety s).cover = s.cover ∧
    (emptySafety s).ports = s.ports ∧
    (emptySafety s).restartPending = s.restartPending ∧
    (emptySafety s).store = s.store ∧
    (emptySafety s).pins = s.pins ∧
    (emptySafety s).freeSeq = s.freeSeq ∧
    (emptySafety s).pending = s.pending := by
  simp only [emptySafety]; split <;> simp

@[simp] theorem takeLtGrant_frame (g : Nat) (s : State) :
    (takeLtGrant g s).pt = s.pt ∧
    (takeLtGrant g s).tick = s.tick ∧
    (takeLtGrant g s).timers = s.timers ∧
    (takeLtGrant g s).channels = s.channels ∧
    (takeLtGrant g s).search = s.search ∧
    (takeLtGrant g s).watches = s.watches ∧
    (takeLtGrant g s).climateCfg = s.climateCfg ∧
    (takeLtGrant g s).water = s.water ∧
    (takeLtGrant g s).climate = s.climate ∧
    (takeLtGrant g s).mode = s.mode ∧
    (takeLtGrant g s).alloc = s.alloc ∧
    (takeLtGrant g s).seq = s.seq ∧
    (takeLtGrant g s).cover = s.cover ∧
    (takeLtGrant g s).ports = s.ports ∧
    (takeLtGrant g s).restartPending = s.restartPending ∧
    (takeLtGrant g s).store = s.store ∧
    (takeLtGrant g s).pins = s.pins ∧
    (takeLtGrant g s).freeSeq = s.freeSeq ∧
    (takeLtGrant g s).pending = s.pending := by
  simp [takeLtGrant]

@[simp] theorem editScene_frame (n : Fin 32) (new : Scene) (s : State) :
    (editScene n new s).pt = s.pt ∧
    (editScene n new s).tick = s.tick ∧
    (editScene n new s).timers = s.timers ∧
    (editScene n new s).channels = s.channels ∧
    (editScene n new s).search = s.search ∧
    (editScene n new s).watches = s.watches ∧
    (editScene n new s).climateCfg = s.climateCfg ∧
    (editScene n new s).water = s.water ∧
    (editScene n new s).climate = s.climate ∧
    (editScene n new s).mode = s.mode ∧
    (editScene n new s).alloc = s.alloc ∧
    (editScene n new s).seq = s.seq ∧
    (editScene n new s).cover = s.cover ∧
    (editScene n new s).restartPending = s.restartPending ∧
    (editScene n new s).store = s.store ∧
    (editScene n new s).pins = s.pins ∧
    (editScene n new s).freeSeq = s.freeSeq ∧
    (editScene n new s).pending = s.pending := by
  simp only [editScene]; split <;> simp

@[simp] theorem stopComp_frame (i : CompId) (cause : Nat) (s : State) :
    (stopComp i cause s).pt = s.pt ∧
    (stopComp i cause s).tick = s.tick ∧
    (stopComp i cause s).timers = s.timers ∧
    (stopComp i cause s).channels = s.channels ∧
    (stopComp i cause s).search = s.search ∧
    (stopComp i cause s).watches = s.watches ∧
    (stopComp i cause s).climateCfg = s.climateCfg ∧
    (stopComp i cause s).water = s.water ∧
    (stopComp i cause s).climate = s.climate ∧
    (stopComp i cause s).mode = s.mode ∧
    (stopComp i cause s).alloc = s.alloc ∧
    (stopComp i cause s).cover = s.cover ∧
    (stopComp i cause s).light = s.light ∧
    (stopComp i cause s).restartPending = s.restartPending ∧
    (stopComp i cause s).store = s.store ∧
    (stopComp i cause s).pins = s.pins ∧
    (stopComp i cause s).freeSeq = s.freeSeq ∧
    (stopComp i cause s).pending = s.pending := by
  simp [stopComp]

@[simp] theorem forceStop_frame (i : CompId) (cause : Nat) (s : State) :
    (forceStop i cause s).pt = s.pt ∧
    (forceStop i cause s).tick = s.tick ∧
    (forceStop i cause s).timers = s.timers ∧
    (forceStop i cause s).channels = s.channels ∧
    (forceStop i cause s).search = s.search ∧
    (forceStop i cause s).watches = s.watches ∧
    (forceStop i cause s).climateCfg = s.climateCfg ∧
    (forceStop i cause s).water = s.water ∧
    (forceStop i cause s).climate = s.climate ∧
    (forceStop i cause s).mode = s.mode ∧
    (forceStop i cause s).alloc = s.alloc ∧
    (forceStop i cause s).cover = s.cover ∧
    (forceStop i cause s).light = s.light ∧
    (forceStop i cause s).restartPending = s.restartPending ∧
    (forceStop i cause s).store = s.store ∧
    (forceStop i cause s).pins = s.pins ∧
    (forceStop i cause s).freeSeq = s.freeSeq ∧
    (forceStop i cause s).pending = s.pending := by
  simp only [forceStop]; split <;> simp

@[simp] theorem startComp_frame (i : CompId) (h : List Word) (s : State) :
    (startComp i h s).pt = s.pt ∧
    (startComp i h s).tick = s.tick ∧
    (startComp i h s).timers = s.timers ∧
    (startComp i h s).channels = s.channels ∧
    (startComp i h s).search = s.search ∧
    (startComp i h s).watches = s.watches ∧
    (startComp i h s).climateCfg = s.climateCfg ∧
    (startComp i h s).water = s.water ∧
    (startComp i h s).climate = s.climate ∧
    (startComp i h s).mode = s.mode ∧
    (startComp i h s).alloc = s.alloc ∧
    (startComp i h s).cover = s.cover ∧
    (startComp i h s).light = s.light ∧
    (startComp i h s).restartPending = s.restartPending ∧
    (startComp i h s).store = s.store ∧
    (startComp i h s).pins = s.pins ∧
    (startComp i h s).freeSeq = s.freeSeq ∧
    (startComp i h s).pending = s.pending := by
  simp [startComp]

@[simp] theorem blockComp_frame (i : CompId) (h : List Word) (s : State) :
    (blockComp i h s).pt = s.pt ∧
    (blockComp i h s).tick = s.tick ∧
    (blockComp i h s).timers = s.timers ∧
    (blockComp i h s).channels = s.channels ∧
    (blockComp i h s).search = s.search ∧
    (blockComp i h s).watches = s.watches ∧
    (blockComp i h s).climateCfg = s.climateCfg ∧
    (blockComp i h s).water = s.water ∧
    (blockComp i h s).climate = s.climate ∧
    (blockComp i h s).mode = s.mode ∧
    (blockComp i h s).alloc = s.alloc ∧
    (blockComp i h s).cover = s.cover ∧
    (blockComp i h s).light = s.light ∧
    (blockComp i h s).restartPending = s.restartPending ∧
    (blockComp i h s).store = s.store ∧
    (blockComp i h s).pins = s.pins ∧
    (blockComp i h s).pending = s.pending := by
  unfold blockComp
  by_cases hb : s.seq.comps[i].blocked = true
  · simp only [hb, if_true, setComp_frame, and_self]
  · cases h <;> simp only [hb, if_false, Bool.false_eq_true, post_frame, setComp_frame, and_self]

@[simp] theorem startTest_frame (i : CompId) (s : State) :
    (startTest i s).pt = s.pt ∧
    (startTest i s).tick = s.tick ∧
    (startTest i s).timers = s.timers ∧
    (startTest i s).channels = s.channels ∧
    (startTest i s).search = s.search ∧
    (startTest i s).watches = s.watches ∧
    (startTest i s).climateCfg = s.climateCfg ∧
    (startTest i s).water = s.water ∧
    (startTest i s).climate = s.climate ∧
    (startTest i s).mode = s.mode ∧
    (startTest i s).alloc = s.alloc ∧
    (startTest i s).cover = s.cover ∧
    (startTest i s).light = s.light ∧
    (startTest i s).restartPending = s.restartPending ∧
    (startTest i s).store = s.store ∧
    (startTest i s).pins = s.pins ∧
    (startTest i s).pending = s.pending := by
  simp only [startTest]; (repeat' split) <;> simp

@[simp] theorem startTests_frame (s : State) :
    (startTests s).pt = s.pt ∧
    (startTests s).tick = s.tick ∧
    (startTests s).timers = s.timers ∧
    (startTests s).channels = s.channels ∧
    (startTests s).search = s.search ∧
    (startTests s).watches = s.watches ∧
    (startTests s).climateCfg = s.climateCfg ∧
    (startTests s).water = s.water ∧
    (startTests s).climate = s.climate ∧
    (startTests s).mode = s.mode ∧
    (startTests s).alloc = s.alloc ∧
    (startTests s).cover = s.cover ∧
    (startTests s).light = s.light ∧
    (startTests s).restartPending = s.restartPending ∧
    (startTests s).store = s.store ∧
    (startTests s).pins = s.pins ∧
    (startTests s).pending = s.pending := by
  simp [startTests]

@[simp] theorem refreshLimit_frame (i : CompId) (old : Nat) (s : State) :
    (refreshLimit i old s).pt = s.pt ∧
    (refreshLimit i old s).tick = s.tick ∧
    (refreshLimit i old s).timers = s.timers ∧
    (refreshLimit i old s).channels = s.channels ∧
    (refreshLimit i old s).search = s.search ∧
    (refreshLimit i old s).watches = s.watches ∧
    (refreshLimit i old s).climateCfg = s.climateCfg ∧
    (refreshLimit i old s).water = s.water ∧
    (refreshLimit i old s).climate = s.climate ∧
    (refreshLimit i old s).mode = s.mode ∧
    (refreshLimit i old s).alloc = s.alloc ∧
    (refreshLimit i old s).cover = s.cover ∧
    (refreshLimit i old s).light = s.light ∧
    (refreshLimit i old s).restartPending = s.restartPending ∧
    (refreshLimit i old s).store = s.store ∧
    (refreshLimit i old s).pins = s.pins ∧
    (refreshLimit i old s).pending = s.pending := by
  simp only [refreshLimit]; split <;> simp

@[simp] theorem refreshLimits_frame (before : State) (s : State) :
    (refreshLimits before s).pt = s.pt ∧
    (refreshLimits before s).tick = s.tick ∧
    (refreshLimits before s).timers = s.timers ∧
    (refreshLimits before s).channels = s.channels ∧
    (refreshLimits before s).search = s.search ∧
    (refreshLimits before s).watches = s.watches ∧
    (refreshLimits before s).climateCfg = s.climateCfg ∧
    (refreshLimits before s).water = s.water ∧
    (refreshLimits before s).climate = s.climate ∧
    (refreshLimits before s).mode = s.mode ∧
    (refreshLimits before s).alloc = s.alloc ∧
    (refreshLimits before s).cover = s.cover ∧
    (refreshLimits before s).light = s.light ∧
    (refreshLimits before s).restartPending = s.restartPending ∧
    (refreshLimits before s).store = s.store ∧
    (refreshLimits before s).pins = s.pins ∧
    (refreshLimits before s).pending = s.pending := by
  simp [refreshLimits]

@[simp] theorem heatersOn_frame (s : State) :
    (heatersOn s).pt = s.pt ∧
    (heatersOn s).tick = s.tick ∧
    (heatersOn s).timers = s.timers ∧
    (heatersOn s).channels = s.channels ∧
    (heatersOn s).search = s.search ∧
    (heatersOn s).watches = s.watches ∧
    (heatersOn s).climateCfg = s.climateCfg ∧
    (heatersOn s).water = s.water ∧
    (heatersOn s).climate = s.climate ∧
    (heatersOn s).mode = s.mode ∧
    (heatersOn s).alloc = s.alloc ∧
    (heatersOn s).cover = s.cover ∧
    (heatersOn s).light = s.light ∧
    (heatersOn s).ports = s.ports ∧
    (heatersOn s).restartPending = s.restartPending ∧
    (heatersOn s).store = s.store ∧
    (heatersOn s).pins = s.pins ∧
    (heatersOn s).freeSeq = s.freeSeq ∧
    (heatersOn s).pending = s.pending := by
  simp [heatersOn]

@[simp] theorem heatersGranted_frame (s : State) :
    (heatersGranted s).pt = s.pt ∧
    (heatersGranted s).tick = s.tick ∧
    (heatersGranted s).timers = s.timers ∧
    (heatersGranted s).channels = s.channels ∧
    (heatersGranted s).search = s.search ∧
    (heatersGranted s).watches = s.watches ∧
    (heatersGranted s).climateCfg = s.climateCfg ∧
    (heatersGranted s).water = s.water ∧
    (heatersGranted s).climate = s.climate ∧
    (heatersGranted s).mode = s.mode ∧
    (heatersGranted s).alloc = s.alloc ∧
    (heatersGranted s).cover = s.cover ∧
    (heatersGranted s).light = s.light ∧
    (heatersGranted s).ports = s.ports ∧
    (heatersGranted s).restartPending = s.restartPending ∧
    (heatersGranted s).store = s.store ∧
    (heatersGranted s).pins = s.pins ∧
    (heatersGranted s).freeSeq = s.freeSeq ∧
    (heatersGranted s).pending = s.pending := by
  simp [heatersGranted]

@[simp] theorem stopUngranted_frame (i : CompId) (s : State) :
    (stopUngranted i s).pt = s.pt ∧
    (stopUngranted i s).tick = s.tick ∧
    (stopUngranted i s).timers = s.timers ∧
    (stopUngranted i s).channels = s.channels ∧
    (stopUngranted i s).search = s.search ∧
    (stopUngranted i s).watches = s.watches ∧
    (stopUngranted i s).climateCfg = s.climateCfg ∧
    (stopUngranted i s).water = s.water ∧
    (stopUngranted i s).climate = s.climate ∧
    (stopUngranted i s).mode = s.mode ∧
    (stopUngranted i s).alloc = s.alloc ∧
    (stopUngranted i s).cover = s.cover ∧
    (stopUngranted i s).light = s.light ∧
    (stopUngranted i s).restartPending = s.restartPending ∧
    (stopUngranted i s).store = s.store ∧
    (stopUngranted i s).pins = s.pins ∧
    (stopUngranted i s).freeSeq = s.freeSeq ∧
    (stopUngranted i s).pending = s.pending := by
  simp only [stopUngranted]; split <;> simp

@[simp] theorem setLines_frame (s : State) :
    (setLines s).pt = s.pt ∧
    (setLines s).tick = s.tick ∧
    (setLines s).timers = s.timers ∧
    (setLines s).channels = s.channels ∧
    (setLines s).search = s.search ∧
    (setLines s).watches = s.watches ∧
    (setLines s).climateCfg = s.climateCfg ∧
    (setLines s).water = s.water ∧
    (setLines s).climate = s.climate ∧
    (setLines s).mode = s.mode ∧
    (setLines s).alloc = s.alloc ∧
    (setLines s).cover = s.cover ∧
    (setLines s).light = s.light ∧
    (setLines s).ports = s.ports ∧
    (setLines s).restartPending = s.restartPending ∧
    (setLines s).store = s.store ∧
    (setLines s).pins = s.pins ∧
    (setLines s).freeSeq = s.freeSeq ∧
    (setLines s).pending = s.pending := by
  simp [setLines]

@[simp] theorem grantEvent_frame (g : Grants) (s : State) :
    (grantEvent g s).pt = s.pt ∧
    (grantEvent g s).tick = s.tick ∧
    (grantEvent g s).timers = s.timers ∧
    (grantEvent g s).channels = s.channels ∧
    (grantEvent g s).search = s.search ∧
    (grantEvent g s).watches = s.watches ∧
    (grantEvent g s).climateCfg = s.climateCfg ∧
    (grantEvent g s).water = s.water ∧
    (grantEvent g s).climate = s.climate ∧
    (grantEvent g s).mode = s.mode ∧
    (grantEvent g s).alloc = s.alloc ∧
    (grantEvent g s).cover = s.cover ∧
    (grantEvent g s).light = s.light ∧
    (grantEvent g s).restartPending = s.restartPending ∧
    (grantEvent g s).store = s.store ∧
    (grantEvent g s).pins = s.pins ∧
    (grantEvent g s).pending = s.pending := by
  simp [grantEvent]

@[simp] theorem minOffEnd_frame (i : CompId) (s : State) :
    (minOffEnd i s).pt = s.pt ∧
    (minOffEnd i s).tick = s.tick ∧
    (minOffEnd i s).timers = s.timers ∧
    (minOffEnd i s).channels = s.channels ∧
    (minOffEnd i s).search = s.search ∧
    (minOffEnd i s).watches = s.watches ∧
    (minOffEnd i s).climateCfg = s.climateCfg ∧
    (minOffEnd i s).water = s.water ∧
    (minOffEnd i s).climate = s.climate ∧
    (minOffEnd i s).mode = s.mode ∧
    (minOffEnd i s).alloc = s.alloc ∧
    (minOffEnd i s).cover = s.cover ∧
    (minOffEnd i s).light = s.light ∧
    (minOffEnd i s).restartPending = s.restartPending ∧
    (minOffEnd i s).store = s.store ∧
    (minOffEnd i s).pins = s.pins ∧
    (minOffEnd i s).pending = s.pending := by
  simp [minOffEnd]

@[simp] theorem minOnEnd_frame (i : CompId) (s : State) :
    (minOnEnd i s).pt = s.pt ∧
    (minOnEnd i s).tick = s.tick ∧
    (minOnEnd i s).timers = s.timers ∧
    (minOnEnd i s).channels = s.channels ∧
    (minOnEnd i s).search = s.search ∧
    (minOnEnd i s).watches = s.watches ∧
    (minOnEnd i s).climateCfg = s.climateCfg ∧
    (minOnEnd i s).water = s.water ∧
    (minOnEnd i s).climate = s.climate ∧
    (minOnEnd i s).mode = s.mode ∧
    (minOnEnd i s).alloc = s.alloc ∧
    (minOnEnd i s).cover = s.cover ∧
    (minOnEnd i s).light = s.light ∧
    (minOnEnd i s).restartPending = s.restartPending ∧
    (minOnEnd i s).store = s.store ∧
    (minOnEnd i s).pins = s.pins ∧
    (minOnEnd i s).freeSeq = s.freeSeq ∧
    (minOnEnd i s).pending = s.pending := by
  simp only [minOnEnd]; split <;> simp

@[simp] theorem seqSecond_frame (s : State) :
    (seqSecond s).pt = s.pt ∧
    (seqSecond s).tick = s.tick ∧
    (seqSecond s).timers = s.timers ∧
    (seqSecond s).channels = s.channels ∧
    (seqSecond s).search = s.search ∧
    (seqSecond s).watches = s.watches ∧
    (seqSecond s).climateCfg = s.climateCfg ∧
    (seqSecond s).water = s.water ∧
    (seqSecond s).climate = s.climate ∧
    (seqSecond s).mode = s.mode ∧
    (seqSecond s).alloc = s.alloc ∧
    (seqSecond s).cover = s.cover ∧
    (seqSecond s).light = s.light ∧
    (seqSecond s).restartPending = s.restartPending ∧
    (seqSecond s).store = s.store ∧
    (seqSecond s).pins = s.pins ∧
    (seqSecond s).pending = s.pending := by
  simp [seqSecond]

@[simp] theorem proofLoss_frame (s : State) :
    (proofLoss s).pt = s.pt ∧
    (proofLoss s).tick = s.tick ∧
    (proofLoss s).timers = s.timers ∧
    (proofLoss s).channels = s.channels ∧
    (proofLoss s).search = s.search ∧
    (proofLoss s).watches = s.watches ∧
    (proofLoss s).climateCfg = s.climateCfg ∧
    (proofLoss s).water = s.water ∧
    (proofLoss s).climate = s.climate ∧
    (proofLoss s).mode = s.mode ∧
    (proofLoss s).alloc = s.alloc ∧
    (proofLoss s).cover = s.cover ∧
    (proofLoss s).light = s.light ∧
    (proofLoss s).restartPending = s.restartPending ∧
    (proofLoss s).store = s.store ∧
    (proofLoss s).pins = s.pins ∧
    (proofLoss s).freeSeq = s.freeSeq ∧
    (proofLoss s).pending = s.pending := by
  simp [proofLoss]

@[simp] theorem proofFail_frame (s : State) :
    (proofFail s).pt = s.pt ∧
    (proofFail s).tick = s.tick ∧
    (proofFail s).timers = s.timers ∧
    (proofFail s).channels = s.channels ∧
    (proofFail s).search = s.search ∧
    (proofFail s).watches = s.watches ∧
    (proofFail s).climateCfg = s.climateCfg ∧
    (proofFail s).water = s.water ∧
    (proofFail s).climate = s.climate ∧
    (proofFail s).mode = s.mode ∧
    (proofFail s).alloc = s.alloc ∧
    (proofFail s).cover = s.cover ∧
    (proofFail s).light = s.light ∧
    (proofFail s).restartPending = s.restartPending ∧
    (proofFail s).store = s.store ∧
    (proofFail s).pins = s.pins ∧
    (proofFail s).freeSeq = s.freeSeq ∧
    (proofFail s).pending = s.pending := by
  simp only [proofFail]; split <;> simp

@[simp] theorem acceptInterlockOn_frame (s : State) :
    (acceptInterlockOn s).pt = s.pt ∧
    (acceptInterlockOn s).tick = s.tick ∧
    (acceptInterlockOn s).timers = s.timers ∧
    (acceptInterlockOn s).channels = s.channels ∧
    (acceptInterlockOn s).search = s.search ∧
    (acceptInterlockOn s).watches = s.watches ∧
    (acceptInterlockOn s).climateCfg = s.climateCfg ∧
    (acceptInterlockOn s).water = s.water ∧
    (acceptInterlockOn s).climate = s.climate ∧
    (acceptInterlockOn s).mode = s.mode ∧
    (acceptInterlockOn s).alloc = s.alloc ∧
    (acceptInterlockOn s).cover = s.cover ∧
    (acceptInterlockOn s).restartPending = s.restartPending ∧
    (acceptInterlockOn s).store = s.store ∧
    (acceptInterlockOn s).pins = s.pins ∧
    (acceptInterlockOn s).freeSeq = s.freeSeq ∧
    (acceptInterlockOn s).pending = s.pending := by
  simp [acceptInterlockOn]

@[simp] theorem acceptInterlockOff_frame (s : State) :
    (acceptInterlockOff s).pt = s.pt ∧
    (acceptInterlockOff s).tick = s.tick ∧
    (acceptInterlockOff s).timers = s.timers ∧
    (acceptInterlockOff s).channels = s.channels ∧
    (acceptInterlockOff s).search = s.search ∧
    (acceptInterlockOff s).watches = s.watches ∧
    (acceptInterlockOff s).climateCfg = s.climateCfg ∧
    (acceptInterlockOff s).water = s.water ∧
    (acceptInterlockOff s).climate = s.climate ∧
    (acceptInterlockOff s).mode = s.mode ∧
    (acceptInterlockOff s).alloc = s.alloc ∧
    (acceptInterlockOff s).cover = s.cover ∧
    (acceptInterlockOff s).restartPending = s.restartPending ∧
    (acceptInterlockOff s).store = s.store ∧
    (acceptInterlockOff s).pins = s.pins ∧
    (acceptInterlockOff s).freeSeq = s.freeSeq ∧
    (acceptInterlockOff s).pending = s.pending := by
  simp [acceptInterlockOff]

@[simp] theorem acceptCoverLimit_frame (level : Bool) (s : State) :
    (acceptCoverLimit level s).pt = s.pt ∧
    (acceptCoverLimit level s).tick = s.tick ∧
    (acceptCoverLimit level s).timers = s.timers ∧
    (acceptCoverLimit level s).channels = s.channels ∧
    (acceptCoverLimit level s).search = s.search ∧
    (acceptCoverLimit level s).watches = s.watches ∧
    (acceptCoverLimit level s).climateCfg = s.climateCfg ∧
    (acceptCoverLimit level s).water = s.water ∧
    (acceptCoverLimit level s).climate = s.climate ∧
    (acceptCoverLimit level s).mode = s.mode ∧
    (acceptCoverLimit level s).alloc = s.alloc ∧
    (acceptCoverLimit level s).light = s.light ∧
    (acceptCoverLimit level s).restartPending = s.restartPending ∧
    (acceptCoverLimit level s).store = s.store ∧
    (acceptCoverLimit level s).pins = s.pins ∧
    (acceptCoverLimit level s).freeSeq = s.freeSeq ∧
    (acceptCoverLimit level s).pending = s.pending := by
  simp [acceptCoverLimit]

@[simp] theorem acceptProofActive_frame (s : State) :
    (acceptProofActive s).pt = s.pt ∧
    (acceptProofActive s).tick = s.tick ∧
    (acceptProofActive s).timers = s.timers ∧
    (acceptProofActive s).channels = s.channels ∧
    (acceptProofActive s).search = s.search ∧
    (acceptProofActive s).watches = s.watches ∧
    (acceptProofActive s).climateCfg = s.climateCfg ∧
    (acceptProofActive s).water = s.water ∧
    (acceptProofActive s).climate = s.climate ∧
    (acceptProofActive s).mode = s.mode ∧
    (acceptProofActive s).alloc = s.alloc ∧
    (acceptProofActive s).cover = s.cover ∧
    (acceptProofActive s).light = s.light ∧
    (acceptProofActive s).restartPending = s.restartPending ∧
    (acceptProofActive s).store = s.store ∧
    (acceptProofActive s).pins = s.pins ∧
    (acceptProofActive s).pending = s.pending := by
  simp [acceptProofActive]

@[simp] theorem acceptProofInactive_frame (s : State) :
    (acceptProofInactive s).pt = s.pt ∧
    (acceptProofInactive s).tick = s.tick ∧
    (acceptProofInactive s).timers = s.timers ∧
    (acceptProofInactive s).channels = s.channels ∧
    (acceptProofInactive s).search = s.search ∧
    (acceptProofInactive s).watches = s.watches ∧
    (acceptProofInactive s).climateCfg = s.climateCfg ∧
    (acceptProofInactive s).water = s.water ∧
    (acceptProofInactive s).climate = s.climate ∧
    (acceptProofInactive s).mode = s.mode ∧
    (acceptProofInactive s).alloc = s.alloc ∧
    (acceptProofInactive s).cover = s.cover ∧
    (acceptProofInactive s).light = s.light ∧
    (acceptProofInactive s).ports = s.ports ∧
    (acceptProofInactive s).restartPending = s.restartPending ∧
    (acceptProofInactive s).store = s.store ∧
    (acceptProofInactive s).pins = s.pins ∧
    (acceptProofInactive s).freeSeq = s.freeSeq ∧
    (acceptProofInactive s).pending = s.pending := by
  simp [acceptProofInactive]

@[simp] theorem sampleCover_frame (level : Bool) (s : State) :
    (sampleCover level s).pt = s.pt ∧
    (sampleCover level s).tick = s.tick ∧
    (sampleCover level s).timers = s.timers ∧
    (sampleCover level s).channels = s.channels ∧
    (sampleCover level s).search = s.search ∧
    (sampleCover level s).watches = s.watches ∧
    (sampleCover level s).climateCfg = s.climateCfg ∧
    (sampleCover level s).water = s.water ∧
    (sampleCover level s).climate = s.climate ∧
    (sampleCover level s).mode = s.mode ∧
    (sampleCover level s).alloc = s.alloc ∧
    (sampleCover level s).light = s.light ∧
    (sampleCover level s).restartPending = s.restartPending ∧
    (sampleCover level s).store = s.store ∧
    (sampleCover level s).pins = s.pins ∧
    (sampleCover level s).freeSeq = s.freeSeq ∧
    (sampleCover level s).pending = s.pending := by
  simp only [sampleCover]; split <;> simp

@[simp] theorem sampleInterlock_frame (level : Bool) (s : State) :
    (sampleInterlock level s).pt = s.pt ∧
    (sampleInterlock level s).tick = s.tick ∧
    (sampleInterlock level s).timers = s.timers ∧
    (sampleInterlock level s).channels = s.channels ∧
    (sampleInterlock level s).search = s.search ∧
    (sampleInterlock level s).watches = s.watches ∧
    (sampleInterlock level s).climateCfg = s.climateCfg ∧
    (sampleInterlock level s).water = s.water ∧
    (sampleInterlock level s).climate = s.climate ∧
    (sampleInterlock level s).mode = s.mode ∧
    (sampleInterlock level s).alloc = s.alloc ∧
    (sampleInterlock level s).cover = s.cover ∧
    (sampleInterlock level s).restartPending = s.restartPending ∧
    (sampleInterlock level s).store = s.store ∧
    (sampleInterlock level s).pins = s.pins ∧
    (sampleInterlock level s).freeSeq = s.freeSeq ∧
    (sampleInterlock level s).pending = s.pending := by
  simp only [sampleInterlock]; (repeat' split) <;> simp

@[simp] theorem sampleFanProof_frame (level : Bool) (s : State) :
    (sampleFanProof level s).pt = s.pt ∧
    (sampleFanProof level s).tick = s.tick ∧
    (sampleFanProof level s).timers = s.timers ∧
    (sampleFanProof level s).channels = s.channels ∧
    (sampleFanProof level s).search = s.search ∧
    (sampleFanProof level s).watches = s.watches ∧
    (sampleFanProof level s).climateCfg = s.climateCfg ∧
    (sampleFanProof level s).water = s.water ∧
    (sampleFanProof level s).climate = s.climate ∧
    (sampleFanProof level s).mode = s.mode ∧
    (sampleFanProof level s).alloc = s.alloc ∧
    (sampleFanProof level s).cover = s.cover ∧
    (sampleFanProof level s).light = s.light ∧
    (sampleFanProof level s).restartPending = s.restartPending ∧
    (sampleFanProof level s).store = s.store ∧
    (sampleFanProof level s).pins = s.pins ∧
    (sampleFanProof level s).pending = s.pending := by
  simp only [sampleFanProof]; (repeat' split) <;> simp

@[simp] theorem sampleInputs_frame (a b d : Bool) (s : State) :
    (sampleInputs a b d s).pt = s.pt ∧
    (sampleInputs a b d s).tick = s.tick ∧
    (sampleInputs a b d s).timers = s.timers ∧
    (sampleInputs a b d s).channels = s.channels ∧
    (sampleInputs a b d s).search = s.search ∧
    (sampleInputs a b d s).watches = s.watches ∧
    (sampleInputs a b d s).climateCfg = s.climateCfg ∧
    (sampleInputs a b d s).water = s.water ∧
    (sampleInputs a b d s).climate = s.climate ∧
    (sampleInputs a b d s).mode = s.mode ∧
    (sampleInputs a b d s).alloc = s.alloc ∧
    (sampleInputs a b d s).restartPending = s.restartPending ∧
    (sampleInputs a b d s).store = s.store ∧
    (sampleInputs a b d s).pins = s.pins ∧
    (sampleInputs a b d s).pending = s.pending := by
  simp [sampleInputs]

@[simp] theorem seqModeEvent_frame (new : Mode) (s : State) :
    (seqModeEvent new s).pt = s.pt ∧
    (seqModeEvent new s).tick = s.tick ∧
    (seqModeEvent new s).timers = s.timers ∧
    (seqModeEvent new s).channels = s.channels ∧
    (seqModeEvent new s).search = s.search ∧
    (seqModeEvent new s).watches = s.watches ∧
    (seqModeEvent new s).climateCfg = s.climateCfg ∧
    (seqModeEvent new s).water = s.water ∧
    (seqModeEvent new s).climate = s.climate ∧
    (seqModeEvent new s).mode = s.mode ∧
    (seqModeEvent new s).alloc = s.alloc ∧
    (seqModeEvent new s).cover = s.cover ∧
    (seqModeEvent new s).light = s.light ∧
    (seqModeEvent new s).ports = s.ports ∧
    (seqModeEvent new s).restartPending = s.restartPending ∧
    (seqModeEvent new s).store = s.store ∧
    (seqModeEvent new s).pins = s.pins ∧
    (seqModeEvent new s).freeSeq = s.freeSeq ∧
    (seqModeEvent new s).pending = s.pending := by
  simp only [seqModeEvent]; split <;> simp

@[simp] theorem changeMode_frame (new : Mode) (s : State) :
    (changeMode new s).pt = s.pt ∧
    (changeMode new s).tick = s.tick ∧
    (changeMode new s).timers = s.timers ∧
    (changeMode new s).channels = s.channels ∧
    (changeMode new s).search = s.search ∧
    (changeMode new s).watches = s.watches ∧
    (changeMode new s).climateCfg = s.climateCfg ∧
    (changeMode new s).water = s.water ∧
    (changeMode new s).climate = s.climate ∧
    (changeMode new s).alloc = s.alloc ∧
    (changeMode new s).restartPending = s.restartPending ∧
    (changeMode new s).store = s.store ∧
    (changeMode new s).pins = s.pins ∧
    (changeMode new s).freeSeq = s.freeSeq ∧
    (changeMode new s).pending = s.pending := by
  simp [changeMode]

@[simp] theorem postIf_frame (b : Bool) (c : Code) (n : Nat) (v : Int) (s : State) :
    (postIf b c n v s).pt = s.pt ∧
    (postIf b c n v s).tick = s.tick ∧
    (postIf b c n v s).timers = s.timers ∧
    (postIf b c n v s).channels = s.channels ∧
    (postIf b c n v s).search = s.search ∧
    (postIf b c n v s).watches = s.watches ∧
    (postIf b c n v s).climateCfg = s.climateCfg ∧
    (postIf b c n v s).water = s.water ∧
    (postIf b c n v s).climate = s.climate ∧
    (postIf b c n v s).mode = s.mode ∧
    (postIf b c n v s).alloc = s.alloc ∧
    (postIf b c n v s).seq = s.seq ∧
    (postIf b c n v s).cover = s.cover ∧
    (postIf b c n v s).light = s.light ∧
    (postIf b c n v s).restartPending = s.restartPending ∧
    (postIf b c n v s).store = s.store ∧
    (postIf b c n v s).pins = s.pins ∧
    (postIf b c n v s).freeSeq = s.freeSeq ∧
    (postIf b c n v s).pending = s.pending := by
  simp only [postIf]; split <;> simp

@[simp] theorem climateNotices_frame (heat moist : Bool) (old new : Climate) (s : State) :
    (climateNotices heat moist old new s).pt = s.pt ∧
    (climateNotices heat moist old new s).tick = s.tick ∧
    (climateNotices heat moist old new s).timers = s.timers ∧
    (climateNotices heat moist old new s).channels = s.channels ∧
    (climateNotices heat moist old new s).search = s.search ∧
    (climateNotices heat moist old new s).watches = s.watches ∧
    (climateNotices heat moist old new s).climateCfg = s.climateCfg ∧
    (climateNotices heat moist old new s).water = s.water ∧
    (climateNotices heat moist old new s).climate = s.climate ∧
    (climateNotices heat moist old new s).mode = s.mode ∧
    (climateNotices heat moist old new s).alloc = s.alloc ∧
    (climateNotices heat moist old new s).seq = s.seq ∧
    (climateNotices heat moist old new s).cover = s.cover ∧
    (climateNotices heat moist old new s).light = s.light ∧
    (climateNotices heat moist old new s).restartPending = s.restartPending ∧
    (climateNotices heat moist old new s).store = s.store ∧
    (climateNotices heat moist old new s).pins = s.pins ∧
    (climateNotices heat moist old new s).freeSeq = s.freeSeq ∧
    (climateNotices heat moist old new s).pending = s.pending := by
  simp [climateNotices]

@[simp] theorem setValve_frame (s : State) :
    (setValve s).pt = s.pt ∧
    (setValve s).tick = s.tick ∧
    (setValve s).timers = s.timers ∧
    (setValve s).channels = s.channels ∧
    (setValve s).search = s.search ∧
    (setValve s).watches = s.watches ∧
    (setValve s).climateCfg = s.climateCfg ∧
    (setValve s).water = s.water ∧
    (setValve s).climate = s.climate ∧
    (setValve s).mode = s.mode ∧
    (setValve s).alloc = s.alloc ∧
    (setValve s).cover = s.cover ∧
    (setValve s).light = s.light ∧
    (setValve s).ports = s.ports ∧
    (setValve s).restartPending = s.restartPending ∧
    (setValve s).store = s.store ∧
    (setValve s).pins = s.pins ∧
    (setValve s).freeSeq = s.freeSeq ∧
    (setValve s).pending = s.pending := by
  simp [setValve]

@[simp] theorem computation_frame (s : State) :
    (computation s).pt = s.pt ∧
    (computation s).tick = s.tick ∧
    (computation s).timers = s.timers ∧
    (computation s).channels = s.channels ∧
    (computation s).search = s.search ∧
    (computation s).climateCfg = s.climateCfg ∧
    (computation s).water = s.water ∧
    (computation s).mode = s.mode ∧
    (computation s).alloc = s.alloc ∧
    (computation s).light = s.light ∧
    (computation s).restartPending = s.restartPending ∧
    (computation s).store = s.store ∧
    (computation s).pins = s.pins ∧
    (computation s).freeSeq = s.freeSeq ∧
    (computation s).pending = s.pending := by
  simp [computation]

@[simp] theorem waterSecond_frame (s : State) :
    (waterSecond s).pt = s.pt ∧
    (waterSecond s).tick = s.tick ∧
    (waterSecond s).timers = s.timers ∧
    (waterSecond s).channels = s.channels ∧
    (waterSecond s).search = s.search ∧
    (waterSecond s).watches = s.watches ∧
    (waterSecond s).climateCfg = s.climateCfg ∧
    (waterSecond s).climate = s.climate ∧
    (waterSecond s).mode = s.mode ∧
    (waterSecond s).alloc = s.alloc ∧
    (waterSecond s).seq = s.seq ∧
    (waterSecond s).cover = s.cover ∧
    (waterSecond s).light = s.light ∧
    (waterSecond s).ports = s.ports ∧
    (waterSecond s).restartPending = s.restartPending ∧
    (waterSecond s).store = s.store ∧
    (waterSecond s).pins = s.pins ∧
    (waterSecond s).freeSeq = s.freeSeq ∧
    (waterSecond s).pending = s.pending := by
  simp [waterSecond]

@[simp] theorem recordPass_frame (p : Plan) (s : State) :
    (recordPass s p).pt = s.pt ∧
    (recordPass s p).tick = s.tick ∧
    (recordPass s p).timers = s.timers ∧
    (recordPass s p).channels = s.channels ∧
    (recordPass s p).search = s.search ∧
    (recordPass s p).watches = s.watches ∧
    (recordPass s p).climateCfg = s.climateCfg ∧
    (recordPass s p).water = s.water ∧
    (recordPass s p).climate = s.climate ∧
    (recordPass s p).mode = s.mode ∧
    (recordPass s p).seq = s.seq ∧
    (recordPass s p).cover = s.cover ∧
    (recordPass s p).light = s.light ∧
    (recordPass s p).ports = s.ports ∧
    (recordPass s p).restartPending = s.restartPending ∧
    (recordPass s p).store = s.store ∧
    (recordPass s p).pins = s.pins ∧
    (recordPass s p).freeSeq = s.freeSeq ∧
    (recordPass s p).pending = s.pending := by
  simp [recordPass]

@[simp] theorem postSheds_frame (rows : List (Nat × Bool × Bool × Bool)) (s : State) :
    (postSheds rows s).pt = s.pt ∧
    (postSheds rows s).tick = s.tick ∧
    (postSheds rows s).timers = s.timers ∧
    (postSheds rows s).channels = s.channels ∧
    (postSheds rows s).search = s.search ∧
    (postSheds rows s).watches = s.watches ∧
    (postSheds rows s).climateCfg = s.climateCfg ∧
    (postSheds rows s).water = s.water ∧
    (postSheds rows s).climate = s.climate ∧
    (postSheds rows s).mode = s.mode ∧
    (postSheds rows s).alloc = s.alloc ∧
    (postSheds rows s).seq = s.seq ∧
    (postSheds rows s).cover = s.cover ∧
    (postSheds rows s).light = s.light ∧
    (postSheds rows s).restartPending = s.restartPending ∧
    (postSheds rows s).store = s.store ∧
    (postSheds rows s).pins = s.pins ∧
    (postSheds rows s).freeSeq = s.freeSeq ∧
    (postSheds rows s).pending = s.pending := by
  unfold postSheds
  induction rows generalizing s with
  | nil => simp
  | cons r rs ih =>
    simp only [List.foldl_cons]
    split
    · simpa using ih (post .shed r.1 _ s)
    · exact ih s

@[simp] theorem postOverCommit_frame (p : Plan) (u : State) (s : State) :
    (postOverCommit u p s).pt = s.pt ∧
    (postOverCommit u p s).tick = s.tick ∧
    (postOverCommit u p s).timers = s.timers ∧
    (postOverCommit u p s).channels = s.channels ∧
    (postOverCommit u p s).search = s.search ∧
    (postOverCommit u p s).watches = s.watches ∧
    (postOverCommit u p s).climateCfg = s.climateCfg ∧
    (postOverCommit u p s).water = s.water ∧
    (postOverCommit u p s).climate = s.climate ∧
    (postOverCommit u p s).mode = s.mode ∧
    (postOverCommit u p s).alloc = s.alloc ∧
    (postOverCommit u p s).seq = s.seq ∧
    (postOverCommit u p s).cover = s.cover ∧
    (postOverCommit u p s).light = s.light ∧
    (postOverCommit u p s).restartPending = s.restartPending ∧
    (postOverCommit u p s).store = s.store ∧
    (postOverCommit u p s).pins = s.pins ∧
    (postOverCommit u p s).freeSeq = s.freeSeq ∧
    (postOverCommit u p s).pending = s.pending := by
  simp [postOverCommit]

@[simp] theorem postLimitsFault_frame (a : Allocator) (s : State) :
    (postLimitsFault a s).pt = s.pt ∧
    (postLimitsFault a s).tick = s.tick ∧
    (postLimitsFault a s).timers = s.timers ∧
    (postLimitsFault a s).channels = s.channels ∧
    (postLimitsFault a s).search = s.search ∧
    (postLimitsFault a s).watches = s.watches ∧
    (postLimitsFault a s).climateCfg = s.climateCfg ∧
    (postLimitsFault a s).water = s.water ∧
    (postLimitsFault a s).climate = s.climate ∧
    (postLimitsFault a s).mode = s.mode ∧
    (postLimitsFault a s).alloc = s.alloc ∧
    (postLimitsFault a s).seq = s.seq ∧
    (postLimitsFault a s).cover = s.cover ∧
    (postLimitsFault a s).light = s.light ∧
    (postLimitsFault a s).restartPending = s.restartPending ∧
    (postLimitsFault a s).store = s.store ∧
    (postLimitsFault a s).pins = s.pins ∧
    (postLimitsFault a s).freeSeq = s.freeSeq ∧
    (postLimitsFault a s).pending = s.pending := by
  simp only [postLimitsFault]; (repeat' split) <;> simp

@[simp] theorem checkLimits_frame (s : State) :
    (checkLimits s).pt = s.pt ∧
    (checkLimits s).tick = s.tick ∧
    (checkLimits s).timers = s.timers ∧
    (checkLimits s).channels = s.channels ∧
    (checkLimits s).search = s.search ∧
    (checkLimits s).watches = s.watches ∧
    (checkLimits s).climateCfg = s.climateCfg ∧
    (checkLimits s).water = s.water ∧
    (checkLimits s).climate = s.climate ∧
    (checkLimits s).mode = s.mode ∧
    (checkLimits s).cover = s.cover ∧
    (checkLimits s).light = s.light ∧
    (checkLimits s).restartPending = s.restartPending ∧
    (checkLimits s).store = s.store ∧
    (checkLimits s).pins = s.pins ∧
    (checkLimits s).pending = s.pending := by
  simp [checkLimits]

@[simp] theorem energyPass_frame (s : State) :
    (energyPass s).pt = s.pt ∧
    (energyPass s).tick = s.tick ∧
    (energyPass s).timers = s.timers ∧
    (energyPass s).channels = s.channels ∧
    (energyPass s).search = s.search ∧
    (energyPass s).watches = s.watches ∧
    (energyPass s).climateCfg = s.climateCfg ∧
    (energyPass s).water = s.water ∧
    (energyPass s).climate = s.climate ∧
    (energyPass s).mode = s.mode ∧
    (energyPass s).seq = s.seq ∧
    (energyPass s).cover = s.cover ∧
    (energyPass s).light = s.light ∧
    (energyPass s).ports = s.ports ∧
    (energyPass s).restartPending = s.restartPending ∧
    (energyPass s).store = s.store ∧
    (energyPass s).pins = s.pins ∧
    (energyPass s).freeSeq = s.freeSeq ∧
    (energyPass s).pending = s.pending := by
  simp [energyPass]

@[simp] theorem allocate_frame (s : State) :
    (allocate s).pt = s.pt ∧
    (allocate s).tick = s.tick ∧
    (allocate s).timers = s.timers ∧
    (allocate s).channels = s.channels ∧
    (allocate s).search = s.search ∧
    (allocate s).watches = s.watches ∧
    (allocate s).climateCfg = s.climateCfg ∧
    (allocate s).water = s.water ∧
    (allocate s).climate = s.climate ∧
    (allocate s).mode = s.mode ∧
    (allocate s).cover = s.cover ∧
    (allocate s).restartPending = s.restartPending ∧
    (allocate s).store = s.store ∧
    (allocate s).pins = s.pins ∧
    (allocate s).pending = s.pending := by
  simp [allocate]

@[simp] theorem lineByte_frame (p : PortId) (b : Byte) (bad : Bool) (s : State) :
    (lineByte p b bad s).pt = s.pt ∧
    (lineByte p b bad s).tick = s.tick ∧
    (lineByte p b bad s).timers = s.timers ∧
    (lineByte p b bad s).channels = s.channels ∧
    (lineByte p b bad s).search = s.search ∧
    (lineByte p b bad s).watches = s.watches ∧
    (lineByte p b bad s).climateCfg = s.climateCfg ∧
    (lineByte p b bad s).water = s.water ∧
    (lineByte p b bad s).climate = s.climate ∧
    (lineByte p b bad s).mode = s.mode ∧
    (lineByte p b bad s).alloc = s.alloc ∧
    (lineByte p b bad s).seq = s.seq ∧
    (lineByte p b bad s).cover = s.cover ∧
    (lineByte p b bad s).light = s.light ∧
    (lineByte p b bad s).restartPending = s.restartPending ∧
    (lineByte p b bad s).store = s.store ∧
    (lineByte p b bad s).pins = s.pins ∧
    (lineByte p b bad s).freeSeq = s.freeSeq ∧
    (lineByte p b bad s).pending = s.pending := by
  simp [lineByte]

@[simp] theorem lineFrame_frame (p : PortId) (bs : List Byte) (s : State) :
    (lineFrame p bs s).pt = s.pt ∧
    (lineFrame p bs s).tick = s.tick ∧
    (lineFrame p bs s).timers = s.timers ∧
    (lineFrame p bs s).channels = s.channels ∧
    (lineFrame p bs s).search = s.search ∧
    (lineFrame p bs s).watches = s.watches ∧
    (lineFrame p bs s).climateCfg = s.climateCfg ∧
    (lineFrame p bs s).water = s.water ∧
    (lineFrame p bs s).climate = s.climate ∧
    (lineFrame p bs s).mode = s.mode ∧
    (lineFrame p bs s).alloc = s.alloc ∧
    (lineFrame p bs s).seq = s.seq ∧
    (lineFrame p bs s).cover = s.cover ∧
    (lineFrame p bs s).light = s.light ∧
    (lineFrame p bs s).restartPending = s.restartPending ∧
    (lineFrame p bs s).store = s.store ∧
    (lineFrame p bs s).pins = s.pins ∧
    (lineFrame p bs s).freeSeq = s.freeSeq ∧
    (lineFrame p bs s).pending = s.pending := by
  unfold lineFrame
  induction bs generalizing s with
  | nil => simp
  | cons b bs ih => simpa using ih (lineByte p b false s)

@[simp] theorem frameHeard_frame (p : PortId) (s : State) :
    (frameHeard p s).pt = s.pt ∧
    (frameHeard p s).tick = s.tick ∧
    (frameHeard p s).timers = s.timers ∧
    (frameHeard p s).channels = s.channels ∧
    (frameHeard p s).search = s.search ∧
    (frameHeard p s).watches = s.watches ∧
    (frameHeard p s).climateCfg = s.climateCfg ∧
    (frameHeard p s).water = s.water ∧
    (frameHeard p s).climate = s.climate ∧
    (frameHeard p s).mode = s.mode ∧
    (frameHeard p s).alloc = s.alloc ∧
    (frameHeard p s).seq = s.seq ∧
    (frameHeard p s).cover = s.cover ∧
    (frameHeard p s).light = s.light ∧
    (frameHeard p s).restartPending = s.restartPending ∧
    (frameHeard p s).store = s.store ∧
    (frameHeard p s).pins = s.pins ∧
    (frameHeard p s).freeSeq = s.freeSeq ∧
    (frameHeard p s).pending = s.pending := by
  simp only [frameHeard]; split <;> simp

@[simp] theorem roleSilent_frame (r : Role) (s : State) :
    (roleSilent r s).pt = s.pt ∧
    (roleSilent r s).tick = s.tick ∧
    (roleSilent r s).timers = s.timers ∧
    (roleSilent r s).channels = s.channels ∧
    (roleSilent r s).search = s.search ∧
    (roleSilent r s).watches = s.watches ∧
    (roleSilent r s).climateCfg = s.climateCfg ∧
    (roleSilent r s).water = s.water ∧
    (roleSilent r s).climate = s.climate ∧
    (roleSilent r s).mode = s.mode ∧
    (roleSilent r s).alloc = s.alloc ∧
    (roleSilent r s).seq = s.seq ∧
    (roleSilent r s).restartPending = s.restartPending ∧
    (roleSilent r s).store = s.store ∧
    (roleSilent r s).pins = s.pins ∧
    (roleSilent r s).freeSeq = s.freeSeq ∧
    (roleSilent r s).pending = s.pending := by
  simp only [roleSilent]; split <;> simp

@[simp] theorem silenceEnd_frame (p : PortId) (s : State) :
    (silenceEnd p s).pt = s.pt ∧
    (silenceEnd p s).tick = s.tick ∧
    (silenceEnd p s).timers = s.timers ∧
    (silenceEnd p s).channels = s.channels ∧
    (silenceEnd p s).search = s.search ∧
    (silenceEnd p s).watches = s.watches ∧
    (silenceEnd p s).climateCfg = s.climateCfg ∧
    (silenceEnd p s).water = s.water ∧
    (silenceEnd p s).climate = s.climate ∧
    (silenceEnd p s).mode = s.mode ∧
    (silenceEnd p s).alloc = s.alloc ∧
    (silenceEnd p s).seq = s.seq ∧
    (silenceEnd p s).restartPending = s.restartPending ∧
    (silenceEnd p s).store = s.store ∧
    (silenceEnd p s).pins = s.pins ∧
    (silenceEnd p s).freeSeq = s.freeSeq ∧
    (silenceEnd p s).pending = s.pending := by
  simp [silenceEnd]

@[simp] theorem sendReply_frame (p : PortId) (code : Byte) (a : Answer) (s : State) :
    (sendReply p code a s).pt = s.pt ∧
    (sendReply p code a s).tick = s.tick ∧
    (sendReply p code a s).timers = s.timers ∧
    (sendReply p code a s).channels = s.channels ∧
    (sendReply p code a s).search = s.search ∧
    (sendReply p code a s).watches = s.watches ∧
    (sendReply p code a s).climateCfg = s.climateCfg ∧
    (sendReply p code a s).water = s.water ∧
    (sendReply p code a s).climate = s.climate ∧
    (sendReply p code a s).mode = s.mode ∧
    (sendReply p code a s).alloc = s.alloc ∧
    (sendReply p code a s).seq = s.seq ∧
    (sendReply p code a s).cover = s.cover ∧
    (sendReply p code a s).light = s.light ∧
    (sendReply p code a s).restartPending = s.restartPending ∧
    (sendReply p code a s).store = s.store ∧
    (sendReply p code a s).pins = s.pins ∧
    (sendReply p code a s).freeSeq = s.freeSeq ∧
    (sendReply p code a s).pending = s.pending := by
  simp [sendReply]

@[simp] theorem serveFrame_frame (p : PortId) (code : Byte) (payload : List Byte) (s : State) :
    (serveFrame p code payload s).pt = s.pt ∧
    (serveFrame p code payload s).tick = s.tick ∧
    (serveFrame p code payload s).timers = s.timers ∧
    (serveFrame p code payload s).channels = s.channels ∧
    (serveFrame p code payload s).search = s.search ∧
    (serveFrame p code payload s).watches = s.watches ∧
    (serveFrame p code payload s).climateCfg = s.climateCfg ∧
    (serveFrame p code payload s).water = s.water ∧
    (serveFrame p code payload s).climate = s.climate ∧
    (serveFrame p code payload s).mode = s.mode ∧
    (serveFrame p code payload s).alloc = s.alloc ∧
    (serveFrame p code payload s).seq = s.seq ∧
    (serveFrame p code payload s).cover = s.cover ∧
    (serveFrame p code payload s).light = s.light ∧
    (serveFrame p code payload s).restartPending = s.restartPending ∧
    (serveFrame p code payload s).store = s.store ∧
    (serveFrame p code payload s).pins = s.pins ∧
    (serveFrame p code payload s).freeSeq = s.freeSeq ∧
    (serveFrame p code payload s).pending = s.pending := by
  simp only [serveFrame]; split <;> simp

@[simp] theorem lineQuiet_frame (p : PortId) (s : State) :
    (lineQuiet p s).pt = s.pt ∧
    (lineQuiet p s).tick = s.tick ∧
    (lineQuiet p s).timers = s.timers ∧
    (lineQuiet p s).channels = s.channels ∧
    (lineQuiet p s).search = s.search ∧
    (lineQuiet p s).watches = s.watches ∧
    (lineQuiet p s).climateCfg = s.climateCfg ∧
    (lineQuiet p s).water = s.water ∧
    (lineQuiet p s).climate = s.climate ∧
    (lineQuiet p s).mode = s.mode ∧
    (lineQuiet p s).alloc = s.alloc ∧
    (lineQuiet p s).seq = s.seq ∧
    (lineQuiet p s).cover = s.cover ∧
    (lineQuiet p s).light = s.light ∧
    (lineQuiet p s).restartPending = s.restartPending ∧
    (lineQuiet p s).store = s.store ∧
    (lineQuiet p s).pins = s.pins ∧
    (lineQuiet p s).freeSeq = s.freeSeq ∧
    (lineQuiet p s).pending = s.pending := by
  simp only [lineQuiet]; (repeat' split) <;> simp

@[simp] theorem deliver_frame (p : PortId) (code : Byte) (payload : List Byte) (s : State) :
    (deliver p code payload s).pt = s.pt ∧
    (deliver p code payload s).tick = s.tick ∧
    (deliver p code payload s).timers = s.timers ∧
    (deliver p code payload s).channels = s.channels ∧
    (deliver p code payload s).search = s.search ∧
    (deliver p code payload s).watches = s.watches ∧
    (deliver p code payload s).climateCfg = s.climateCfg ∧
    (deliver p code payload s).water = s.water ∧
    (deliver p code payload s).climate = s.climate ∧
    (deliver p code payload s).mode = s.mode ∧
    (deliver p code payload s).alloc = s.alloc ∧
    (deliver p code payload s).seq = s.seq ∧
    (deliver p code payload s).cover = s.cover ∧
    (deliver p code payload s).light = s.light ∧
    (deliver p code payload s).restartPending = s.restartPending ∧
    (deliver p code payload s).store = s.store ∧
    (deliver p code payload s).pins = s.pins ∧
    (deliver p code payload s).freeSeq = s.freeSeq ∧
    (deliver p code payload s).pending = s.pending := by
  simp [deliver]

@[simp] theorem storeEnd_frame (d : BitVec 11) (s : State) :
    (storeEnd d s).pt = s.pt ∧
    (storeEnd d s).tick = s.tick ∧
    (storeEnd d s).timers = s.timers ∧
    (storeEnd d s).channels = s.channels ∧
    (storeEnd d s).search = s.search ∧
    (storeEnd d s).watches = s.watches ∧
    (storeEnd d s).climateCfg = s.climateCfg ∧
    (storeEnd d s).water = s.water ∧
    (storeEnd d s).climate = s.climate ∧
    (storeEnd d s).mode = s.mode ∧
    (storeEnd d s).alloc = s.alloc ∧
    (storeEnd d s).seq = s.seq ∧
    (storeEnd d s).cover = s.cover ∧
    (storeEnd d s).light = s.light ∧
    (storeEnd d s).restartPending = s.restartPending ∧
    (storeEnd d s).pins = s.pins ∧
    (storeEnd d s).freeSeq = s.freeSeq ∧
    (storeEnd d s).pending = s.pending := by
  simp only [storeEnd]; split <;> simp

end Sys2Proof.Machine
end

