-- ==== Sys2Proof/Laws/OwnerFrames.lean ====
section
/-! SUPPORT. What each owner leaves unchanged when it takes or refuses a request (R152). -/

namespace Sys2Proof.Machine

@[simp] theorem ownReportCover_frame (b : Byte) (s : State) :
    ((ownReportCover b s).1).pt = s.pt ∧
    ((ownReportCover b s).1).tick = s.tick ∧
    ((ownReportCover b s).1).timers = s.timers ∧
    ((ownReportCover b s).1).channels = s.channels ∧
    ((ownReportCover b s).1).search = s.search ∧
    ((ownReportCover b s).1).watches = s.watches ∧
    ((ownReportCover b s).1).climateCfg = s.climateCfg ∧
    ((ownReportCover b s).1).water = s.water ∧
    ((ownReportCover b s).1).climate = s.climate ∧
    ((ownReportCover b s).1).mode = s.mode ∧
    ((ownReportCover b s).1).alloc = s.alloc ∧
    ((ownReportCover b s).1).seq = s.seq ∧
    ((ownReportCover b s).1).light = s.light ∧
    ((ownReportCover b s).1).restartPending = s.restartPending ∧
    ((ownReportCover b s).1).store = s.store ∧
    ((ownReportCover b s).1).pins = s.pins ∧
    ((ownReportCover b s).1).freeSeq = s.freeSeq ∧
    ((ownReportCover b s).1).pending = s.pending := by
  simp only [ownReportCover]; split <;> simp

@[simp] theorem ownAskCoverOpen_frame (s : State) :
    ((ownAskCoverOpen s).1).pt = s.pt ∧
    ((ownAskCoverOpen s).1).tick = s.tick ∧
    ((ownAskCoverOpen s).1).timers = s.timers ∧
    ((ownAskCoverOpen s).1).channels = s.channels ∧
    ((ownAskCoverOpen s).1).search = s.search ∧
    ((ownAskCoverOpen s).1).watches = s.watches ∧
    ((ownAskCoverOpen s).1).climateCfg = s.climateCfg ∧
    ((ownAskCoverOpen s).1).water = s.water ∧
    ((ownAskCoverOpen s).1).climate = s.climate ∧
    ((ownAskCoverOpen s).1).mode = s.mode ∧
    ((ownAskCoverOpen s).1).alloc = s.alloc ∧
    ((ownAskCoverOpen s).1).seq = s.seq ∧
    ((ownAskCoverOpen s).1).light = s.light ∧
    ((ownAskCoverOpen s).1).ports = s.ports ∧
    ((ownAskCoverOpen s).1).restartPending = s.restartPending ∧
    ((ownAskCoverOpen s).1).store = s.store ∧
    ((ownAskCoverOpen s).1).pins = s.pins ∧
    ((ownAskCoverOpen s).1).freeSeq = s.freeSeq ∧
    ((ownAskCoverOpen s).1).pending = s.pending := by
  simp only [ownAskCoverOpen]; split <;> simp

@[simp] theorem ownWriteCoverCfg_frame (index : Byte) (fs : List Half) (s : State) :
    ((ownWriteCoverCfg index fs s).1).pt = s.pt ∧
    ((ownWriteCoverCfg index fs s).1).tick = s.tick ∧
    ((ownWriteCoverCfg index fs s).1).timers = s.timers ∧
    ((ownWriteCoverCfg index fs s).1).channels = s.channels ∧
    ((ownWriteCoverCfg index fs s).1).search = s.search ∧
    ((ownWriteCoverCfg index fs s).1).watches = s.watches ∧
    ((ownWriteCoverCfg index fs s).1).climateCfg = s.climateCfg ∧
    ((ownWriteCoverCfg index fs s).1).water = s.water ∧
    ((ownWriteCoverCfg index fs s).1).climate = s.climate ∧
    ((ownWriteCoverCfg index fs s).1).mode = s.mode ∧
    ((ownWriteCoverCfg index fs s).1).alloc = s.alloc ∧
    ((ownWriteCoverCfg index fs s).1).seq = s.seq ∧
    ((ownWriteCoverCfg index fs s).1).light = s.light ∧
    ((ownWriteCoverCfg index fs s).1).ports = s.ports ∧
    ((ownWriteCoverCfg index fs s).1).restartPending = s.restartPending ∧
    ((ownWriteCoverCfg index fs s).1).store = s.store ∧
    ((ownWriteCoverCfg index fs s).1).pins = s.pins ∧
    ((ownWriteCoverCfg index fs s).1).freeSeq = s.freeSeq ∧
    ((ownWriteCoverCfg index fs s).1).pending = s.pending := by
  simp only [ownWriteCoverCfg]; (repeat' split) <;> simp

@[simp] theorem ownZeroSearch_frame (n : Byte) (s : State) :
    ((ownZeroSearch n s).1).pt = s.pt ∧
    ((ownZeroSearch n s).1).tick = s.tick ∧
    ((ownZeroSearch n s).1).timers = s.timers ∧
    ((ownZeroSearch n s).1).watches = s.watches ∧
    ((ownZeroSearch n s).1).climateCfg = s.climateCfg ∧
    ((ownZeroSearch n s).1).water = s.water ∧
    ((ownZeroSearch n s).1).climate = s.climate ∧
    ((ownZeroSearch n s).1).mode = s.mode ∧
    ((ownZeroSearch n s).1).alloc = s.alloc ∧
    ((ownZeroSearch n s).1).seq = s.seq ∧
    ((ownZeroSearch n s).1).cover = s.cover ∧
    ((ownZeroSearch n s).1).light = s.light ∧
    ((ownZeroSearch n s).1).ports = s.ports ∧
    ((ownZeroSearch n s).1).restartPending = s.restartPending ∧
    ((ownZeroSearch n s).1).store = s.store ∧
    ((ownZeroSearch n s).1).pins = s.pins ∧
    ((ownZeroSearch n s).1).freeSeq = s.freeSeq ∧
    ((ownZeroSearch n s).1).pending = s.pending := by
  simp only [ownZeroSearch]; (repeat' split) <;> simp

@[simp] theorem ownWriteChannel_frame (index kind zone : Byte) (s : State) :
    ((ownWriteChannel index kind zone s).1).pt = s.pt ∧
    ((ownWriteChannel index kind zone s).1).tick = s.tick ∧
    ((ownWriteChannel index kind zone s).1).timers = s.timers ∧
    ((ownWriteChannel index kind zone s).1).watches = s.watches ∧
    ((ownWriteChannel index kind zone s).1).climateCfg = s.climateCfg ∧
    ((ownWriteChannel index kind zone s).1).water = s.water ∧
    ((ownWriteChannel index kind zone s).1).climate = s.climate ∧
    ((ownWriteChannel index kind zone s).1).mode = s.mode ∧
    ((ownWriteChannel index kind zone s).1).alloc = s.alloc ∧
    ((ownWriteChannel index kind zone s).1).seq = s.seq ∧
    ((ownWriteChannel index kind zone s).1).cover = s.cover ∧
    ((ownWriteChannel index kind zone s).1).light = s.light ∧
    ((ownWriteChannel index kind zone s).1).ports = s.ports ∧
    ((ownWriteChannel index kind zone s).1).restartPending = s.restartPending ∧
    ((ownWriteChannel index kind zone s).1).store = s.store ∧
    ((ownWriteChannel index kind zone s).1).pins = s.pins ∧
    ((ownWriteChannel index kind zone s).1).freeSeq = s.freeSeq ∧
    ((ownWriteChannel index kind zone s).1).pending = s.pending := by
  simp only [ownWriteChannel]; (repeat' split) <;> simp

@[simp] theorem ownGainCorrect_frame (n : Byte) (e : Half) (s : State) :
    ((ownGainCorrect n e s).1).pt = s.pt ∧
    ((ownGainCorrect n e s).1).tick = s.tick ∧
    ((ownGainCorrect n e s).1).timers = s.timers ∧
    ((ownGainCorrect n e s).1).search = s.search ∧
    ((ownGainCorrect n e s).1).watches = s.watches ∧
    ((ownGainCorrect n e s).1).climateCfg = s.climateCfg ∧
    ((ownGainCorrect n e s).1).water = s.water ∧
    ((ownGainCorrect n e s).1).climate = s.climate ∧
    ((ownGainCorrect n e s).1).mode = s.mode ∧
    ((ownGainCorrect n e s).1).alloc = s.alloc ∧
    ((ownGainCorrect n e s).1).seq = s.seq ∧
    ((ownGainCorrect n e s).1).cover = s.cover ∧
    ((ownGainCorrect n e s).1).light = s.light ∧
    ((ownGainCorrect n e s).1).ports = s.ports ∧
    ((ownGainCorrect n e s).1).restartPending = s.restartPending ∧
    ((ownGainCorrect n e s).1).store = s.store ∧
    ((ownGainCorrect n e s).1).pins = s.pins ∧
    ((ownGainCorrect n e s).1).freeSeq = s.freeSeq ∧
    ((ownGainCorrect n e s).1).pending = s.pending := by
  simp only [ownGainCorrect]; (repeat' split) <;> simp

@[simp] theorem ownWriteWatch_frame (index source direction : Byte) (t h : Half) (action : Byte) (s : State) :
    ((ownWriteWatch index source direction t h action s).1).pt = s.pt ∧
    ((ownWriteWatch index source direction t h action s).1).tick = s.tick ∧
    ((ownWriteWatch index source direction t h action s).1).timers = s.timers ∧
    ((ownWriteWatch index source direction t h action s).1).channels = s.channels ∧
    ((ownWriteWatch index source direction t h action s).1).search = s.search ∧
    ((ownWriteWatch index source direction t h action s).1).climateCfg = s.climateCfg ∧
    ((ownWriteWatch index source direction t h action s).1).water = s.water ∧
    ((ownWriteWatch index source direction t h action s).1).climate = s.climate ∧
    ((ownWriteWatch index source direction t h action s).1).mode = s.mode ∧
    ((ownWriteWatch index source direction t h action s).1).alloc = s.alloc ∧
    ((ownWriteWatch index source direction t h action s).1).seq = s.seq ∧
    ((ownWriteWatch index source direction t h action s).1).light = s.light ∧
    ((ownWriteWatch index source direction t h action s).1).restartPending = s.restartPending ∧
    ((ownWriteWatch index source direction t h action s).1).store = s.store ∧
    ((ownWriteWatch index source direction t h action s).1).pins = s.pins ∧
    ((ownWriteWatch index source direction t h action s).1).freeSeq = s.freeSeq ∧
    ((ownWriteWatch index source direction t h action s).1).pending = s.pending := by
  simp only [ownWriteWatch]; (repeat' split) <;> simp

@[simp] theorem ownClearWatch_frame (w : Byte) (s : State) :
    ((ownClearWatch w s).1).pt = s.pt ∧
    ((ownClearWatch w s).1).tick = s.tick ∧
    ((ownClearWatch w s).1).timers = s.timers ∧
    ((ownClearWatch w s).1).channels = s.channels ∧
    ((ownClearWatch w s).1).search = s.search ∧
    ((ownClearWatch w s).1).climateCfg = s.climateCfg ∧
    ((ownClearWatch w s).1).water = s.water ∧
    ((ownClearWatch w s).1).climate = s.climate ∧
    ((ownClearWatch w s).1).mode = s.mode ∧
    ((ownClearWatch w s).1).alloc = s.alloc ∧
    ((ownClearWatch w s).1).seq = s.seq ∧
    ((ownClearWatch w s).1).cover = s.cover ∧
    ((ownClearWatch w s).1).light = s.light ∧
    ((ownClearWatch w s).1).ports = s.ports ∧
    ((ownClearWatch w s).1).restartPending = s.restartPending ∧
    ((ownClearWatch w s).1).store = s.store ∧
    ((ownClearWatch w s).1).pins = s.pins ∧
    ((ownClearWatch w s).1).freeSeq = s.freeSeq ∧
    ((ownClearWatch w s).1).pending = s.pending := by
  simp only [ownClearWatch]; split <;> simp

@[simp] theorem ownRecallLayer_frame (role : Role) (scene target : Byte) (s : State) :
    ((ownRecallLayer role scene target s).1).pt = s.pt ∧
    ((ownRecallLayer role scene target s).1).tick = s.tick ∧
    ((ownRecallLayer role scene target s).1).timers = s.timers ∧
    ((ownRecallLayer role scene target s).1).channels = s.channels ∧
    ((ownRecallLayer role scene target s).1).search = s.search ∧
    ((ownRecallLayer role scene target s).1).watches = s.watches ∧
    ((ownRecallLayer role scene target s).1).climateCfg = s.climateCfg ∧
    ((ownRecallLayer role scene target s).1).water = s.water ∧
    ((ownRecallLayer role scene target s).1).climate = s.climate ∧
    ((ownRecallLayer role scene target s).1).mode = s.mode ∧
    ((ownRecallLayer role scene target s).1).alloc = s.alloc ∧
    ((ownRecallLayer role scene target s).1).seq = s.seq ∧
    ((ownRecallLayer role scene target s).1).cover = s.cover ∧
    ((ownRecallLayer role scene target s).1).ports = s.ports ∧
    ((ownRecallLayer role scene target s).1).restartPending = s.restartPending ∧
    ((ownRecallLayer role scene target s).1).store = s.store ∧
    ((ownRecallLayer role scene target s).1).pins = s.pins ∧
    ((ownRecallLayer role scene target s).1).freeSeq = s.freeSeq ∧
    ((ownRecallLayer role scene target s).1).pending = s.pending := by
  simp only [ownRecallLayer]; (repeat' split) <;> simp

@[simp] theorem ownRecallStart_frame (scene : Byte) (s : State) :
    ((ownRecallStart scene s).1).pt = s.pt ∧
    ((ownRecallStart scene s).1).tick = s.tick ∧
    ((ownRecallStart scene s).1).timers = s.timers ∧
    ((ownRecallStart scene s).1).channels = s.channels ∧
    ((ownRecallStart scene s).1).search = s.search ∧
    ((ownRecallStart scene s).1).watches = s.watches ∧
    ((ownRecallStart scene s).1).climateCfg = s.climateCfg ∧
    ((ownRecallStart scene s).1).water = s.water ∧
    ((ownRecallStart scene s).1).climate = s.climate ∧
    ((ownRecallStart scene s).1).mode = s.mode ∧
    ((ownRecallStart scene s).1).alloc = s.alloc ∧
    ((ownRecallStart scene s).1).seq = s.seq ∧
    ((ownRecallStart scene s).1).cover = s.cover ∧
    ((ownRecallStart scene s).1).ports = s.ports ∧
    ((ownRecallStart scene s).1).restartPending = s.restartPending ∧
    ((ownRecallStart scene s).1).store = s.store ∧
    ((ownRecallStart scene s).1).pins = s.pins ∧
    ((ownRecallStart scene s).1).freeSeq = s.freeSeq ∧
    ((ownRecallStart scene s).1).pending = s.pending := by
  simp only [ownRecallStart]; (repeat' split) <;> simp

@[simp] theorem ownRecallSafety_frame (scene : Byte) (s : State) :
    ((ownRecallSafety scene s).1).pt = s.pt ∧
    ((ownRecallSafety scene s).1).tick = s.tick ∧
    ((ownRecallSafety scene s).1).timers = s.timers ∧
    ((ownRecallSafety scene s).1).channels = s.channels ∧
    ((ownRecallSafety scene s).1).search = s.search ∧
    ((ownRecallSafety scene s).1).watches = s.watches ∧
    ((ownRecallSafety scene s).1).climateCfg = s.climateCfg ∧
    ((ownRecallSafety scene s).1).water = s.water ∧
    ((ownRecallSafety scene s).1).climate = s.climate ∧
    ((ownRecallSafety scene s).1).mode = s.mode ∧
    ((ownRecallSafety scene s).1).alloc = s.alloc ∧
    ((ownRecallSafety scene s).1).seq = s.seq ∧
    ((ownRecallSafety scene s).1).cover = s.cover ∧
    ((ownRecallSafety scene s).1).ports = s.ports ∧
    ((ownRecallSafety scene s).1).restartPending = s.restartPending ∧
    ((ownRecallSafety scene s).1).store = s.store ∧
    ((ownRecallSafety scene s).1).pins = s.pins ∧
    ((ownRecallSafety scene s).1).freeSeq = s.freeSeq ∧
    ((ownRecallSafety scene s).1).pending = s.pending := by
  simp only [ownRecallSafety]; (repeat' split) <;> simp

@[simp] theorem ownRelease_frame (role : Role) (s : State) :
    ((ownRelease role s).1).pt = s.pt ∧
    ((ownRelease role s).1).tick = s.tick ∧
    ((ownRelease role s).1).timers = s.timers ∧
    ((ownRelease role s).1).channels = s.channels ∧
    ((ownRelease role s).1).search = s.search ∧
    ((ownRelease role s).1).watches = s.watches ∧
    ((ownRelease role s).1).climateCfg = s.climateCfg ∧
    ((ownRelease role s).1).water = s.water ∧
    ((ownRelease role s).1).climate = s.climate ∧
    ((ownRelease role s).1).mode = s.mode ∧
    ((ownRelease role s).1).alloc = s.alloc ∧
    ((ownRelease role s).1).seq = s.seq ∧
    ((ownRelease role s).1).cover = s.cover ∧
    ((ownRelease role s).1).ports = s.ports ∧
    ((ownRelease role s).1).restartPending = s.restartPending ∧
    ((ownRelease role s).1).store = s.store ∧
    ((ownRelease role s).1).pins = s.pins ∧
    ((ownRelease role s).1).freeSeq = s.freeSeq ∧
    ((ownRelease role s).1).pending = s.pending := by
  simp only [ownRelease]; (repeat' split) <;> simp

@[simp] theorem ownWriteGroup_frame (index : Byte) (load floor : Half) (s : State) :
    ((ownWriteGroup index load floor s).1).pt = s.pt ∧
    ((ownWriteGroup index load floor s).1).tick = s.tick ∧
    ((ownWriteGroup index load floor s).1).timers = s.timers ∧
    ((ownWriteGroup index load floor s).1).channels = s.channels ∧
    ((ownWriteGroup index load floor s).1).search = s.search ∧
    ((ownWriteGroup index load floor s).1).watches = s.watches ∧
    ((ownWriteGroup index load floor s).1).climateCfg = s.climateCfg ∧
    ((ownWriteGroup index load floor s).1).water = s.water ∧
    ((ownWriteGroup index load floor s).1).climate = s.climate ∧
    ((ownWriteGroup index load floor s).1).mode = s.mode ∧
    ((ownWriteGroup index load floor s).1).alloc = s.alloc ∧
    ((ownWriteGroup index load floor s).1).seq = s.seq ∧
    ((ownWriteGroup index load floor s).1).cover = s.cover ∧
    ((ownWriteGroup index load floor s).1).ports = s.ports ∧
    ((ownWriteGroup index load floor s).1).restartPending = s.restartPending ∧
    ((ownWriteGroup index load floor s).1).store = s.store ∧
    ((ownWriteGroup index load floor s).1).pins = s.pins ∧
    ((ownWriteGroup index load floor s).1).freeSeq = s.freeSeq ∧
    ((ownWriteGroup index load floor s).1).pending = s.pending := by
  simp only [ownWriteGroup]; (repeat' split) <;> simp

@[simp] theorem ownWriteScene_frame (index flags : Byte) (fade : Half) (modes : Byte) (ps : List (Byte × Half)) (s : State) :
    ((ownWriteScene index flags fade modes ps s).1).pt = s.pt ∧
    ((ownWriteScene index flags fade modes ps s).1).tick = s.tick ∧
    ((ownWriteScene index flags fade modes ps s).1).timers = s.timers ∧
    ((ownWriteScene index flags fade modes ps s).1).channels = s.channels ∧
    ((ownWriteScene index flags fade modes ps s).1).search = s.search ∧
    ((ownWriteScene index flags fade modes ps s).1).watches = s.watches ∧
    ((ownWriteScene index flags fade modes ps s).1).climateCfg = s.climateCfg ∧
    ((ownWriteScene index flags fade modes ps s).1).water = s.water ∧
    ((ownWriteScene index flags fade modes ps s).1).climate = s.climate ∧
    ((ownWriteScene index flags fade modes ps s).1).mode = s.mode ∧
    ((ownWriteScene index flags fade modes ps s).1).alloc = s.alloc ∧
    ((ownWriteScene index flags fade modes ps s).1).seq = s.seq ∧
    ((ownWriteScene index flags fade modes ps s).1).cover = s.cover ∧
    ((ownWriteScene index flags fade modes ps s).1).restartPending = s.restartPending ∧
    ((ownWriteScene index flags fade modes ps s).1).store = s.store ∧
    ((ownWriteScene index flags fade modes ps s).1).pins = s.pins ∧
    ((ownWriteScene index flags fade modes ps s).1).freeSeq = s.freeSeq ∧
    ((ownWriteScene index flags fade modes ps s).1).pending = s.pending := by
  simp only [ownWriteScene]; (repeat' split) <;> simp

@[simp] theorem ownWriteCompressor_frame (index : Byte) (off on : Half) (lim : Byte) (s : State) :
    ((ownWriteCompressor index off on lim s).1).pt = s.pt ∧
    ((ownWriteCompressor index off on lim s).1).tick = s.tick ∧
    ((ownWriteCompressor index off on lim s).1).timers = s.timers ∧
    ((ownWriteCompressor index off on lim s).1).channels = s.channels ∧
    ((ownWriteCompressor index off on lim s).1).search = s.search ∧
    ((ownWriteCompressor index off on lim s).1).watches = s.watches ∧
    ((ownWriteCompressor index off on lim s).1).climateCfg = s.climateCfg ∧
    ((ownWriteCompressor index off on lim s).1).water = s.water ∧
    ((ownWriteCompressor index off on lim s).1).climate = s.climate ∧
    ((ownWriteCompressor index off on lim s).1).mode = s.mode ∧
    ((ownWriteCompressor index off on lim s).1).alloc = s.alloc ∧
    ((ownWriteCompressor index off on lim s).1).cover = s.cover ∧
    ((ownWriteCompressor index off on lim s).1).light = s.light ∧
    ((ownWriteCompressor index off on lim s).1).restartPending = s.restartPending ∧
    ((ownWriteCompressor index off on lim s).1).store = s.store ∧
    ((ownWriteCompressor index off on lim s).1).pins = s.pins ∧
    ((ownWriteCompressor index off on lim s).1).pending = s.pending := by
  simp only [ownWriteCompressor]; (repeat' split) <;> simp

@[simp] theorem ownSetModeHall_frame (mode target : Byte) (s : State) :
    ((ownSetModeHall mode target s).1).pt = s.pt ∧
    ((ownSetModeHall mode target s).1).tick = s.tick ∧
    ((ownSetModeHall mode target s).1).timers = s.timers ∧
    ((ownSetModeHall mode target s).1).channels = s.channels ∧
    ((ownSetModeHall mode target s).1).search = s.search ∧
    ((ownSetModeHall mode target s).1).watches = s.watches ∧
    ((ownSetModeHall mode target s).1).climateCfg = s.climateCfg ∧
    ((ownSetModeHall mode target s).1).water = s.water ∧
    ((ownSetModeHall mode target s).1).climate = s.climate ∧
    ((ownSetModeHall mode target s).1).alloc = s.alloc ∧
    ((ownSetModeHall mode target s).1).restartPending = s.restartPending ∧
    ((ownSetModeHall mode target s).1).store = s.store ∧
    ((ownSetModeHall mode target s).1).pins = s.pins ∧
    ((ownSetModeHall mode target s).1).freeSeq = s.freeSeq ∧
    ((ownSetModeHall mode target s).1).pending = s.pending := by
  simp only [ownSetModeHall]; (repeat' split) <;> simp

@[simp] theorem ownSetModeStart_frame (mode : Byte) (s : State) :
    ((ownSetModeStart mode s).1).pt = s.pt ∧
    ((ownSetModeStart mode s).1).tick = s.tick ∧
    ((ownSetModeStart mode s).1).timers = s.timers ∧
    ((ownSetModeStart mode s).1).channels = s.channels ∧
    ((ownSetModeStart mode s).1).search = s.search ∧
    ((ownSetModeStart mode s).1).watches = s.watches ∧
    ((ownSetModeStart mode s).1).climateCfg = s.climateCfg ∧
    ((ownSetModeStart mode s).1).water = s.water ∧
    ((ownSetModeStart mode s).1).climate = s.climate ∧
    ((ownSetModeStart mode s).1).alloc = s.alloc ∧
    ((ownSetModeStart mode s).1).seq = s.seq ∧
    ((ownSetModeStart mode s).1).cover = s.cover ∧
    ((ownSetModeStart mode s).1).light = s.light ∧
    ((ownSetModeStart mode s).1).ports = s.ports ∧
    ((ownSetModeStart mode s).1).restartPending = s.restartPending ∧
    ((ownSetModeStart mode s).1).store = s.store ∧
    ((ownSetModeStart mode s).1).pins = s.pins ∧
    ((ownSetModeStart mode s).1).freeSeq = s.freeSeq ∧
    ((ownSetModeStart mode s).1).pending = s.pending := by
  simp only [ownSetModeStart]; (repeat' split) <;> simp

@[simp] theorem ownReportWater_frame (t : Half) (s : State) :
    ((ownReportWater t s).1).pt = s.pt ∧
    ((ownReportWater t s).1).tick = s.tick ∧
    ((ownReportWater t s).1).timers = s.timers ∧
    ((ownReportWater t s).1).channels = s.channels ∧
    ((ownReportWater t s).1).search = s.search ∧
    ((ownReportWater t s).1).watches = s.watches ∧
    ((ownReportWater t s).1).climateCfg = s.climateCfg ∧
    ((ownReportWater t s).1).climate = s.climate ∧
    ((ownReportWater t s).1).mode = s.mode ∧
    ((ownReportWater t s).1).alloc = s.alloc ∧
    ((ownReportWater t s).1).seq = s.seq ∧
    ((ownReportWater t s).1).cover = s.cover ∧
    ((ownReportWater t s).1).light = s.light ∧
    ((ownReportWater t s).1).ports = s.ports ∧
    ((ownReportWater t s).1).restartPending = s.restartPending ∧
    ((ownReportWater t s).1).store = s.store ∧
    ((ownReportWater t s).1).pins = s.pins ∧
    ((ownReportWater t s).1).freeSeq = s.freeSeq ∧
    ((ownReportWater t s).1).pending = s.pending := by
  simp [ownReportWater]

@[simp] theorem ownWriteClimateCfg_frame (index : Byte) (fs : List Half) (s : State) :
    ((ownWriteClimateCfg index fs s).1).pt = s.pt ∧
    ((ownWriteClimateCfg index fs s).1).tick = s.tick ∧
    ((ownWriteClimateCfg index fs s).1).timers = s.timers ∧
    ((ownWriteClimateCfg index fs s).1).channels = s.channels ∧
    ((ownWriteClimateCfg index fs s).1).search = s.search ∧
    ((ownWriteClimateCfg index fs s).1).watches = s.watches ∧
    ((ownWriteClimateCfg index fs s).1).water = s.water ∧
    ((ownWriteClimateCfg index fs s).1).climate = s.climate ∧
    ((ownWriteClimateCfg index fs s).1).mode = s.mode ∧
    ((ownWriteClimateCfg index fs s).1).alloc = s.alloc ∧
    ((ownWriteClimateCfg index fs s).1).seq = s.seq ∧
    ((ownWriteClimateCfg index fs s).1).cover = s.cover ∧
    ((ownWriteClimateCfg index fs s).1).light = s.light ∧
    ((ownWriteClimateCfg index fs s).1).ports = s.ports ∧
    ((ownWriteClimateCfg index fs s).1).restartPending = s.restartPending ∧
    ((ownWriteClimateCfg index fs s).1).store = s.store ∧
    ((ownWriteClimateCfg index fs s).1).pins = s.pins ∧
    ((ownWriteClimateCfg index fs s).1).freeSeq = s.freeSeq ∧
    ((ownWriteClimateCfg index fs s).1).pending = s.pending := by
  simp only [ownWriteClimateCfg]; (repeat' split) <;> simp

@[simp] theorem ownWriteAllowance_frame (index : Byte) (v : Half) (s : State) :
    ((ownWriteAllowance index v s).1).pt = s.pt ∧
    ((ownWriteAllowance index v s).1).tick = s.tick ∧
    ((ownWriteAllowance index v s).1).timers = s.timers ∧
    ((ownWriteAllowance index v s).1).channels = s.channels ∧
    ((ownWriteAllowance index v s).1).search = s.search ∧
    ((ownWriteAllowance index v s).1).watches = s.watches ∧
    ((ownWriteAllowance index v s).1).climateCfg = s.climateCfg ∧
    ((ownWriteAllowance index v s).1).water = s.water ∧
    ((ownWriteAllowance index v s).1).climate = s.climate ∧
    ((ownWriteAllowance index v s).1).mode = s.mode ∧
    ((ownWriteAllowance index v s).1).seq = s.seq ∧
    ((ownWriteAllowance index v s).1).cover = s.cover ∧
    ((ownWriteAllowance index v s).1).light = s.light ∧
    ((ownWriteAllowance index v s).1).ports = s.ports ∧
    ((ownWriteAllowance index v s).1).restartPending = s.restartPending ∧
    ((ownWriteAllowance index v s).1).store = s.store ∧
    ((ownWriteAllowance index v s).1).pins = s.pins ∧
    ((ownWriteAllowance index v s).1).freeSeq = s.freeSeq ∧
    ((ownWriteAllowance index v s).1).pending = s.pending := by
  simp only [ownWriteAllowance]; (repeat' split) <;> simp

@[simp] theorem ownWriteConsumer_frame (index : Byte) (ds : List Half) (s : State) :
    ((ownWriteConsumer index ds s).1).pt = s.pt ∧
    ((ownWriteConsumer index ds s).1).tick = s.tick ∧
    ((ownWriteConsumer index ds s).1).timers = s.timers ∧
    ((ownWriteConsumer index ds s).1).channels = s.channels ∧
    ((ownWriteConsumer index ds s).1).search = s.search ∧
    ((ownWriteConsumer index ds s).1).watches = s.watches ∧
    ((ownWriteConsumer index ds s).1).climateCfg = s.climateCfg ∧
    ((ownWriteConsumer index ds s).1).water = s.water ∧
    ((ownWriteConsumer index ds s).1).climate = s.climate ∧
    ((ownWriteConsumer index ds s).1).mode = s.mode ∧
    ((ownWriteConsumer index ds s).1).seq = s.seq ∧
    ((ownWriteConsumer index ds s).1).cover = s.cover ∧
    ((ownWriteConsumer index ds s).1).light = s.light ∧
    ((ownWriteConsumer index ds s).1).ports = s.ports ∧
    ((ownWriteConsumer index ds s).1).restartPending = s.restartPending ∧
    ((ownWriteConsumer index ds s).1).store = s.store ∧
    ((ownWriteConsumer index ds s).1).pins = s.pins ∧
    ((ownWriteConsumer index ds s).1).freeSeq = s.freeSeq ∧
    ((ownWriteConsumer index ds s).1).pending = s.pending := by
  simp only [ownWriteConsumer]; (repeat' split) <;> simp

@[simp] theorem ownWriteLimits_frame (index : Byte) (a b d e : Half) (s : State) :
    ((ownWriteLimits index a b d e s).1).pt = s.pt ∧
    ((ownWriteLimits index a b d e s).1).tick = s.tick ∧
    ((ownWriteLimits index a b d e s).1).timers = s.timers ∧
    ((ownWriteLimits index a b d e s).1).channels = s.channels ∧
    ((ownWriteLimits index a b d e s).1).search = s.search ∧
    ((ownWriteLimits index a b d e s).1).watches = s.watches ∧
    ((ownWriteLimits index a b d e s).1).climateCfg = s.climateCfg ∧
    ((ownWriteLimits index a b d e s).1).water = s.water ∧
    ((ownWriteLimits index a b d e s).1).climate = s.climate ∧
    ((ownWriteLimits index a b d e s).1).mode = s.mode ∧
    ((ownWriteLimits index a b d e s).1).cover = s.cover ∧
    ((ownWriteLimits index a b d e s).1).light = s.light ∧
    ((ownWriteLimits index a b d e s).1).restartPending = s.restartPending ∧
    ((ownWriteLimits index a b d e s).1).store = s.store ∧
    ((ownWriteLimits index a b d e s).1).pins = s.pins ∧
    ((ownWriteLimits index a b d e s).1).pending = s.pending := by
  simp only [ownWriteLimits]; (repeat' split) <;> simp

@[simp] theorem ownClearCounters_frame (s : State) :
    ((ownClearCounters s).1).pt = s.pt ∧
    ((ownClearCounters s).1).tick = s.tick ∧
    ((ownClearCounters s).1).timers = s.timers ∧
    ((ownClearCounters s).1).channels = s.channels ∧
    ((ownClearCounters s).1).search = s.search ∧
    ((ownClearCounters s).1).watches = s.watches ∧
    ((ownClearCounters s).1).climateCfg = s.climateCfg ∧
    ((ownClearCounters s).1).water = s.water ∧
    ((ownClearCounters s).1).climate = s.climate ∧
    ((ownClearCounters s).1).mode = s.mode ∧
    ((ownClearCounters s).1).seq = s.seq ∧
    ((ownClearCounters s).1).cover = s.cover ∧
    ((ownClearCounters s).1).light = s.light ∧
    ((ownClearCounters s).1).ports = s.ports ∧
    ((ownClearCounters s).1).restartPending = s.restartPending ∧
    ((ownClearCounters s).1).store = s.store ∧
    ((ownClearCounters s).1).pins = s.pins ∧
    ((ownClearCounters s).1).freeSeq = s.freeSeq ∧
    ((ownClearCounters s).1).pending = s.pending := by
  simp [ownClearCounters]

@[simp] theorem ownReadItems_frame (k first count : Byte) (s : State) :
    ((ownReadItems k first count s).1).pt = s.pt ∧
    ((ownReadItems k first count s).1).tick = s.tick ∧
    ((ownReadItems k first count s).1).timers = s.timers ∧
    ((ownReadItems k first count s).1).channels = s.channels ∧
    ((ownReadItems k first count s).1).search = s.search ∧
    ((ownReadItems k first count s).1).watches = s.watches ∧
    ((ownReadItems k first count s).1).climateCfg = s.climateCfg ∧
    ((ownReadItems k first count s).1).water = s.water ∧
    ((ownReadItems k first count s).1).climate = s.climate ∧
    ((ownReadItems k first count s).1).mode = s.mode ∧
    ((ownReadItems k first count s).1).alloc = s.alloc ∧
    ((ownReadItems k first count s).1).seq = s.seq ∧
    ((ownReadItems k first count s).1).cover = s.cover ∧
    ((ownReadItems k first count s).1).light = s.light ∧
    ((ownReadItems k first count s).1).ports = s.ports ∧
    ((ownReadItems k first count s).1).restartPending = s.restartPending ∧
    ((ownReadItems k first count s).1).store = s.store ∧
    ((ownReadItems k first count s).1).pins = s.pins ∧
    ((ownReadItems k first count s).1).pending = s.pending := by
  simp only [ownReadItems]; (repeat' split) <;> simp

@[simp] theorem ownStatus_frame (p : PortId) (s : State) :
    ((ownStatus p s).1).pt = s.pt ∧
    ((ownStatus p s).1).tick = s.tick ∧
    ((ownStatus p s).1).timers = s.timers ∧
    ((ownStatus p s).1).channels = s.channels ∧
    ((ownStatus p s).1).search = s.search ∧
    ((ownStatus p s).1).watches = s.watches ∧
    ((ownStatus p s).1).climateCfg = s.climateCfg ∧
    ((ownStatus p s).1).water = s.water ∧
    ((ownStatus p s).1).climate = s.climate ∧
    ((ownStatus p s).1).mode = s.mode ∧
    ((ownStatus p s).1).alloc = s.alloc ∧
    ((ownStatus p s).1).seq = s.seq ∧
    ((ownStatus p s).1).cover = s.cover ∧
    ((ownStatus p s).1).light = s.light ∧
    ((ownStatus p s).1).ports = s.ports ∧
    ((ownStatus p s).1).restartPending = s.restartPending ∧
    ((ownStatus p s).1).store = s.store ∧
    ((ownStatus p s).1).pins = s.pins ∧
    ((ownStatus p s).1).freeSeq = s.freeSeq ∧
    ((ownStatus p s).1).pending = s.pending := by
  simp [ownStatus]

@[simp] theorem ownTakeNotices_frame (p : PortId) (s : State) :
    ((ownTakeNotices p s).1).pt = s.pt ∧
    ((ownTakeNotices p s).1).tick = s.tick ∧
    ((ownTakeNotices p s).1).timers = s.timers ∧
    ((ownTakeNotices p s).1).channels = s.channels ∧
    ((ownTakeNotices p s).1).search = s.search ∧
    ((ownTakeNotices p s).1).watches = s.watches ∧
    ((ownTakeNotices p s).1).climateCfg = s.climateCfg ∧
    ((ownTakeNotices p s).1).water = s.water ∧
    ((ownTakeNotices p s).1).climate = s.climate ∧
    ((ownTakeNotices p s).1).mode = s.mode ∧
    ((ownTakeNotices p s).1).alloc = s.alloc ∧
    ((ownTakeNotices p s).1).seq = s.seq ∧
    ((ownTakeNotices p s).1).cover = s.cover ∧
    ((ownTakeNotices p s).1).light = s.light ∧
    ((ownTakeNotices p s).1).restartPending = s.restartPending ∧
    ((ownTakeNotices p s).1).store = s.store ∧
    ((ownTakeNotices p s).1).pins = s.pins ∧
    ((ownTakeNotices p s).1).freeSeq = s.freeSeq ∧
    ((ownTakeNotices p s).1).pending = s.pending := by
  simp [ownTakeNotices]

@[simp] theorem ownSetAcceptance_frame (p : PortId) (acc : BitVec 64) (f1 f2 : Filter) (th : Byte) (si : Half) (s : State) :
    ((ownSetAcceptance p acc f1 f2 th si s).1).pt = s.pt ∧
    ((ownSetAcceptance p acc f1 f2 th si s).1).tick = s.tick ∧
    ((ownSetAcceptance p acc f1 f2 th si s).1).timers = s.timers ∧
    ((ownSetAcceptance p acc f1 f2 th si s).1).channels = s.channels ∧
    ((ownSetAcceptance p acc f1 f2 th si s).1).search = s.search ∧
    ((ownSetAcceptance p acc f1 f2 th si s).1).watches = s.watches ∧
    ((ownSetAcceptance p acc f1 f2 th si s).1).climateCfg = s.climateCfg ∧
    ((ownSetAcceptance p acc f1 f2 th si s).1).water = s.water ∧
    ((ownSetAcceptance p acc f1 f2 th si s).1).climate = s.climate ∧
    ((ownSetAcceptance p acc f1 f2 th si s).1).mode = s.mode ∧
    ((ownSetAcceptance p acc f1 f2 th si s).1).alloc = s.alloc ∧
    ((ownSetAcceptance p acc f1 f2 th si s).1).seq = s.seq ∧
    ((ownSetAcceptance p acc f1 f2 th si s).1).cover = s.cover ∧
    ((ownSetAcceptance p acc f1 f2 th si s).1).light = s.light ∧
    ((ownSetAcceptance p acc f1 f2 th si s).1).restartPending = s.restartPending ∧
    ((ownSetAcceptance p acc f1 f2 th si s).1).store = s.store ∧
    ((ownSetAcceptance p acc f1 f2 th si s).1).pins = s.pins ∧
    ((ownSetAcceptance p acc f1 f2 th si s).1).freeSeq = s.freeSeq ∧
    ((ownSetAcceptance p acc f1 f2 th si s).1).pending = s.pending := by
  simp only [ownSetAcceptance]; (repeat' split) <;> simp

@[simp] theorem ownStoreSettings_frame (p : PortId) (s : State) :
    ((ownStoreSettings p s).1).pt = s.pt ∧
    ((ownStoreSettings p s).1).tick = s.tick ∧
    ((ownStoreSettings p s).1).timers = s.timers ∧
    ((ownStoreSettings p s).1).channels = s.channels ∧
    ((ownStoreSettings p s).1).search = s.search ∧
    ((ownStoreSettings p s).1).watches = s.watches ∧
    ((ownStoreSettings p s).1).climateCfg = s.climateCfg ∧
    ((ownStoreSettings p s).1).water = s.water ∧
    ((ownStoreSettings p s).1).climate = s.climate ∧
    ((ownStoreSettings p s).1).mode = s.mode ∧
    ((ownStoreSettings p s).1).alloc = s.alloc ∧
    ((ownStoreSettings p s).1).seq = s.seq ∧
    ((ownStoreSettings p s).1).cover = s.cover ∧
    ((ownStoreSettings p s).1).light = s.light ∧
    ((ownStoreSettings p s).1).ports = s.ports ∧
    ((ownStoreSettings p s).1).restartPending = s.restartPending ∧
    ((ownStoreSettings p s).1).pins = s.pins ∧
    ((ownStoreSettings p s).1).freeSeq = s.freeSeq ∧
    ((ownStoreSettings p s).1).pending = s.pending := by
  simp only [ownStoreSettings]; split <;> simp

@[simp] theorem ownRestart_frame (p : PortId) (s : State) :
    ((ownRestart p s).1).pt = s.pt ∧
    ((ownRestart p s).1).tick = s.tick ∧
    ((ownRestart p s).1).timers = s.timers ∧
    ((ownRestart p s).1).channels = s.channels ∧
    ((ownRestart p s).1).search = s.search ∧
    ((ownRestart p s).1).watches = s.watches ∧
    ((ownRestart p s).1).climateCfg = s.climateCfg ∧
    ((ownRestart p s).1).water = s.water ∧
    ((ownRestart p s).1).climate = s.climate ∧
    ((ownRestart p s).1).mode = s.mode ∧
    ((ownRestart p s).1).alloc = s.alloc ∧
    ((ownRestart p s).1).seq = s.seq ∧
    ((ownRestart p s).1).cover = s.cover ∧
    ((ownRestart p s).1).light = s.light ∧
    ((ownRestart p s).1).ports = s.ports ∧
    ((ownRestart p s).1).store = s.store ∧
    ((ownRestart p s).1).pins = s.pins ∧
    ((ownRestart p s).1).freeSeq = s.freeSeq ∧
    ((ownRestart p s).1).pending = s.pending := by
  simp only [ownRestart]; split <;> simp

end Sys2Proof.Machine
end

