-- ==== Sys2Proof/Laws/Operations.lean ====
section
/-! SUPPORT. For the shared operations, one lemma each that says once what the operation can do: clamps, record
numbers, replies, filing, the cap, targets, and the start test. -/

namespace Sys2Proof.Machine

/-! ## Fields of requests -/

theorem clampNat_eq {x lo hi : Nat} (h : lo ≤ hi) : clampNat x lo hi = max lo (min x hi) := by
  unfold clampNat; split <;> (try split) <;> omega

theorem clampInt_eq {x lo hi : Int} (h : lo ≤ hi) : clampInt x lo hi = max lo (min x hi) := by
  unfold clampInt; split <;> (try split) <;> omega

theorem indexBelow_eq_some {n : Nat} {b : Byte} (i : Fin n) (h : i.val = b.toNat) : indexBelow n b = some i := by
  unfold indexBelow; rw [dif_pos (by omega)]; exact congrArg some (Fin.ext h.symm)

theorem indexBelow_eq_none {n : Nat} {b : Byte} (h : n ≤ b.toNat) : indexBelow n b = none := by
  unfold indexBelow; rw [dif_neg (by omega)]

theorem okOrClamped_eq (b : Bool) (p : Prop) [Decidable p] (h : b = true ↔ ¬p) :
    okOrClamped b = if p then .ok else .clamped := by
  by_cases hp : p <;> simp_all [okOrClamped]

/-! ## The line -/

/-- A byte takes eleven bit times (R147). -/
theorem lineBits_length (data : Byte) : (lineBits data).length = 11 := rfl

theorem txdLine_of_transmitting {q : Port} (h : q.rx = .transmitting) : txdLine q = some (q.tx.flatMap lineBits) := by
  simp [txdLine, txDriven, h]

theorem txdLine_of_released {q : Port} (h : txDriven q = false) : txdLine q = none := by simp [txdLine, h]

/-! ## Requests in service -/

/-- A request in service is taken by its owner, and the answer is the reply. -/
theorem requestStep_of_served {p : PortId} {c : Instr} {s : State} (h : Served s p c) :
    requestStep p c s = takeHanded p c s := by
  unfold Served at h; unfold requestStep; exact if_pos h

/-- A refused request changes nothing but the port's line. -/
theorem sendReply_refused (p : PortId) (code : Byte) (r : Result) (s : State) :
    sendReply p code (refuse r s).2 (refuse r s).1 = reply p code r s := rfl

/-- A reply touches its port alone, and there neither role nor presence nor notices. -/
theorem sendReply_ports (p q : PortId) (code : Byte) (a : Answer) (s : State) :
    (sendReply p code a s).ports[q] = if p = q then
      { s.ports[p] with
        rx := .transmitting, handed := none, tx := replyBytes code (resultCode a.result) a.payload }
      else s.ports[q] := by
  by_cases h : p = q
  · subst h; simp [sendReply, setPort]
  · have hv : p.val ≠ q.val := fun e => h (Fin.ext e)
    simp [sendReply, setPort, h, hv]

/-! ## Filing -/

/-- Joining the queue keeps its bound and that of the drop count, and touches neither slot nor filters. -/
theorem enqueue_bounds (n : Notice) (q : NoticeStore) (h : q.queue.length ≤ 8) (d : q.drops ≤ 255) :
    (enqueue n q).queue.length ≤ 8 ∧ (enqueue n q).drops ≤ 255 ∧ (enqueue n q).slot = q.slot ∧
      (enqueue n q).filter1 = q.filter1 ∧ (enqueue n q).filter2 = q.filter2 ∧
      (enqueue n q).acceptance = q.acceptance ∧ (enqueue n q).threshold = q.threshold := by
  unfold enqueue
  split
  · refine ⟨by simp; omega, ?_, rfl, rfl, rfl, rfl, rfl⟩
    simp only; split <;> omega
  · exact ⟨by simp; omega, d, rfl, rfl, rfl, rfl, rfl⟩

/-- Filing keeps the bounds of a store. -/
theorem fileNotice_bounds (n : Notice) (q : NoticeStore) (h : q.queue.length ≤ 8) (d : q.drops ≤ 255) :
    (fileNotice n q).queue.length ≤ 8 ∧ (fileNotice n q).drops ≤ 255 := by
  have e := enqueue_bounds n q h d
  unfold fileNotice
  split
  · split
    · exact ⟨h, d⟩
    · exact ⟨e.1, e.2.1⟩
  · split
    · exact ⟨e.1, e.2.1⟩
    · exact ⟨h, d⟩

/-- What a notice store holds beside slot, queue and drop count is not touched by filing. -/
theorem fileNotice_choices (n : Notice) (q : NoticeStore) :
    (fileNotice n q).filter1 = q.filter1 ∧ (fileNotice n q).filter2 = q.filter2 ∧
      (fileNotice n q).acceptance = q.acceptance ∧ (fileNotice n q).threshold = q.threshold := by
  unfold fileNotice enqueue
  split <;> split <;> (try split) <;> exact ⟨rfl, rfl, rfl, rfl⟩

/-! ## The cap -/

/-- The applied levels enter no draw that the cap limit is formed from. -/
theorem capLimitOf_formApplied (l : Lighting) : capLimitOf (formApplied l) = capLimitOf l := by
  simp [capLimitOf, capBasis, requestR, inFlightU, sumGroups, formApplied, Vector.toList_map, Function.comp_def]

/-- The levels formed under a cap that does not exceed the limit make the cap record sound. -/
theorem formApplied_sound (l : Lighting) (c : Nat) (hc : c = capLimitOf l) (h : l.appliedCap ≤ c) :
    capSound (formApplied { l with capLimit := c }) := by
  refine ⟨?_, h, ?_⟩
  · rw [capLimitOf_formApplied]; exact hc
  · intro g; simp [formApplied, appliedLevel]

/-- R142: after an evaluation of the cap limit the cap record is sound. -/
theorem evalCap_sound (l : Lighting) : capSound (evalCap l) :=
  formApplied_sound { l with appliedCap := min l.appliedCap (capLimitOf l) } _ rfl (Nat.min_le_right ..)

/-- R143: after the cap of a fade tick the cap record is sound. -/
theorem tickCap_sound (l : Lighting) : capSound (tickCap l) := by
  refine formApplied_sound
    { l with appliedCap := if capLimitOf l < l.appliedCap then capLimitOf l
                           else min (capLimitOf l) (l.appliedCap + 20) } _ rfl ?_
  simp only; split <;> omega

/-- An evaluation of the cap changes the cap limit, the applied cap and the applied levels alone. -/
theorem evalCap_groups (l : Lighting) (g : GroupId) :
    (evalCap l).groups[g] = { l.groups[g] with applied := appliedLevel (evalCap l).appliedCap l.groups[g] } := by
  simp [evalCap, formApplied]

/-! ## The start test -/

/-- R91: what a start test can do: nothing, prune the history, block, or start. -/
theorem startTest_cases (i : CompId) (s : State) :
    startTest i s = s ∨
      (s.seq.comps[i].state = .offReady ∧ s.seq.comps[i].grant = true ∧
        (startTest i s = setComp i { s.seq.comps[i] with history := prune s.pt s.seq.comps[i].history } s ∨
          (startLimit s.alloc s.seq.comps[i] ≤ (prune s.pt s.seq.comps[i].history).length ∧
            startTest i s = blockComp i (prune s.pt s.seq.comps[i].history) s) ∨
          ((prune s.pt s.seq.comps[i].history).length < startLimit s.alloc s.seq.comps[i] ∧
            startConditions s.seq = true ∧
            startTest i s = startComp i (prune s.pt s.seq.comps[i].history) s))) := by
  unfold startTest
  simp only
  split
  · rename_i h
    refine .inr ⟨h.1, h.2, ?_⟩
    split
    · rename_i hl; exact .inr (.inl ⟨hl, rfl⟩)
    · rename_i hl
      split
      · rename_i hc; exact .inr (.inr ⟨Nat.lt_of_not_le hl, hc, rfl⟩)
      · exact .inl rfl
  · exact .inl rfl

/-- R91: the conditions of a start, as the statements say them. -/
theorem startConditions_iff (q : Sequencer) : startConditions q = true ↔ mayStart q q.fanLevel := by
  simp [startConditions, mayStart, and_assoc]

/-- The compressor written is the one read. -/
theorem setComp_self (i : CompId) (c : Compressor) (s : State) : (setComp i c s).seq.comps[i] = c := by
  simp [setComp]

/-- R90 to R92: what a start test does to its compressor, and what it posts. -/
theorem startTest_spec (i : CompId) (s : State) :
    StartTested s.pt (startLimit s.alloc s.seq.comps[i]) (mayStart s.seq s.seq.fanLevel) s.seq.comps[i]
        (startTest i s).seq.comps[i] ∧
      (startTest i s).ports = (postAll (startNotices i s.seq.comps[i] (startTest i s).seq.comps[i]) s).ports := by
  generalize hc : s.seq.comps[i] = c
  generalize hh : prune s.pt c.history = h
  by_cases ht : c.state = .offReady ∧ c.grant = true
  · by_cases hl : startLimit s.alloc c ≤ h.length
    · have e : startTest i s = blockComp i h s := by simp only [startTest, hc, hh, if_pos ht, if_pos hl]
      by_cases hb : c.blocked = true
      · have e2 : blockComp i h s = setComp i { c with history := h } s := by simp only [blockComp, hc, if_pos hb]
        rw [e, e2, setComp_self]
        refine ⟨?_, ?_⟩
        · simp only [StartTested, hh]
          exact ⟨fun n => absurd ht n, fun _ l => absurd hl (Nat.not_le.mpr l), fun _ l => absurd hl (Nat.not_le.mpr l),
            fun _ _ => ⟨by simp [hb], fun _ => trivial, fun n => absurd hb (by simp [n])⟩⟩
        · simp [startNotices, ht.1, hb, postAll]
      · cases h with
        | nil =>
          have e2 : (blockComp i [] s).seq.comps[i] =
              { c with history := [], blocked := true, nextStart := Config.nextStartOfNone s.freeSeq } := by
            simp only [blockComp, hc, if_neg hb]; exact setComp_self ..
          rw [e, e2]
          refine ⟨?_, ?_⟩
          · simp only [StartTested, hh]
            exact ⟨fun n => absurd ht n, fun _ l => absurd hl (Nat.not_le.mpr l),
              fun _ l => absurd hl (Nat.not_le.mpr l), fun _ _ => ⟨trivial, fun n => absurd n hb, fun _ e h => by simp at h⟩⟩
          · simp [blockComp, hc, startNotices, ht.1, hb, postAll, post, setComp]
        | cons x xs =>
          have e2 : (blockComp i (x :: xs) s).seq.comps[i] =
              { c with history := x :: xs, blocked := true, nextStart := x + 3600 } := by
            simp only [blockComp, hc, if_neg hb]; exact setComp_self ..
          rw [e, e2]
          refine ⟨?_, ?_⟩
          · simp only [StartTested, hh]
            exact ⟨fun n => absurd ht n, fun _ l => absurd hl (Nat.not_le.mpr l),
              fun _ l => absurd hl (Nat.not_le.mpr l),
              fun _ _ => ⟨trivial, fun n => absurd n hb, fun _ e h => by cases h; rfl⟩⟩
          · have e3 : (blockComp i (x :: xs) s).ports = (post .startLimit i (x + 3600).toNat s).ports := by
              simp only [blockComp, hc, if_neg hb]; rfl
            rw [e3]; simp only [startNotices, ht.1, hb]; rfl
    · have hl' := Nat.lt_of_not_le hl
      by_cases hs : startConditions s.seq = true
      · have e : startTest i s = startComp i h s := by simp only [startTest, hc, hh, if_pos ht, if_neg hl, if_pos hs]
        have e2 : (startComp i h s).seq.comps[i] = { c with
            state := .runMin, history := h ++ [s.pt], offTimer := none
            onTimer := some (c.cfg.minOn * Config.ticksPerSecond), blocked := false } := by
          simp only [startComp, hc]; exact setComp_self ..
        rw [e, e2]
        refine ⟨?_, ?_⟩
        · simp only [StartTested, hh]
          exact ⟨fun n => absurd ht n, fun _ _ _ => by simp [Config.ticksPerSecond, Nat.mul_comm],
            fun _ _ n => absurd ((startConditions_iff _).mp hs) n, fun _ l => absurd l hl⟩
        · simp [startComp, hc, startNotices, ht.1, postAll, post, setComp]
      · have e : startTest i s = setComp i { c with history := h } s := by
          simp only [startTest, hc, hh, if_pos ht, if_neg hl, if_neg hs]
        rw [e, setComp_self]
        refine ⟨?_, ?_⟩
        · simp only [StartTested, hh]
          exact ⟨fun n => absurd ht n, fun _ _ m => absurd ((startConditions_iff _).mpr m) hs, fun _ _ _ => trivial,
            fun _ l => absurd l hl⟩
        · simp only [startNotices, ht.1]
          cases c.blocked <;> rfl
  · have e : startTest i s = s := by simp only [startTest, hc, if_neg ht]
    rw [e, hc]
    refine ⟨?_, ?_⟩
    · simp only [StartTested]
      exact ⟨fun _ => trivial, fun n => absurd n ht, fun n => absurd n ht, fun n => absurd n ht⟩
    · cases hb : c.blocked <;> cases hst : c.state <;> simp [startNotices, hb, hst, postAll]

/-- R90: pruning only shortens a history. -/
theorem prune_length_le (pt : Word) (h : List Word) : (prune pt h).length ≤ h.length :=
  (List.dropWhile_suffix _).length_le

/-! ## Running and the limits check -/

/-- R63: a consumer that is no compressor runs where its applied draw is above 0. -/
theorem consumerRuns_iff (s : State) (k : Fin 8) (h1 : k ≠ 1) (h2 : k ≠ 2) :
    consumerRuns s k = true ↔ 0 < appliedDraw s k := by
  unfold consumerRuns
  split <;> simp_all

/-- R81: the limits check brings into force the built-in values under LIMITS_FAULT, and else the stored ones. -/
@[simp] theorem bringInForce_inForce (a : Allocator) :
    (bringInForce a).inForce = if nextFault a then builtinLimits else a.limits.map LimitPair.value := rfl

@[simp] theorem bringInForce_limitsFault (a : Allocator) : (bringInForce a).limitsFault = nextFault a := rfl

@[simp] theorem bringInForce_limits (a : Allocator) : (bringInForce a).limits = a.limits := rfl

/-- R81: what the limits check can do to the Allocator: it brings the limits into force and changes nothing else. -/
theorem checkLimits_alloc (s : State) : (checkLimits s).alloc = bringInForce s.alloc := by
  unfold checkLimits postLimitsFault
  repeat' split
  all_goals simp

end Sys2Proof.Machine
end

