-- ==== Sys2Proof/Tests/Slice0.lean ====
section
/-! SUPPORT. The model's own tests: ill-formed commands that WellFormed refuses, the worked cases of the manual (each
names its section), and for each statement with hypotheses a witness that meets them. -/

namespace Sys2Proof.Tests

open Sys2Proof.Machine

-- The kernel checks are made one after the other: each holds a thread of its own otherwise.
set_option Elab.async false

/-! ## Small states -/

/-- The state a command answers, or the state itself where it answers none. -/
def after (c : Instr) (s : State) : State :=
  match exec c s with
  | .next t => t
  | .fault _ | .refused _ => s

/-- A request in service at its port. -/
def sv (p : PortId) (c : Instr) (s : State) : State := setPort p { s.ports[p] with handed := some c } s

/-- The reset state with one record changed. -/
def withPort (p : PortId) (f : Port → Port) : State := setPort p (f State.reset.ports[p]) State.reset
def withComp (i : CompId) (f : Compressor → Compressor) : State :=
  setComp i (f State.reset.seq.comps[i]) State.reset
def withChan (n : ChanId) (f : Channel → Channel) : State := setChannel n (f State.reset.channels[n]) State.reset
def withCover (f : Cover → Cover) : State := modCover f State.reset
def withSeq (f : Sequencer → Sequencer) : State := modSeq f State.reset

/-- A store of the settings runs. -/
def busy : State := { State.reset with store := { State.reset.store with busy := true } }

/-- The last notice filed at P0. -/
def lastNotice (s : State) : Option Notice := s.ports[(0 : PortId)].notices.queue.getLast?

/-! ## Ill-formed commands -/

theorem test_unknownRequest_known_code : wellFormed (.unknownRequest 0 0x01 []) = false := by decide +kernel
theorem test_unknownRequest_long : wellFormed (.unknownRequest 0 0x7F (List.replicate 61 0)) = false := by
  decide +kernel
theorem test_climateCfg_seventeen : wellFormed (.writeItemClimateCfg 0 0 (List.replicate 17 0)) = false := by
  decide +kernel
theorem test_consumer_two_draws : wellFormed (.writeItemConsumer 0 0 [1, 2]) = false := by decide +kernel
theorem test_consumer_item_four_draws : wellFormed (.writeItemConsumer 0 1 [1, 2, 3, 4]) = false := by decide +kernel
theorem test_coverCfg_seven : wellFormed (.writeItemCoverCfg 1 0 (List.replicate 7 0)) = false := by decide +kernel
theorem test_scene_eighteen_pairs :
    wellFormed (.writeItemScene 2 0 1 0 0 (List.replicate 18 (0, 0))) = false := by decide +kernel
theorem test_readOnly_long : wellFormed (.writeItemReadOnly 0 2 0 (List.replicate 59 0)) = false := by decide +kernel
theorem test_setModeHall_start_target : wellFormed (.setModeHall 0 1 1) = false := by decide +kernel
theorem test_recallLayer_start_target : wellFormed (.recallLayer 0 1 1) = false := by decide +kernel
theorem test_recallLayer_safety_target : wellFormed (.recallLayer 0 1 2) = false := by decide +kernel
theorem test_table_gives_no_bits : decodeTableWord 16 0x0102 = none := by decide +kernel

/-! ## Frames (section 8.9) -/

theorem test_setMode_frame : requestBytes 0x10 [1, 0] = [0xA7, 0x10, 2, 1, 0, 0x45] := by decide +kernel
theorem test_status_frame : requestBytes 0x01 [] = [0xA7, 0x01, 0, 0x57] := by decide +kernel
theorem test_setMode_night_reply :
    let t := after (.setModeHall 0 1 0) State.reset
    t.ports[(0 : PortId)].tx = [0x7A, 0x10, 0, 0, 0x75] ∧ t.mode.mode = .night ∧
      lastNotice t = some ⟨.modeChanged, 1, 0, 0, 0⟩ := by decide +kernel
theorem test_setMode_from_pool :
    let t := after (.setModeHall 1 1 0) State.reset
    t.ports[(1 : PortId)].tx = [0x7A, 0x10, 0x14, 0, 0x61] ∧ t.mode = State.reset.mode := by decide +kernel
theorem test_damaged_byte :
    (after (.receiveByte 0 1 false true)
      (withPort 0 fun q => { q with rx := .receiving, buffer := [0xA7, 0x10, 2] })).ports[(0 : PortId)].rx =
        .discarding := by decide +kernel
-- R147 by hand: 0xA7 is 10100111, five ones, so the parity bit is 1; P0 sends nothing at reset.
theorem test_line_bits :
    lineBits 0xA7 = [.start, .data true, .data true, .data true, .data false, .data false, .data true, .data false,
        .data true, .parity true, .stop] ∧
      txdLine State.reset.ports[(0 : PortId)] = none ∧
      (txdLine (after (.setModeHall 0 1 0) State.reset).ports[(0 : PortId)]).map List.length = some 55 := by
  decide +kernel
-- R172: the order of the table of R61, accumulator and then count.
theorem test_counters_record :
    countersRecord { State.reset.alloc.consumers[(0 : Fin 8)] with energyAcc := 0x0102, energyCount := 3 } =
      [2, 1, 3, 0, 0, 0] := by decide +kernel
theorem test_byte_wire : half 0x2C 0x01 = 300 ∧ intField (-13) = [0xF3, 0xFF] := by decide +kernel
theorem test_status_reply_length :
    (statusPayload 0 State.reset).length = 11 := by decide +kernel

/-! ## Hall air measurement (chapter 1) -/

/-- Channel 4 of section 1.2.1 after the eight scans. -/
def settled8 : Channel :=
  [2560, 2612, 2612, 2612, 2612, 2612, 2612, 2612].foldl (fun c raw => (visitChannel c raw).1)
    { State.reset.channels[(4 : ChanId)] with cfg := ⟨.airT, 0, 32, 32768⟩, status := .settling }

theorem test_settling_eight_scans :
    settled8.window = [300, 302, 304, 305, 306, 307, 307, 307] ∧ settled8.settled = 304 ∧ settled8.settle = 8 ∧
      settled8.status = .valid := by decide +kernel
theorem test_settling_ninth_scan :
    (visitChannel settled8 2612).1.settled = 305 ∧ (visitChannel settled8 4091).1.rail = 1 ∧
      (visitChannel settled8 4091).1.settled = 304 := by decide +kernel

/-- Channel 7 of section 1.3.1, under search. -/
def searching : State :=
  after (.zeroSearch 0 7) (withChan 7 fun c => { c with cfg := ⟨.glazeT, 0, 32, 32768⟩, status := .valid })

theorem test_zeroSearch_begins :
    searching.search = some ⟨7, 32, .valid, 32, 5, 10⟩ ∧
      searching.channels[(7 : ChanId)].status = .calibrating ∧ available searching 7 = true := by decide +kernel
theorem test_zeroSearch_six_steps :
    let t := [true, false, true, true, false, false].foldl (fun s b => after (.zeroSearchStep b) s) searching
    t.channels[(7 : ChanId)].cfg.trim = 19 ∧ t.channels[(7 : ChanId)].status = .settling ∧ t.search = none ∧
      (lastNotice t).map (fun n => (n.code, n.subject, n.value.toInt)) = some (.calDone, 7, -13) := by
  decide +kernel
theorem test_gainCorrect_worked : correctedGain 32768 250 = 31969 ∧ correctedGain 40000 (-1500) = 47059 := by
  decide +kernel

/-- Watch 3 of section 1.5.1. -/
def humidityWatch (tripped : Bool) : Watch := ⟨⟨.channel 5, .above, 650, 50, .forceDehum⟩, tripped, false, false⟩

theorem test_humidity_watch :
    compareWatch (humidityWatch false) 640 = false ∧ compareWatch (humidityWatch false) 660 = true ∧
      compareWatch (humidityWatch true) 620 = true ∧ compareWatch (humidityWatch true) 600 = true ∧
      compareWatch (humidityWatch true) 599 = false := by decide +kernel

/-! ## The climate computation (sections 2.11, 2.11.1, 2.9.1, 3.7) -/

def validChan (kind : Kind) (zone : Nat) (v : Int) : Channel :=
  { State.reset.channels[(0 : ChanId)] with cfg := ⟨kind, zone, 32, 32768⟩, status := .valid, settled := v }

/-- The hall of section 2.11 with its two glazing values, Dh, Dd and I16 before the computation. -/
def hall (g0 g1 : Int) (dh dd i16 : Nat) (m : Mode) : State :=
  { State.reset with
    channels := ((((((State.reset.channels.set 0 (validChan .airT 0 310)).set 1 (validChan .airRh 0 580)).set 2
      (validChan .airT 1 306)).set 3 (validChan .airRh 1 560)).set 4 (validChan .glazeT 0 g0)).set 5
      (validChan .glazeT 0 g1))
    water := ⟨some 292, 0, false⟩
    climate := { State.reset.climate with dh := dh, dd := dd, i16 := i16 }
    mode := { State.reset.mode with mode := m }
    seq := { State.reset.seq with comps := State.reset.seq.comps.set 0 { State.reset.seq.comps[0] with state := .run } }
    light := { State.reset.light with
      groups := State.reset.light.groups.set 0 { State.reset.light.groups[0] with cfg := ⟨240, 1000⟩ } } }

theorem test_worked_computation :
    let c := (after .climateComputation (hall 236 241 40 450 4800 .hallOpen)).climate
    [c.th, c.tdh, c.rhMax, c.tg, c.m, c.s, c.tw, c.i16, c.dh, c.dd] =
        [308, 217, 580, 236, 19, 307, 292, 4796, 9, 550] ∧ c.protective = false ∧ c.condensation = false := by
  decide +kernel
theorem test_onset_of_condensation :
    let c2 := computeClimate (hall 219 224 9 550 4796 .hallOpen)
    let c3 := computeClimate (hall 215 220 9 650 4796 .hallOpen)
    (c2.m, c2.dd, c2.protective, c2.condensation) = (2, 650, true, false) ∧
      (c3.m, c3.dd, c3.protective, c3.condensation) = (-2, 800, true, true) := by decide +kernel
theorem test_night_computation :
    let c := computeClimate (hall 236 241 9 550 4796 .night)
    (c.s, c.i16, c.dh, c.dd, c.protective) = (292, 4732, 0, 450, true) := by decide +kernel
theorem test_zone_dew_points :
    (zoneAir 310 580).dew = 217 ∧ (zoneAir 306 560).dew = 208 ∧ saturationAt 310 = 4502 := by decide +kernel
theorem test_moisture_blind_notice :
    let s := { State.reset with climate := { State.reset.climate with dd := 620, heatCount := 3, heatBlind := true } }
    lastNotice (after .climateComputation s) = some ⟨.climateBlind, 1, 620, 10, 0⟩ := by decide +kernel

/-! ## The worked pass (section 4.10) -/

/-- One group that makes the floor draw 70 and R 480, with an applied draw of 550 in all. -/
def passLight : Lighting :=
  { State.reset.light with
    groups := State.reset.light.groups.set 0
      { cfg := ⟨1000, 70⟩, target := 550, source := none, current := 550, fade := none, applied := 550 }
    grant := 480 }

def worked : State :=
  { State.reset with
    climate := { State.reset.climate with dh := 720, dd := 760 }
    light := passLight
    alloc := { State.reset.alloc with allowance := 900, count := 2, heaterReq := #v[true, false, false] }
    seq := { State.reset.seq with
      comps := #v[{ State.reset.seq.comps[0] with state := .runMin, runSeconds := 200 },
                  { State.reset.seq.comps[1] with state := .offReady }]
      fanLevel := 2, proof := .proven, fanProof := ⟨true, 0⟩, lossTimer := none } }

theorem test_worked_pass_records :
    let a := (after .allocationPass worked).alloc
    (a.committed, a.granted, a.remaining, a.heatHeld, a.dehumHeld, a.overCommit) =
        (250, 650, 0, false, true, false) ∧
      a.consumers.toList.map (fun k => (k.requested, k.granted, k.cls, k.held)) =
        [(3, 2, .protective, true), (1, 1, .committed, false), (1, 0, .comfort, true), (1, 1, .heating, false),
         (0, 0, .none, false), (0, 0, .none, false), (0, 0, .none, false), (480, 410, .lighting, false)] := by
  decide +kernel
theorem test_worked_pass_energy_and_cap :
    let t := after .allocationPass worked
    t.alloc.consumers.toList.map Consumer.energyAcc = [180, 360, 0, 0, 0, 0, 0, 1100] ∧ t.light.capLimit = 854 ∧
      t.seq.heaters[0].line = true := by decide +kernel

/-! ## The Sequencer (sections 5.4.1 and 5.11) -/

/-- C1 of section 5.4.1 in the second before PT `n + 1`. -/
def blockedAt (n : Word) (blocked : Bool) : State :=
  { withComp 0 (fun c => { c with
      cfg := ⟨300, 180, 3⟩, state := .offReady, grant := true, offTimer := none, history := [1000, 1900, 2800]
      blocked := blocked }) with pt := n, tick := 99, timers := { State.reset.timers with sequencer := 1 } }

/-- The same with the fan proven at level 2. -/
def airflow (s : State) : State := modSeq (fun q => { q with fanLevel := 2, proof := .proven }) s

theorem test_start_history_full :
    let t := after .sequencerSecond (airflow (blockedAt 3499 false))
    t.seq.comps[0].blocked = true ∧ t.seq.comps[0].nextStart = 4600 ∧
      lastNotice t = some ⟨.startLimit, 0, 4600, 3500, 0⟩ := by decide +kernel
theorem test_start_history_pruned :
    let t := after .sequencerSecond (airflow (blockedAt 4599 true))
    t.seq.comps[0].history = [1900, 2800, 4600] ∧ t.seq.comps[0].state = .runMin ∧
      lastNotice t = some ⟨.compStart, 0, 3, 4600, 0⟩ := by decide +kernel
theorem test_interlock_stops_c1 :
    let s := { withComp 0 fun c => { c with state := .runMin, onTimer := some 11963 } with
      pt := 10060, tick := 37, timers := { State.reset.timers with sample := 1 } }
    let t := after .interlockOn (modSeq (fun q => { q with fanLevel := 2 }) s)
    (t.pt, t.tick, t.seq.comps[0].state, t.seq.comps[0].offTimer, t.seq.fanLevel) =
        (10060, 42, .offLocked, some 30000, 0) ∧ lastNotice t = some ⟨.compStop, 0, 2, 10060, 42⟩ := by
  decide +kernel
theorem test_interlock_seconds :
    lastNotice (after .interlockOff (withSeq fun q => { q with interlock := ⟨true, 0⟩, interlockTicks := 6958 })) =
      some ⟨.interlockOff, 0, 69, 0, 5⟩ := by decide +kernel

/-! ## The covers (section 6.10) -/

theorem test_switch_closes_covers :
    let t := after .coverLimitChange
      (withCover fun c => { c with report := .closed, derived := .moving, mismatch := 20, switchOnly := false })
    t.cover.derived = .closed ∧ t.cover.prog = .settle ∧ t.cover.cycles = 0 ∧
      lastNotice t = some ⟨.coverState, 2, 1, 0, 5⟩ := by decide +kernel
theorem test_starved_purge :
    let t := after .purgeStarved (withCover fun c =>
      { c with derived := .closed, prog := .purge, counted := 440, starve := 3 })
    t.cover.starve = 4 ∧ t.cover.starved = true ∧ t.cover.counted = 440 ∧
      lastNotice t = some ⟨.purgeStarved, 2, 440, 1, 0⟩ := by decide +kernel
theorem test_release_after_preopen :
    let s := withCover fun c => { c with derived := .closed, prog := .preopen, preopenAcc := 1199, origin := some .mode }
    let t := after .preopenTimeMet (modSeq (fun q => { q with pfLine := true }) s)
    t.cover.prog = .released ∧ t.cover.release = true ∧ lastNotice t = some ⟨.coverRelease, 1, 900, 1, 0⟩ := by
  decide +kernel

/-! ## The lighting (sections 7.4.1, 7.6.1, 7.6.2) -/

theorem test_fade_levels : fadeLevel 300 800 20 50 = 500 ∧ fadeLevel 500 300 10 50 = 460 := by decide +kernel

def grp (load floor target current : Nat) (f : Option Fade) : Group := ⟨⟨load, floor⟩, target, none, current, f, 0⟩

def capCase (g3 : Group) : Lighting :=
  { State.reset.light with
    groups := (((State.reset.light.groups.set 0 (grp 400 100 800 800 none)).set 1 (grp 200 0 1000 1000 none)).set 2
      (grp 100 300 300 300 none)).set 3 g3
    grant := 360 }

theorem test_cap_partial_grant :
    let l := evalCap (capCase (grp 300 0 0 0 none))
    (floorDraw l, requestR l, inFlightU l, l.capLimit, appliedAbove l, appliedLighting l) =
        (70, 480, 480, 750, 360, 430) ∧
      (l.groups.toList.take 3).map Group.applied = [625, 750, 300] := by decide +kernel
theorem test_cap_after_recall :
    let l := evalCap (capCase (grp 300 0 600 0 (some ⟨0, 0, 20⟩)))
    let t := fadeTickLight l
    (l.capLimit, l.appliedCap, appliedAbove l) = (545, 545, 261) ∧
      (l.groups.toList.take 2).map Group.applied = [481, 545] ∧ t.groups[3].current = 30 ∧ inFlightU t = 489 := by
  decide +kernel

/-! ## The notices (section 9.7) -/

def filed : NoticeStore :=
  let on : Notice := ⟨.interlockOn, 0, 1, 0, 0⟩
  let off : Notice := ⟨.interlockOff, 0, 0, 0, 0⟩
  [⟨.modeChanged, 1, 0, 0, 0⟩, ⟨.layerReleased, 1, 12, 0, 0⟩, ⟨.coverState, 2, 1, 0, 0⟩, on, off, on, off, on, off, on,
    off].foldl (fun q n => fileNotice n q)
    { State.reset.ports[(2 : PortId)].notices with filter1 := ⟨25, 1⟩, filter2 := ⟨17, 0xFFFF⟩, threshold := 3 }

theorem test_filing_overflow :
    filed.slot.map Notice.subject = some 1 ∧ filed.queue.length = 8 ∧ filed.drops = 1 ∧ attn filed = true ∧
      filed.queue.map (fun n => eventCode n.code) = [17, 18, 17, 18, 17, 18, 17, 18] := by decide +kernel
theorem test_take_notices_twice :
    (takePayload filed).take 3 = [1, 5, 1] ∧ (takenNotices filed).length = 4 ∧
      (takePayload (afterTake filed)).take 3 = [0, 2, 0] ∧ attn (afterTake filed) = true ∧
      attn (afterTake (afterTake filed)) = false := by decide +kernel

/-! ## Power-on and the step -/

theorem test_first_power_on : after (.powerOn 0 1 2) State.reset = State.reset := by decide +kernel
theorem test_idle_tick : dueEvent State.reset = none ∧ dueEvent (elapse 1 State.reset) = some (.inputSample false false false) := by
  decide +kernel
theorem test_role_clash :
    let t := after (.powerOn 0 0 2) State.reset
    t.ports[(1 : PortId)].role = .observer ∧ t.ports[(1 : PortId)].clash = true ∧
      t.ports[(1 : PortId)].presence = .none := by decide +kernel

/-! ## Witnesses: for each statement with hypotheses, states and operands that meet them, clause by clause -/

theorem served_sv (p : PortId) (c : Instr) (s : State) : Served (sv p c s) p c := by
  simp [Served, sv, setPort]

theorem witness_StepRunsFrontCommand :
    { State.reset with pending := [.fadeTick] }.pending = .fadeTick :: [] ∧ State.reset.pending = [] ∧
      State.reset.tick < 100 ∧ { State.reset with tick := 99 }.tick < 100 ∧
      dueEvent State.reset = none ∧ dueEvent (elapse 1 State.reset) = some (.inputSample false false false) := by
  decide +kernel

theorem witness_DispatchRecoversEveryRequest :
    let i : Instr := .writeItemScene 2 31 1 6000 15 (List.replicate 17 (15, 1000))
    wellFormed i = true ∧ mayAsk .lighting i = true ∧ (requestFrame i).map (fun f => f.2.2.length) = some 58 := by
  decide +kernel

theorem witness_PortRefusesForbiddenRequests :
    let a : Instr := .unknownRequest 0 0x7F [1]
    let b : Instr := .readItems 0 16 0 1
    let c : Instr := .writeItemReadOnly 0 16 0 []
    let d : Instr := .writeItemReadOnly 0 2 0 []
    let e : Instr := .setModeHall 1 1 0
    [a, b, c, d].all (fun i => wellFormed i && !mayAsk .building i && (requestFrame i).isSome) = true ∧
      wellFormed e = true ∧ mayAsk .pool e = false ∧ (requestFrame e).isSome = true ∧ classOf 16 = none ∧
      (∃ cls, classOf 2 = some cls ∧ writeOwner cls ≠ some .building) ∧
      State.reset.ports[(0 : PortId)].rx = .idle ∧ State.reset.ports[(0 : PortId)].role = .building :=
  ⟨by decide +kernel, by decide +kernel, by decide +kernel, by decide +kernel, by decide +kernel,
    ⟨.climate, by decide +kernel, by decide +kernel⟩, by decide +kernel, by decide +kernel⟩

theorem witness_FrameOnLineReachesService :
    let payload : List Byte := List.replicate 60 0
    let frame : List (Byte × Bool) :=
      (requestBytes 0x7F payload).map fun b => (b, parityBit b)
    State.reset.ports[(1 : PortId)].rx ≠ .transmitting ∧ State.reset.ports[(0 : PortId)].rx = .idle ∧ payload.length ≤ 60 ∧
      frame.map Prod.fst = requestBytes 0x7F payload ∧ ∀ x ∈ frame, parityGood x.1 x.2 = true := by decide +kernel

theorem witness_ServiceHandlesPresenceThenDispatch :
    (withPort 0 fun q => { q with presence := .none }).ports[(0 : PortId)].presence = .none ∧
      State.reset.ports[(0 : PortId)].presence = .present ∧
      (withPort 0 fun q => { q with presence := .absent }).ports[(0 : PortId)].presence = .absent ∧
      wellFormed (.setModeHall 0 1 0) = true ∧ requestFrame (.setModeHall 0 1 0) = some (0, 0x10, [1, 0]) ∧
      mayAsk State.reset.ports[(0 : PortId)].role (.setModeHall 0 1 0) = true ∧
      State.reset.ports[(0 : PortId)].rx = .idle ∧ State.reset.ports[(0 : PortId)].handed = none := by decide +kernel

/-- Port 0 in a receive state with a buffer. -/
def rxPort (rx : RxState) (buffer : List Byte) (overrun : Bool) : Port :=
  { State.reset.ports[(0 : PortId)] with rx := rx, buffer := buffer, overrun := overrun }

theorem witness_ReceivedByteByReceiveState :
    lineError 0xA7 true true = false ∧ lineError 0xA7 false true = true ∧ lineError 61 true true = false ∧
      lineError 60 false true = false ∧ frameFull [0xA7, 1] = false ∧ frameFull (requestBytes 1 []) = true ∧
      ([0xA7, 1] : List Byte).length = 2 ∧ (rxPort .receiving [0xA7, 1] false).rx = .receiving ∧
      (rxPort .discarding [] false).rx = .discarding ∧ (rxPort .serving [] true).overrun = true ∧
      (rxPort .transmitting [] false).overrun = false := by decide +kernel

theorem witness_QuietLineAndEndOfReply :
    (rxPort .receiving [0xA7, 1] false).rx = .receiving ∧ frameFull [0xA7, 1] = false ∧
      byteSum ([0xA7, 1] : List Byte) ≠ 0xFF ∧ (List.replicate 60 (0 : Byte)).length ≤ 60 ∧
      (rxPort .receiving (requestBytes 0x7F (List.replicate 60 0)) false).buffer =
        requestBytes 0x7F (List.replicate 60 0) ∧
      (rxPort .discarding [] false).rx = .discarding ∧ (rxPort .idle [] false).rx = .idle ∧
      (rxPort .transmitting [] true).rx = .transmitting ∧ State.reset.restartPending ≠ some 0 := by decide +kernel

theorem witness_WarmRestartKeepsAndResets :
    let s := { withPort 0 (fun q => { q with rx := .transmitting }) with restartPending := some 0 }
    s.ports[(0 : PortId)].rx = .transmitting ∧ s.restartPending = some 0 ∧ (∀ q : PortId, s.ports[q].handed = none) ∧
      (searching.search.map fun r => r.channel) = some 7 ∧ searching.channels[(7 : ChanId)].status ≠ .unused ∧
      heldRow (withCover fun c => { c with report := .closed, mismatch := 28 }) = true ∧
      (withCover fun c => { c with report := .moving }).cover.report = .moving ∧
      pairOutcome State.reset.cover.report State.reset.seq.coverLimit.active = some (.coverOpen, true) := by
  decide +kernel

/-- R124: a warm restart in RELEASED withdraws the permission with subject 3, into the emptied queues. -/
theorem test_restart_withdraws_release :
    let s := withCover fun c => { c with derived := .closed, prog := .released, release := true, elapsed := 300 }
    let t := after (.replySent 0)
      { setPort 0 { s.ports[(0 : PortId)] with rx := .transmitting } s with restartPending := some 0 }
    t.ports[(0 : PortId)].notices.queue = [⟨.coverReleaseLapsed, 3, 600, 0, 0⟩] ∧ t.cover.prog = .idle ∧
      t.cover.release = false := by decide +kernel

theorem witness_StatusShowsTheRecords : Served (sv 2 (.status 2) State.reset) 2 (.status 2) := served_sv ..

theorem witness_ReadItemsReturnsWholeRecords :
    Served (sv 0 (.readItems 0 0 16 1) State.reset) 0 (.readItems 0 0 16 1) ∧ classOf 0 = some .channel ∧
      classCount .channel ≤ (16 : Byte).toNat ∧ (15 : Byte).toNat < classCount .channel ∧
      (∀ n : ChanId, (State.reset.channels[n]).window.length ≤ 8) ∧
      (∀ c : CompId, (State.reset.seq.comps[c]).history.length ≤ 12) ∧
      (∀ n : Fin 32, (State.reset.light.scenes[n]).levels.length ≤ 16) ∧
      State.reset.seq.comps[(0 : CompId)].offTimer = some 30000 ∧ State.reset.seq.comps[(0 : CompId)].onTimer = none ∧
      (withComp 1 fun c => { c with offTimer := none, onTimer := some 18000 }).seq.comps[(1 : CompId)].onTimer =
        some 18000 ∧
      State.reset.ports[(0 : PortId)].silenceTimer = some 12000 ∧
      (withPort 2 fun q => { q with silenceTimer := none }).ports[(2 : PortId)].silenceTimer = none ∧
      getLayer State.reset.light.layers (layerAt 3) = none ∧
      getLayer { State.reset.light.layers with safety := some ⟨32, 1⟩ } (layerAt 3) = some ⟨32, 1⟩ ∧
      ({ State.reset.light.groups[(15 : GroupId)] with fade := some ⟨0, 1, 2⟩ } : Group).fade = some ⟨0, 1, 2⟩ :=
  ⟨served_sv .., by decide +kernel⟩

theorem witness_TakeNoticesEmptiesInOrder : Served (sv 1 (.takeNotices 1) State.reset) 1 (.takeNotices 1) :=
  served_sv ..

theorem witness_SetAcceptanceReplacesTheChoices :
    Served (sv 0 (.setAcceptance 0 0 63 255 0 0xFFFF 8 3600) State.reset) 0 (.setAcceptance 0 0 63 255 0 0xFFFF 8 3600) ∧
      ((63 : Byte).toNat ≤ 63 ∧ (255 : Half).toNat ≤ 255) ∧ ¬(64 : Byte).toNat ≤ 63 ∧
      ¬((256 : Half).toNat ≤ 255 ∨ (256 : Half) = 0xFFFF) ∧ busy.store.busy = true ∧
      State.reset.store.busy = false := ⟨served_sv .., by decide +kernel⟩

theorem witness_NoticeFiledByThePortsChoice :
    let n : Notice := ⟨.shed, 3, 1, 0, 0⟩
    let q : NoticeStore := { State.reset.ports[(0 : PortId)].notices with filter1 := ⟨15, 3⟩ }
    let r : NoticeStore := { q with slot := some n }
    q.filter1.code.toNat = eventCode n.code ∧ q.filter1.subject.toNat = n.subject ∧ q.slot = none ∧ r.slot ≠ none ∧
      q.filter2.code.toNat = 0 ∧ q.acceptance.getLsbD 15 = true ∧
      State.reset.ports[(1 : PortId)].notices.acceptance.getLsbD 15 = false := by decide +kernel

theorem witness_AllowanceWriteAndClearCounters :
    Served (sv 0 (.writeItemAllowance 0 0 900) State.reset) 0 (.writeItemAllowance 0 0 900) ∧
      Served (sv 0 (.clearCounters 0) State.reset) 0 (.clearCounters 0) := ⟨served_sv .., served_sv ..⟩

/-- Two AIR_T channels that ask for zone 0: channel 0 holds it, channel 1 is in conflict. -/
def rivals : State :=
  setChannel 1 { validChan .airT 0 300 with status := .unused, conflict := true }
    (setChannel 0 (validChan .airT 0 310) State.reset)

theorem witness_ChannelWriteRestartsTheChannel :
    Served (sv 0 (.writeItemChannel 0 0 1 1) rivals) 0 (.writeItemChannel 0 0 1 1) ∧ 16 ≤ (16 : Byte).toNat ∧
      (15 : ChanId).val = (15 : Byte).toNat ∧ (0 : ChanId).val = (0 : Byte).toNat ∧ busy.store.busy = true ∧
      rivals.store.busy = false ∧ kindOf 7 = none ∧ kindOf 1 = some .airT ∧
      rivals.channels[(0 : ChanId)].cfg.kind = .airT ∧ rivals.channels[(0 : ChanId)].cfg.zone = min (0 : Byte).toNat 2 ∧
      underSearch rivals 0 = false ∧ underSearch searching 7 = true ∧
      rivals.channels[(1 : ChanId)].conflict = true ∧ rivals.channels[(1 : ChanId)].cfg.zone = 0 :=
  ⟨served_sv .., by decide +kernel⟩

/-- Watch 7 is TRIPPED with an action. -/
def trippedWatch (a : WatchAction) : State := setWatch 7 ⟨⟨.dd, .above, 0, 0, a⟩, true, true, false⟩ State.reset

theorem witness_WatchWriteAndClearWatch :
    Served (sv 0 (.writeItemWatch 0 7 21 0 0 0 1) State.reset) 0 (.writeItemWatch 0 7 21 0 0 0 1) ∧
      Served (sv 0 (.clearWatch 0 7) State.reset) 0 (.clearWatch 0 7) ∧ 8 ≤ (8 : Byte).toNat ∧
      (7 : Fin 8).val = (7 : Byte).toNat ∧ sourceOf 22 = none ∧ sourceOf 21 = some .dd ∧
      directionOf 1 = some .below ∧ actionOf 2 = some .forceDehum ∧
      (trippedWatch .alertPurge).watches[(7 : Fin 8)].tripped = true ∧
      (trippedWatch .none).watches[(7 : Fin 8)].cfg.action ≠ .alertPurge ∧
      State.reset.watches[(7 : Fin 8)].tripped = false ∧ State.reset.store.busy = false ∧ busy.store.busy = true :=
  ⟨served_sv .., served_sv .., by decide +kernel⟩

theorem witness_ClimateConfigurationWrite :
    let fs : List Half := [0, 60, 280, 15, 0, 260, 340, 280, 20, 4, 150, 5, 550, 600, 20, 25, 30, 100]
    Served (sv 0 (.writeItemClimateCfg 0 0 fs) State.reset) 0 (.writeItemClimateCfg 0 0 fs) ∧
      (1 : Byte) ≠ 0 ∧ busy.store.busy = true ∧ State.reset.store.busy = false ∧
      max 150 (min (150 : Half).toInt 400) < max 150 (min (151 : Half).toInt 400) :=
  ⟨served_sv .., by decide +kernel⟩

theorem witness_ConsumerDrawWrite :
    Served (sv 0 (.writeItemConsumer 0 7 [1]) State.reset) 0 (.writeItemConsumer 0 7 [1]) ∧
      Served (sv 0 (.writeItemConsumer 0 0 [1, 2, 3, 4]) State.reset) 0 (.writeItemConsumer 0 0 [1, 2, 3, 4]) ∧
      Served (sv 0 (.writeItemConsumer 0 6 [5001]) State.reset) 0 (.writeItemConsumer 0 6 [5001]) ∧
      7 ≤ (7 : Byte).toNat ∧ (6 : Byte).toNat < 7 ∧ (6 : Byte).toNat = (5 : Fin 6).val + 1 ∧ busy.store.busy = true ∧
      State.reset.store.busy = false ∧ ¬min (2 : Half).toNat 5000 ≤ min (1 : Half).toNat 5000 :=
  ⟨served_sv .., served_sv .., served_sv .., by decide +kernel⟩

/-- C1 waits with a grant and a start limit of 1, with n starts at PT 0. -/
def waiting (n : Nat) : State :=
  withComp 0 fun c => { c with
    cfg := ⟨300, 180, 1⟩, state := .offReady, grant := true, offTimer := none, history := List.replicate n 0 }

theorem witness_CompressorWriteKeepsTheRun :
    Served (sv 0 (.writeItemCompressor 0 1 300 180 2) State.reset) 0 (.writeItemCompressor 0 1 300 180 2) ∧
      2 ≤ (2 : Byte).toNat ∧ (1 : CompId).val = (1 : Byte).toNat ∧ busy.store.busy = true ∧
      State.reset.store.busy = false ∧ State.reset.seq.comps[(1 : CompId)].state ≠ .offReady ∧
      (let c := (waiting 2).seq.comps[(0 : CompId)]
       let limit := min (max 1 (min (2 : Byte).toNat 12)) (startCap (waiting 2).alloc)
       startLimit (waiting 2).alloc c < limit ∧ c.state = .offReady ∧ c.grant = true ∧
         limit ≤ (prune 0 (c.history.drop (c.history.length - limit))).length) ∧
      (prune 0 (waiting 1).seq.comps[(0 : CompId)].history).length < 2 ∧
      (airflow (waiting 1)).seq.proof = .proven ∧ 2 ≤ (airflow (waiting 1)).seq.fanLevel ∧
      (airflow (waiting 1)).seq.interlock.active = false ∧ ¬2 ≤ (waiting 1).seq.fanLevel :=
  ⟨served_sv .., by decide +kernel⟩

/-- C1 waits as in `waiting`, with a configured start limit of 12 under a start-limit cap of 1 in force. -/
def capped (n : Nat) : State :=
  modAlloc (fun a => { a with inForce := a.inForce.set 1 1 })
    (setComp 0 { (waiting n).seq.comps[(0 : CompId)] with cfg := ⟨300, 180, 12⟩ } (waiting n))

theorem witness_LimitsWriteClearsTheFault :
    Served (sv 0 (.writeItemLimits 0 0 150 1 60 60) State.reset) 0 (.writeItemLimits 0 0 150 1 60 60) ∧
      (1 : Byte) ≠ 0 ∧ busy.store.busy = true ∧ State.reset.store.busy = false ∧
      (let s := capped 1
       let t := after (.writeItemLimits 0 0 150 2 60 60) (sv 0 (.writeItemLimits 0 0 150 2 60 60) (airflow s))
       startLimit s.alloc s.seq.comps[(0 : CompId)] = 1 ∧ startLimit t.alloc t.seq.comps[(0 : CompId)] = 2 ∧
         t.seq.comps[(0 : CompId)].state = .runMin ∧ lastNotice t = some ⟨.compStart, 0, 2, 0, 0⟩) ∧
      (let t := after (.writeItemLimits 0 0 150 2 60 60) (sv 0 (.writeItemLimits 0 0 150 2 60 60) (capped 2))
       t.seq.comps[(0 : CompId)].blocked = true ∧ lastNotice t = some ⟨.startLimit, 0, 3600, 0, 0⟩) :=
  ⟨served_sv .., by decide +kernel⟩

theorem witness_CoverConfigurationWrite :
    Served (sv 1 (.writeItemCoverCfg 1 0 [60, 60, 60, 0, 60, 60, 60, 60]) State.reset) 1
      (.writeItemCoverCfg 1 0 [60, 60, 60, 0, 60, 60, 60, 60]) := served_sv ..

/-- Group 15 stands at a floor of 100. -/
def floored : State :=
  { State.reset with
    light := { State.reset.light with groups := State.reset.light.groups.set 15 (grp 100 100 100 100 none) } }

theorem witness_GroupWriteActsAtOnce :
    Served (sv 2 (.writeItemGroup 2 15 100 300) floored) 2 (.writeItemGroup 2 15 100 300) ∧ 16 ≤ (16 : Byte).toNat ∧
      (15 : GroupId).val = (15 : Byte).toNat ∧ busy.store.busy = true ∧ floored.store.busy = false ∧
      floored.light.groups[(15 : GroupId)].cfg.floor = min (100 : Half).toNat 1000 ∧
      floored.light.groups[(15 : GroupId)].cfg.floor < min (300 : Half).toNat 1000 ∧
      min (50 : Half).toNat 1000 < floored.light.groups[(15 : GroupId)].cfg.floor ∧
      floored.light.groups[(0 : GroupId)].target =
        max (resolve floored.light 0).1 floored.light.groups[(0 : GroupId)].cfg.floor := ⟨served_sv .., by decide +kernel⟩

/-- Scene 12 names group 0 and is permitted in OPEN alone; it stands in SHOW where `standing` says so. -/
def scenes (standing : Bool) : State :=
  { State.reset with
    light := { State.reset.light with
      scenes := State.reset.light.scenes.set 12 ⟨true, 50, ⟨true, false, false, false⟩, [(0, 800)]⟩
      layers := { State.reset.light.layers with showing := if standing then some ⟨12, 0⟩ else none } } }

/-- R127: a raised floor lifts the level and the start of the fade, which goes on; a target held up by the old floor fades
down with the fade time of the scene in its source layer. -/
theorem test_floor_moves_fade :
    let l := (scenes true).light
    let at0 (g : Group) : Lighting := { l with groups := l.groups.set 0 g }
    (writeGroup 0 100 200 (at0 (grp 100 0 800 100 (some ⟨0, 3, 50⟩)))).groups[(0 : GroupId)].fade = some ⟨200, 3, 50⟩ ∧
      (writeGroup 0 100 100 (at0 (grp 100 900 900 900 none))).groups[(0 : GroupId)].fade = some ⟨900, 0, 50⟩ := by
  decide +kernel

theorem witness_SceneWriteReplacesTheScene :
    Served (sv 2 (.writeItemScene 2 31 1 6000 15 [(15, 1000)]) State.reset) 2
        (.writeItemScene 2 31 1 6000 15 [(15, 1000)]) ∧
      32 ≤ (32 : Byte).toNat ∧ (31 : Fin 32).val = (31 : Byte).toNat ∧ busy.store.busy = true ∧
      State.reset.store.busy = false ∧ (1 : Byte).getLsbD 0 = true ∧ (0 : Byte).getLsbD 0 = false ∧
      ¬([(3, 0), (3, 0)].map Prod.fst).Pairwise (· < ·) ∧ ([(15, 1000)].map Prod.fst).Pairwise (· < ·) ∧
      (scenes true).light.layers.showing = some ⟨12, 0⟩ ∧ (scenes false).light.layers.showing = none ∧
      (fillSafety { scenes false with light := { (scenes false).light with safetyScene := 12 } }).light.layers.safety =
        some ⟨12, 0⟩ :=
  ⟨served_sv .., by decide +kernel⟩

/-- The programme stands in PREOPEN for the mode, in a hall mode. -/
def preopening (m : Mode) : State :=
  { withCover (fun c => { c with derived := .closed, prog := .preopen, origin := some .mode }) with
    mode := { State.reset.mode with mode := m } }

theorem witness_SetModeChangesTheHall :
    Served (sv 0 (.setModeHall 0 3 0) State.reset) 0 (.setModeHall 0 3 0) ∧ modeOf 4 = none ∧
      modeOf 3 = some .service ∧ modeOf 0 = some State.reset.mode.mode ∧ modeOf 2 = some .preopen ∧
      State.reset.mode.mode ≠ .preopen ∧ State.reset.mode.mode ≠ .night ∧
      (preopening .night).mode.mode = .night ∧ (preopening .preopen).mode.mode = .preopen ∧
      (preopening .preopen).cover.prog = .preopen ∧ (preopening .preopen).cover.origin = some .mode ∧
      (withCover fun c => { c with prog := .purge, derived := .closed }).cover.prog = .purge ∧
      State.reset.cover.prog = .idle ∧
      (∀ l : Fin 4, getLayer State.reset.light.layers (layerAt l) = none) ∧
      getLayer (scenes true).light.layers .showing = some ⟨12, 0⟩ ∧
      permits (sceneAt (scenes true).light 12).modes .night = false :=
  ⟨served_sv .., by decide +kernel⟩

theorem witness_StartSettingsRequests :
    Served (sv 0 (.setModeStart 0 3) State.reset) 0 (.setModeStart 0 3) ∧
      Served (sv 0 (.recallStart 0 31) State.reset) 0 (.recallStart 0 31) ∧
      Served (sv 0 (.recallSafety 0 31) State.reset) 0 (.recallSafety 0 31) ∧ modeOf 4 = none ∧
      modeOf 2 = some .preopen ∧ modeOf 3 = some .service :=
  ⟨served_sv .., served_sv .., served_sv .., by decide +kernel⟩

theorem witness_WaterReportAndAge :
    Served (sv 1 (.reportWater 1 150) State.reset) 1 (.reportWater 1 150) ∧
      (let s := { State.reset with water := ⟨some 292, 1799, false⟩ }
       s.water.stale = false ∧
         s.climateCfg.waterHold ≤ (if s.water.age < 7200 then s.water.age + 1 else s.water.age)) :=
  ⟨served_sv .., by decide +kernel⟩

theorem witness_ReportCoverFormsTheDerivedState :
    Served (sv 1 (.reportCover 1 2) State.reset) 1 (.reportCover 1 2) ∧ reportOf 3 = none ∧ reportOf 2 = some .closed ∧
      .closed ≠ State.reset.cover.report ∧ reportOf 0 = some .coverOpen ∧
      (withCover fun c => { c with report := .coverOpen }).cover.report = .coverOpen ∧
      pairOutcome .coverOpen false = some (.coverOpen, false) ∧ pairOutcome .closed false = none :=
  ⟨served_sv .., by decide +kernel⟩

theorem witness_AskCoverOpenByProgrammeState :
    Served (sv 1 (.askCoverOpen 1) State.reset) 1 (.askCoverOpen 1) ∧ State.reset.cover.prog = .idle ∧
      (preopening .night).cover.prog = .preopen ∧
      (withCover fun c => { c with prog := .released }).cover.prog = .released ∧
      (withCover fun c => { c with prog := .purge }).cover.prog = .purge := ⟨served_sv .., by decide +kernel⟩

theorem witness_RecallAndReleaseFormTheTargets :
    Served (sv 2 (.recallLayer 2 12 0) (scenes false)) 2 (.recallLayer 2 12 0) ∧
      Served (sv 2 (.release 2) (scenes true)) 2 (.release 2) ∧
      layerOfRole State.reset.ports[(2 : PortId)].role = some .showing ∧ (3 : Byte) ≠ 0 ∧ 31 < (32 : Byte).toNat ∧
      (sceneAt (scenes false).light 31).defined = false ∧ (sceneAt (scenes false).light 12).defined = true ∧
      permits (sceneAt (scenes false).light 12).modes .night = false ∧
      permits (sceneAt (scenes false).light 12).modes State.reset.mode.mode = true ∧
      getLayer (scenes true).light.layers .showing = some ⟨12, 0⟩ ∧
      getLayer (scenes false).light.layers .showing = none := ⟨served_sv .., served_sv .., by decide +kernel⟩

theorem witness_ZeroSearchBeginsAndTakesSixSteps :
    Served (sv 0 (.zeroSearch 0 15) State.reset) 0 (.zeroSearch 0 15) ∧ 16 ≤ (16 : Byte).toNat ∧
      (15 : ChanId).val = (15 : Byte).toNat ∧ searching.search = some ⟨7, 32, .valid, 32, 5, 10⟩ ∧
      (⟨7, 32, .valid, 32, 5, 10⟩ : Search).bit = 4 + 1 := ⟨served_sv .., by decide +kernel⟩

theorem witness_GainCorrectRoundsHalfUp :
    let s := setChannel 2 (validChan .airT 0 300) State.reset
    Served (sv 0 (.gainCorrect 0 2 2000) s) 0 (.gainCorrect 0 2 2000) ∧ 16 ≤ (16 : Byte).toNat ∧
      (2 : ChanId).val = (2 : Byte).toNat ∧ s.channels[(2 : ChanId)].status = .valid ∧
      State.reset.channels[(2 : ChanId)].status = .unused ∧ 2000 < (2001 : Half).toInt ∧
      (2000 : Half).toInt ≤ 2000 ∧ -2000 ≤ (2000 : Half).toInt ∧ underSearch searching 7 = true ∧
      underSearch s 2 = false ∧ s.store.busy = false := ⟨served_sv .., by decide +kernel⟩

theorem witness_StoreAndRestartRequests :
    Served (sv 0 (.storeSettings 0) State.reset) 0 (.storeSettings 0) ∧
      Served (sv 0 (.restart 0) State.reset) 0 (.restart 0) ∧ busy.store.busy = true ∧
      (1024 : BitVec 11).getLsbD 10 = true ∧ ∀ j < 10, (1024 : BitVec 11).getLsbD j = false :=
  ⟨served_sv .., served_sv .., by decide +kernel⟩

theorem witness_StoredSettingsSurvivePowerOn :
    let s := sv 0 (.storeSettings 0) State.reset
    Served s 0 (.storeSettings 0) ∧ s.store.busy = false ∧ s.restartPending = none ∧
      exec (.storeSettings 0) s = .next (after (.storeSettings 0) s) ∧
      exec (.storeCompletion 0) (after (.storeSettings 0) s) =
        .next (after (.storeCompletion 0) (after (.storeSettings 0) s)) ∧
      (let u := after (.storeCompletion 0) (after (.storeSettings 0) s)
       (elapse 1 u).store.marked = u.store.marked ∧ (elapse 1 u).store.image = u.store.image) :=
  ⟨served_sv .., by decide +kernel, by decide +kernel, rfl, rfl, rfl, rfl⟩

theorem witness_PowerOnFormsThePart :
    (after (.powerOn 0 0 2) State.reset).ports[(1 : PortId)].clash = true ∧ State.reset.store.marked = false ∧
      (after (.powerOn 0 0 2) State.reset).light.layers.base = none ∧
      (after (.powerOn 0 0 2) State.reset).ports[(2 : PortId)].role ≠ .observer := by
  decide +kernel

theorem witness_SilenceMakesTheRoleAbsent :
    State.reset.ports[(1 : PortId)].presence = .present ∧
      State.reset.ports[(1 : PortId)].silenceTimer = some 12000 ∧ State.reset.ports[(0 : PortId)].role = .building ∧
      State.reset.ports[(1 : PortId)].role = .pool ∧ State.reset.ports[(2 : PortId)].role = .lighting := by
  decide +kernel

/-- Channel 15 in a status, with counts. -/
def chan15 (st : ChanStatus) (rail settle : Nat) : State :=
  setChannel 15 { validChan .airT 0 300 with status := st, rail := rail, settle := settle } State.reset

theorem witness_ScanVisitsEveryChannelOnce :
    State.reset.channels[(15 : ChanId)].status = .unused ∧ (chan15 .valid 1 8).channels[(15 : ChanId)].rail < 2 ∧
      2 ≤ (chan15 .valid 2 8).channels[(15 : ChanId)].rail ∧
      (chan15 .fault 2 0).channels[(15 : ChanId)].status = .fault ∧ (15 : BitVec 12).toNat ≤ 15 ∧
      4080 ≤ (4080 : BitVec 12).toNat ∧ ¬((16 : BitVec 12).toNat ≤ 15 ∨ 4080 ≤ (16 : BitVec 12).toNat) ∧
      sourceOf 16 = some (.channel 15) ∧ ∀ i : Fin 8, ∀ n : ChanId, State.reset.watches[i].cfg.source ≠ .channel n := by
  decide +kernel

theorem witness_WatchComparesWithHysteresis :
    (humidityWatch true).cfg.direction = .above ∧ (humidityWatch true).tripped = true ∧
      (humidityWatch false).tripped = false ∧
      ({ (humidityWatch true).cfg with direction := .below } : WatchCfg).direction = .below ∧
      WatchAction.none ≠ .alertPurge ∧
      (withCover fun c => { c with prog := .rest }).cover.prog = .rest ∧
      (withCover fun c => { c with prog := .released }).cover.prog = .released ∧ State.reset.cover.prog = .idle ∧
      (let s := withCover fun c => { c with prog := .alert }
       s.cover.prog = .alert ∧ ∀ i : Fin 8, s.watches[i].tripped = false) ∧
      (trippedWatch .alertPurge).watches[(7 : Fin 8)].tripped = true := by decide +kernel

theorem witness_ComputationFormsTheRecord :
    airTemps (hall 236 241 40 450 4800 .hallOpen) ≠ [] ∧ moistZones (hall 236 241 40 450 4800 .hallOpen) ≠ [] ∧
      glazeTemps (hall 236 241 40 450 4800 .hallOpen) ≠ [] ∧ airTemps State.reset = [] ∧
      moistZones State.reset = [] ∧ glazeTemps State.reset = [] ∧
      airTemps (setChannel 0 (validChan .airT 0 310) State.reset) ≠ [] ∧
      glazeTemps (setChannel 0 (validChan .airT 0 310) State.reset) = [] := by decide +kernel

theorem witness_OutcomeRowsAreTheirScansAndComputations :
    (chan15 .valid 2 8).channels[(15 : ChanId)].rail = 2 ∧ (chan15 .fault 2 0).channels[(15 : ChanId)].rail = 2 ∧
      (chan15 .settling 0 7).channels[(15 : ChanId)].settle = 7 ∧ (15 : BitVec 12).toNat ≤ 15 ∧
      ¬((16 : BitVec 12).toNat ≤ 15 ∨ 4080 ≤ (16 : BitVec 12).toNat) ∧
      (let s := { State.reset with climate := { State.reset.climate with heatCount := 29, moistCount := 29 } }
       airTemps s = [] ∧ s.climate.heatCount = 29 ∧ moistZones s = [] ∧ s.climate.moistCount = 29) := by
  decide +kernel

theorem witness_AllowanceIsNeverOverspent :
    let a := (after .allocationPass worked).alloc
    worked.seq.comps[(0 : CompId)].state = .runMin ∧
      (a.consumers[2].requested = 1 ∧ a.consumers[2].cls ≠ .committed) ∧
      a.consumers[0].class2 < a.consumers[0].requested ∧
      (let b := (after .allocationPass State.reset).alloc
       b.consumers[0].requested ≤ b.consumers[0].class2 ∧ b.consumers[4].requested = 0) ∧
      (after .allocationPass (preopening .preopen)).alloc.consumers[6].cls ≠ .committed ∧
      (after .allocationPass (withCover fun c => { c with prog := .alert })).alloc.consumers[6].cls = .committed := by
  decide +kernel

/-- A count of 1 with the lead C1 locked and C2 free to start, and a damaged limits field where `bad` says so. -/
def oneAsked (bad : Bool) : State :=
  { State.reset with
    climate := { State.reset.climate with dd := 300 }
    seq := { State.reset.seq with comps := State.reset.seq.comps.set 1 { State.reset.seq.comps[1] with state := .offReady } }
    alloc := { State.reset.alloc with
      limits := if bad then State.reset.alloc.limits.set 3 ⟨0, 0⟩ else State.reset.alloc.limits } }

theorem witness_PassFormsRequestsAndDrivesLines :
    State.reset.mode.mode ≠ .service ∧ State.reset.seq.interlock.active = false ∧
      (withSeq fun q => { q with interlock := ⟨true, 0⟩ }).seq.interlock.active = true ∧
      running worked.seq.comps[(0 : CompId)] = true ∧ running worked.seq.comps[(1 : CompId)] = false ∧
      (let t := after .allocationPass worked
       t.alloc.count = 2 ∧ startCap t.alloc ≤ startCap worked.alloc ∧ t.alloc.limitsFault = false) ∧
      (let t := after .allocationPass (oneAsked true)
       t.alloc.count = 1 ∧ t.alloc.lead = 0 ∧ (oneAsked true).seq.comps[(0 : CompId)].state = .offLocked ∧
         (oneAsked true).seq.comps[(1 : CompId)].state = .offReady ∧
         (oneAsked true).seq.comps[(1 : CompId)].history.length < startLimit (oneAsked true).alloc
           (oneAsked true).seq.comps[(1 : CompId)] ∧
         (t.alloc.consumers[1].requested, t.alloc.consumers[2].requested) = (0, 1) ∧ t.alloc.limitsFault = true ∧
         t.alloc.inForce = #v[340, 4, 300, 600]) ∧
      (after .allocationPass State.reset).alloc.count = 0 ∧
      (let s := withComp 0 fun c => { c with state := .run }
       s.seq.comps[(0 : CompId)].state = .run ∧ (after .allocationPass s).alloc.consumers[1].granted = 0) ∧
      (let s := modSeq (fun q => { q with proof := .proven }) (oneAsked false)
       (after .allocationPass s).seq.comps[(1 : CompId)].state = .runMin) ∧
      (let t := after .allocationPass (capped 2)
       startLimit (capped 2).alloc (capped 2).seq.comps[(0 : CompId)] <
         startLimit t.alloc t.seq.comps[(0 : CompId)]) := by
  decide +kernel

/-- R81: a damaged limits field acts from the pass that finds it, not before (the built-in purge floor is 600). -/
theorem test_damage_acts_at_the_pass :
    purgeFloor (oneAsked true) = 300 ∧
      purgeFloor (after .allocationPass (oneAsked true)) = 600 := by decide +kernel

/-- R72: LT's record shows the floor draw of the last pass until the next one (load 300 at a floor of 500). -/
theorem test_lt_draw_is_of_the_last_pass :
    let s := { State.reset with light := { State.reset.light with
      groups := State.reset.light.groups.set 0 (grp 300 500 600 600 none) } }
    (drawFields s 7).head? = some 0 ∧ (drawFields (after .allocationPass s) 7).head? = some 150 := by decide +kernel

theorem witness_SequencerSecondPrunesAndStarts :
    let full := airflow (blockedAt 3499 false)
    let open1 := airflow (blockedAt 4599 true)
    running (withComp 0 fun c => { c with state := .run }).seq.comps[(0 : CompId)] = true ∧
      running State.reset.seq.comps[(0 : CompId)] = false ∧ State.reset.seq.comps[(0 : CompId)].state ≠ .offReady ∧
      full.seq.comps[(0 : CompId)].state = .offReady ∧ full.seq.comps[(0 : CompId)].grant = true ∧
      ¬(prune 3500 full.seq.comps[(0 : CompId)].history).length <
        startLimit full.alloc full.seq.comps[(0 : CompId)] ∧
      (prune 4600 open1.seq.comps[(0 : CompId)].history).length <
        startLimit open1.alloc open1.seq.comps[(0 : CompId)] ∧
      open1.seq.interlock.active = false ∧ open1.seq.proof = .proven ∧ 2 ≤ open1.seq.fanLevel ∧
      ¬2 ≤ (blockedAt 4599 true).seq.fanLevel := by decide +kernel

theorem witness_MinimumTimersExpire :
    let off := State.reset.seq.comps[(1 : CompId)]
    let granted := airflow (withComp 1 fun c => { c with grant := true })
    let on := (withComp 1 fun c => { c with state := .runMin, onTimer := some 18000 }).seq.comps[(1 : CompId)]
    off.state = .offLocked ∧ off.offTimer = some 30000 ∧ off.grant = false ∧
      granted.seq.comps[(1 : CompId)].grant = true ∧ granted.seq.interlock.active = false ∧
      granted.seq.proof = .proven ∧ 2 ≤ granted.seq.fanLevel ∧
      (prune 0 granted.seq.comps[(1 : CompId)].history).length <
        startLimit granted.alloc granted.seq.comps[(1 : CompId)] ∧
      on.state = .runMin ∧ on.onTimer = some 18000 ∧ on.grant = false := by decide +kernel

theorem witness_FanProofGuardsThePlant :
    State.reset.seq.lossTimer = some 1000 ∧ State.reset.seq.proof ≠ .failed ∧
      (withSeq fun q => { q with failTimer := some 3000, proof := .failed }).seq.failTimer = some 3000 ∧
      State.reset.seq.fanProof.active = false ∧ worked.seq.fanProof.active = true ∧
      running (withComp 1 fun c => { c with state := .run }).seq.comps[(1 : CompId)] = true ∧
      (waiting 0).seq.fanProof.active = false ∧ (waiting 0).seq.comps[(0 : CompId)].state = .offReady ∧
      (waiting 0).seq.comps[(0 : CompId)].grant = true := by decide +kernel

/-- R91, R100: the change to PROVEN starts a granted compressor. -/
theorem test_proof_starts_c1 :
    let t := after .fanProofActive (modSeq (fun q => { q with fanLevel := 2 }) (waiting 0))
    t.seq.comps[(0 : CompId)].state = .runMin ∧ lastNotice t = some ⟨.compStart, 0, 1, 0, 5⟩ := by decide +kernel

theorem witness_InterlockStopsThePlant :
    State.reset.seq.interlock.active = false ∧
      (withSeq fun q => { q with interlock := ⟨true, 0⟩ }).seq.interlock.active = true ∧
      State.reset.light.layers.safety = none ∧
      (after .interlockOn State.reset).light.layers.safety = some ⟨31, 0⟩ := by decide +kernel

theorem witness_CoverLimitChangeFormsTheDerivedState :
    pairOutcome State.reset.cover.report true = some (.closed, true) ∧ pairOutcome .coverOpen true = none := by
  decide +kernel

theorem witness_CountsBringDisagree :
    let held := withCover fun c => { c with report := .closed, mismatch := 29 }
    let moving := withCover fun c => { c with report := .moving, derived := .moving, travel := 599 }
    (held.cover.release = false ∧ held.cover.prog = .idle) ∧ heldRow held = true ∧
      30 ≤ (disagreeCounts (heldRow held) held.cover).mismatch ∧
      held.cover.derived ≠ .disagree ∧ moving.cover.report = .moving ∧ moving.cover.derived ≠ .disagree ∧
      moving.cover.cfg.travelLimit ≤ (disagreeCounts (heldRow moving) moving.cover).travel := by decide +kernel

/-- A night in one programme state, with its times and counts one second before their ends. -/
def night (p : Prog) (elapsed : Nat) : State :=
  withCover fun c => { c with
    derived := .closed, report := .unknown, prog := p, elapsed := elapsed, counted := 900, preopenAcc := 1200
    hold := some 599, release := decide (p = .released) }

/-- No count of R106 is at its limit in the states of the night, nor on a held row two seconds early. -/
theorem quiet_night (p : Prog) (e : Nat) : countsQuiet (night p e) :=
  .inr ⟨fun h => Bool.noConfusion h, fun h => Report.noConfusion h⟩

theorem quiet_held : countsQuiet (withCover fun c => { c with report := .closed, mismatch := 28 }) := by
  exact .inr ⟨fun _ => by decide, fun h => Report.noConfusion h⟩

theorem witness_NightPhasesEndOnTime :
    [night .settle 599, night .purge 0, night .rest 2699, night .alert 0, night .idle 0].map (fun s =>
        (secondOf s).prog) = [.settle, .purge, .rest, .alert, .idle] ∧
      (night .settle 599).cover.cfg.settleTime ≤ (secondOf (night .settle 599)).elapsed ∧
      (night .settle 599).cover.elapsed < 65535 ∧
      purgeHighInForce (night .purge 0) ≤ (secondOf (night .purge 0)).counted ∧
      (night .rest 2699).cover.cfg.cycleLimit = 0 ∧
      (night .rest 2699).cover.cfg.restLow ≤ (secondOf (night .rest 2699)).elapsed ∧
      (secondOf (night .alert 0)).hold = some 600 ∧ (night .alert 0).cover.cfg.alertHold ≤ 600 ∧
      (night .purge 0).seq.pfLine = false ∧ (night .purge 0).cover.starve < 4 ∧
      (modSeq (fun q => { q with pfLine := true }) (night .preopen 0)).seq.pfLine = true ∧
      heldRow (withCover fun c => { c with report := .closed, mismatch := 28 }) = true := by decide +kernel

/-- A second at which no state ends. -/
theorem witness_NightPhasesEndOnTime_between : ¬phaseEnds (night .settle 5) (secondOf (night .settle 5)) := by
  have h : (secondOf (night .settle 5)).prog = .settle := by decide +kernel
  have k : ¬(secondOf (night .settle 5)).cfg.settleTime ≤ (secondOf (night .settle 5)).elapsed := by decide +kernel
  simp [phaseEnds, h, k]

theorem witness_PermissionIsGivenAndLapses :
    [night .preopen 0, night .released 899].map (fun s => (secondOf s).prog) = [.preopen, .released] ∧
      (night .preopen 0).cover.cfg.preopenTime ≤ (secondOf (night .preopen 0)).preopenAcc ∧
      alertTripped (night .preopen 0) = false ∧ alertTripped (trippedWatch .alertPurge) = true ∧
      (night .released 899).cover.cfg.permissionHold ≤ (secondOf (night .released 899)).elapsed ∧
      (let s := withCover fun c => { c with derived := .closed, prog := .purge, counted := 440, starve := 3 }
       (secondOf s).prog = .purge ∧ (secondOf s).starved = true ∧ s.cover.starved = false ∧
         (secondOf s).counted < purgeHighInForce s) ∧
      (let s := withCover fun c => { c with derived := .closed, prog := .preopen, preopenAcc := 44, starve := 3 }
       (secondOf s).prog = .preopen ∧ (secondOf s).starved = true) := by decide +kernel

theorem witness_FadeTickMovesEveryFade :
    let f : Fade := ⟨0, 0, 20⟩
    (grp 300 0 600 0 (some f)).fade = some f ∧ f.elapsed + 1 < f.duration ∧
      (grp 300 0 600 0 none).fade = none ∧ (⟨0, 19, 20⟩ : Fade).duration ≤ (⟨0, 19, 20⟩ : Fade).elapsed + 1 := by
  decide +kernel

/-- The invariants hold after reset, so each of their statements speaks of a state, and of its next state. -/
theorem witness_invariants :
    PortsBounded State.reset ∧ PresenceHeld State.reset ∧ PlantHeld State.reset ∧ ReleaseHeld State.reset ∧
      CapHeld State.reset ∧ StartsHeld State.reset ∧ SearchHeld State.reset ∧
      step State.reset = .next (elapse 1 State.reset) := by
  unfold PortsBounded portBounded PresenceHeld presenceSound PlantHeld ReleaseHeld CapHeld capSound StartsHeld
    SearchHeld
  refine ⟨?_, ?_, ?_, ?_, ?_, ?_, ?_, rfl⟩ <;> decide +kernel

end Sys2Proof.Tests
end

section
/-! The search record and the CALIBRATING channel (R12, R13): what each command does to them. -/

namespace Sys2Proof.Machine

/-! ## States that agree on channels and on the channel under search -/

theorem underSearch_eq_true (s : State) (n : ChanId) :
    underSearch s n = true ↔ s.search.map Search.channel = some n := by
  unfold underSearch
  cases s.search <;> simp

/-- `t` has the channels of `s`, and its search record names the same channel. -/
def SameSearch (s t : State) : Prop :=
  t.channels = s.channels ∧ t.search.map Search.channel = s.search.map Search.channel

theorem SameSearch.trans {s t u : State} (h : SameSearch s t) (k : SameSearch t u) : SameSearch s u :=
  ⟨k.1.trans h.1, k.2.trans h.2⟩

theorem SearchHeld.of_sameSearch {s t : State} (h : SearchHeld s) (k : SameSearch s t) : SearchHeld t := by
  obtain ⟨hc, hr⟩ := k
  intro n
  rw [underSearch_eq_true, hr, ← underSearch_eq_true, hc]
  exact h n

@[simp] theorem elapse_searchChannel (k : Nat) (s : State) :
    (elapse k s).search.map Search.channel = s.search.map Search.channel := by
  unfold elapse
  split
  · rfl
  · simp [Function.comp_def]

/-! ## Events away from the channels -/

theorem sampleStep_sameSearch (a b c : Bool) (s : State) : SameSearch s (sampleStep a b c s) := by
  simp [SameSearch, sampleStep]

theorem fadeStepAll_sameSearch (s : State) : SameSearch s (fadeStepAll s) := by simp [SameSearch, fadeStepAll]

theorem waterStep_sameSearch (s : State) : SameSearch s (waterStep s) := by simp [SameSearch, waterStep]

theorem sequencerStep_sameSearch (s : State) : SameSearch s (sequencerStep s) := by simp [SameSearch, sequencerStep]

theorem cvpStep_sameSearch (s : State) : SameSearch s (cvpStep s) := by simp [SameSearch, cvpStep, atCvpSecond]

theorem passStep_sameSearch (s : State) : SameSearch s (passStep s) := by simp [SameSearch, passStep]

theorem computeStep_sameSearch (s : State) : SameSearch s (computeStep s) := by
  simp [SameSearch, computeStep, atComputation]

theorem minOffStep_sameSearch (i : CompId) (s : State) : SameSearch s (minOffStep i s) := by
  unfold minOffStep; (repeat' split) <;> simp [SameSearch]

theorem minOnStep_sameSearch (i : CompId) (s : State) : SameSearch s (minOnStep i s) := by
  unfold minOnStep; (repeat' split) <;> simp [SameSearch]

theorem proofLossStep_sameSearch (s : State) : SameSearch s (proofLossStep s) := by
  unfold proofLossStep; split <;> simp [SameSearch]

theorem proofFailStep_sameSearch (s : State) : SameSearch s (proofFailStep s) := by
  unfold proofFailStep; split <;> simp [SameSearch]

theorem silenceStep_sameSearch (p : PortId) (s : State) : SameSearch s (silenceStep p s) := by
  unfold silenceStep; (repeat' split) <;> simp [SameSearch]

theorem interlockOnStep_sameSearch (s : State) : SameSearch s (interlockOnStep s) := by
  unfold interlockOnStep; split <;> simp [SameSearch, atAccept]

theorem interlockOffStep_sameSearch (s : State) : SameSearch s (interlockOffStep s) := by
  unfold interlockOffStep; split <;> simp [SameSearch, atAccept]

theorem coverLimitStep_sameSearch (s : State) : SameSearch s (coverLimitStep s) := by
  simp [SameSearch, coverLimitStep, atAccept]

theorem fanProofOnStep_sameSearch (s : State) : SameSearch s (fanProofOnStep s) := by
  unfold fanProofOnStep; split <;> simp [SameSearch, atAccept]

theorem fanProofOffStep_sameSearch (s : State) : SameSearch s (fanProofOffStep s) := by
  unfold fanProofOffStep; split <;> simp [SameSearch, atAccept]

theorem lineByte_sameSearch (p : PortId) (b : Byte) (bad : Bool) (s : State) : SameSearch s (lineByte p b bad s) := by
  simp [SameSearch]

theorem lineQuiet_sameSearch (p : PortId) (s : State) : SameSearch s (lineQuiet p s) := by simp [SameSearch]

theorem deliver_sameSearch (p : PortId) (code : Byte) (payload : List Byte) (s : State) :
    SameSearch s (deliver p code payload s) := by simp [SameSearch]

theorem storeEnd_sameSearch (d : BitVec 11) (s : State) : SameSearch s (storeEnd d s) := by simp [SameSearch]

theorem sendReply_sameSearch (p : PortId) (code : Byte) (a : Answer) (s : State) :
    SameSearch s (sendReply p code a s) := by simp [SameSearch]

/-! ## Writes of one channel -/

/-- A channel takes a record that fits what the search record says of it; a search on other channels goes on. -/
theorem SearchHeld.replace {s t : State} (h : SearchHeld s) (n : ChanId)
    (others : ∀ m, m ≠ n → t.channels[m] = s.channels[m] ∧ underSearch t m = underSearch s m)
    (status : t.channels[n].status = .calibrating ↔ underSearch t n = true)
    (conflict : t.channels[n].conflict = true → t.channels[n].status = .unused) : SearchHeld t := by
  intro m
  by_cases hm : m = n
  · subst hm; exact ⟨status, conflict⟩
  · obtain ⟨hc, hu⟩ := others m hm
    rw [hc, hu]; exact h m

theorem setChannel_same (n : ChanId) (c : Channel) (s : State) : (setChannel n c s).channels[n] = c := by
  simp

theorem setChannel_other {n m : ChanId} (c : Channel) (s : State) (h : m ≠ n) :
    (setChannel n c s).channels[m] = s.channels[m] := by
  have hv : n.val ≠ m.val := fun e => h (Fin.ext e.symm)
  simp [hv]

theorem underSearch_setChannel (n m : ChanId) (c : Channel) (s : State) :
    underSearch (setChannel n c s) m = underSearch s m := rfl

theorem SearchHeld.setChannel {s : State} (h : SearchHeld s) (n : ChanId) (c : Channel)
    (status : c.status = .calibrating ↔ underSearch s n = true)
    (conflict : c.conflict = true → c.status = .unused) : SearchHeld (setChannel n c s) :=
  h.replace n (fun _ hm => ⟨setChannel_other c s hm, rfl⟩) (by rw [setChannel_same]; exact status)
    (by rw [setChannel_same]; exact conflict)

end Sys2Proof.Machine
end

section
namespace Sys2Proof.Machine

/-! ## The visit of a channel (R4 to R9) -/

theorem railSample_iff (raw : Nat) : railSample raw = true ↔ raw ≤ 15 ∨ 4080 ≤ raw := by simp [railSample]

/-- R7: the value of a sample, in the words of the rule. -/
theorem corrected_eq (gain raw : Nat) : corrected gain raw = min (raw * gain / 32768) 4095 := by
  rw [corrected, clampNat_eq (by omega)]; omega

theorem pushWindow_eq (w : List Int) (v : Int) :
    pushWindow w v = if w.length < 8 then w ++ [v] else w.drop 1 ++ [v] := by
  unfold pushWindow
  split
  · rfl
  · cases w with
    | nil => simp at *
    | cons x w => rfl

/-- R9: the settle count reaches 8 from 7, and stands at 8 from then on. -/
theorem settleCount_eq_eight (n : Nat) : (if n < 8 then n + 1 else n) = 8 ↔ n = 7 ∨ n = 8 := by
  split <;> omega

/-- R7 to R9: what a good sample does, in the words of the rules. -/
theorem useSample_eq (c : Channel) :
    let x := engineering c.cfg.kind (min (c.raw * c.cfg.gain / 32768) 4095)
    let f := if c.settle = 0 then x else c.fast + Int.tdiv (x - c.fast) 4
    let w := if c.window.length < 8 then c.window ++ [f] else c.window.drop 1 ++ [f]
    useSample c =
      { c with
        fast := f, window := w
        settle := if c.settle < 8 then c.settle + 1 else c.settle
        settled := if w.length = 8 then Int.tdiv w.sum 8 else c.settled
        status := if c.status = .settling ∧ (c.settle = 7 ∨ c.settle = 8) then .valid else c.status } := by
  simp only [useSample, corrected_eq, pushWindow_eq, settleCount_eq_eight, filterStep, windowMean]

theorem useSample_status (c : Channel) : (useSample c).status =
    if c.status = .settling ∧ (c.settle = 7 ∨ c.settle = 8) then .valid else c.status :=
  congrArg Channel.status (useSample_eq c)

/-- A channel in UNUSED or CALIBRATING is not touched by its visit. -/
theorem visitChannel_idle {c : Channel} (h : c.status = .unused ∨ c.status = .calibrating) (raw : Nat) :
    visitChannel c raw = (c, none) := by
  rcases h with h | h <;> simp [visitChannel, h]

/-- R5: a rail sample before the third. -/
theorem visitChannel_rail {c : Channel} {raw : Nat} (h : c.status = .settling ∨ c.status = .valid)
    (r : railSample raw = true) (n : c.rail < 2) :
    visitChannel c raw = ({ c with raw := raw, rail := c.rail + 1 }, none) := by
  rcases h with h | h <;> simp [visitChannel, h, r, show ¬2 ≤ c.rail by omega]

/-- R5: the third rail sample. -/
theorem visitChannel_faults {c : Channel} {raw : Nat} (h : c.status = .settling ∨ c.status = .valid)
    (r : railSample raw = true) (n : 2 ≤ c.rail) :
    visitChannel c raw = ({ c with raw := raw, rail := 0, status := .fault }, some .channelFault) := by
  rcases h with h | h <;> simp [visitChannel, h, r, n]

theorem visitChannel_good {c : Channel} {raw : Nat} (h : c.status = .settling ∨ c.status = .valid)
    (r : ¬railSample raw = true) : visitChannel c raw = (useSample { c with raw := raw, rail := 0 }, none) := by
  rcases h with h | h <;> simp [visitChannel, h, r]

/-- R6: a rail sample in FAULT. -/
theorem visitChannel_fault_rail {c : Channel} {raw : Nat} (h : c.status = .fault) (r : railSample raw = true) :
    visitChannel c raw = ({ c with raw := raw, rail := 0 }, none) := by
  simp [visitChannel, h, r]

/-- R6: a good sample in FAULT before the third. -/
theorem visitChannel_fault_good {c : Channel} {raw : Nat} (h : c.status = .fault) (r : ¬railSample raw = true)
    (n : c.rail < 2) : visitChannel c raw = ({ c with raw := raw, rail := c.rail + 1 }, none) := by
  simp [visitChannel, h, r, show ¬2 ≤ c.rail by omega]

/-- R6: the third good sample in FAULT. -/
theorem visitChannel_recovers {c : Channel} {raw : Nat} (h : c.status = .fault) (r : ¬railSample raw = true)
    (n : 2 ≤ c.rail) :
    visitChannel c raw = (useSample (beginSettling { c with raw := raw }), some .channelRecover) := by
  simp [visitChannel, h, r, n]

/-- The statuses in which a scan works on a channel. -/
def ChanStatus.scanned (st : ChanStatus) : Prop := st = .settling ∨ st = .valid ∨ st = .fault

theorem useSample_scanned {c : Channel} (h : c.status.scanned) : (useSample c).status.scanned := by
  rw [useSample_status]
  split
  · exact .inr (.inl rfl)
  · exact h

/-- A scan neither begins nor ends the work of scans on a channel. -/
theorem visitChannel_scanned {c : Channel} (h : c.status.scanned) (raw : Nat) :
    (visitChannel c raw).1.status.scanned := by
  have settled : c.status = .settling ∨ c.status = .valid → (visitChannel c raw).1.status.scanned := fun hs => by
    by_cases r : railSample raw = true
    · by_cases n : c.rail < 2
      · rw [visitChannel_rail hs r n]; exact h
      · rw [visitChannel_faults hs r (by omega)]; exact .inr (.inr rfl)
    · rw [visitChannel_good hs r]; exact useSample_scanned h
  rcases h with hs | hs | hs
  · exact settled (.inl hs)
  · exact settled (.inr hs)
  · by_cases r : railSample raw = true
    · rw [visitChannel_fault_rail hs r]; exact .inr (.inr hs)
    · by_cases n : c.rail < 2
      · rw [visitChannel_fault_good hs r n]; exact .inr (.inr hs)
      · rw [visitChannel_recovers hs r (by omega)]; exact useSample_scanned (.inl rfl)

theorem ChanStatus.scanned_or_idle (st : ChanStatus) : st.scanned ∨ st = .unused ∨ st = .calibrating := by
  cases st <;> simp [ChanStatus.scanned]

@[simp] theorem visitChannel_conflict (c : Channel) (raw : Nat) : (visitChannel c raw).1.conflict = c.conflict := by
  unfold visitChannel; (repeat' split) <;> rfl

theorem visitChannel_calibrating_iff (c : Channel) (raw : Nat) :
    (visitChannel c raw).1.status = .calibrating ↔ c.status = .calibrating := by
  rcases c.status.scanned_or_idle with h | h
  · have h' := visitChannel_scanned h raw
    constructor <;> intro e <;> simp_all [ChanStatus.scanned]
  · rw [visitChannel_idle h]

/-- R12, R13: a scan keeps the search record and the CALIBRATING channel together. -/
theorem searchHeld_scanChannel {s : State} (n : ChanId) (raw : Nat) (h : SearchHeld s) :
    SearchHeld (scanChannel n raw s) := by
  obtain ⟨status, conflict⟩ := h n
  have visited : SearchHeld (setChannel n (visitChannel s.channels[n] raw).1 s) :=
    h.setChannel n _ (by rw [visitChannel_calibrating_iff, status]) fun hc => by
      have hu := conflict (by simpa using hc)
      rw [visitChannel_idle (.inl hu), hu]
  refine visited.of_sameSearch ?_
  simp [SameSearch, scanChannel]

theorem searchHeld_scanAll {s : State} (samples : Samples) (h : SearchHeld s) : SearchHeld (scanAll samples s) := by
  unfold scanAll
  generalize List.finRange 16 = l
  induction l generalizing s with
  | nil => exact h
  | cons n l ih =>
    rw [List.foldl_cons]
    exact ih (searchHeld_scanChannel n _ h)

theorem searchHeld_scanStep {s : State} (samples : Samples) (h : SearchHeld s) : SearchHeld (scanStep samples s) :=
  searchHeld_scanAll samples (h.of_sameSearch (by simp [SameSearch]))

/-! ## The zero search (R13 to R16) -/

/-- R14: a report before the last decides its bit and puts the next one under test. -/
theorem searchStep_of_bit_succ {r : Search} {b : Nat} (h : r.bit = b + 1) (above : Bool) (s : State) :
    searchStep above r s = { s with search := some { r with
      code := (if above then r.code - 2 ^ (b + 1) else r.code) + 2 ^ b, bit := b, stepLeft := 10 } } := by
  simp only [searchStep, h]

/-- R15: the last report completes the search. -/
theorem searchStep_of_bit_zero {r : Search} (h : r.bit = 0) (above : Bool) (s : State) :
    searchStep above r s = completeSearch r (if above then r.code - 1 else r.code) s := by
  simp only [searchStep, h]; rfl

theorem completeSearch_channels (r : Search) (code : Nat) (s : State) :
    (completeSearch r code s).channels = s.channels.set r.channel
      (beginSettling { s.channels[r.channel] with cfg := { s.channels[r.channel].cfg with trim := code } }) := by
  simp [completeSearch, clearSearch]

@[simp] theorem completeSearch_search (r : Search) (code : Nat) (s : State) :
    (completeSearch r code s).search = none := by
  simp [completeSearch, clearSearch]

theorem underSearch_of_none {s : State} (h : s.search = none) (n : ChanId) : underSearch s n = false := by
  simp [underSearch, h]

theorem underSearch_of_some {s : State} {r : Search} (h : s.search = some r) (n : ChanId) :
    underSearch s n = decide (r.channel = n) := by
  simp [underSearch, h]

theorem searchHeld_completeSearch {s : State} {r : Search} (code : Nat) (h : SearchHeld s)
    (hr : s.search.map Search.channel = some r.channel) : SearchHeld (completeSearch r code s) := by
  have here := (underSearch_eq_true s r.channel).2 hr
  have calm (m : ChanId) : underSearch (completeSearch r code s) m = false := underSearch_of_none (by simp) m
  refine h.replace r.channel (fun m hm => ⟨?_, ?_⟩) ?_ ?_
  · have hv : r.channel.val ≠ m.val := fun e => hm (Fin.ext e.symm)
    simp [completeSearch_channels, hv]
  · rw [calm, eq_comm, Bool.eq_false_iff, ne_eq, underSearch_eq_true, hr]
    simpa using Ne.symm hm
  · simp [calm, completeSearch_channels, beginSettling]
  · obtain ⟨status, conflict⟩ := h r.channel
    intro hc
    have unused := conflict (by simpa [completeSearch_channels, beginSettling] using hc)
    rw [status.2 here] at unused
    exact ChanStatus.noConfusion unused

theorem searchHeld_searchExpiry {s : State} (above : Bool) (h : SearchHeld s) : SearchHeld (searchExpiry above s) := by
  unfold searchExpiry
  split
  · exact h
  · rename_i r hr
    have later : SearchHeld (elapse r.stepLeft s) := h.of_sameSearch (by simp [SameSearch])
    match hb : r.bit with
    | 0 =>
      rw [searchStep_of_bit_zero hb]
      exact searchHeld_completeSearch _ later (by simp [hr])
    | b + 1 =>
      rw [searchStep_of_bit_succ hb]
      exact h.of_sameSearch (by simp [SameSearch, hr])

theorem searchHeld_ownZeroSearch {s : State} (b : Byte) (h : SearchHeld s) : SearchHeld (ownZeroSearch b s).1 := by
  unfold ownZeroSearch
  split
  · exact h
  · rename_i n hn
    split_ifs with hu hs hb
    · exact h
    · exact h
    · exact h
    · have none : s.search = none := by simpa using hs
      refine h.replace n (fun m hm => ?_) ?_ ?_
      · have hv : n.val ≠ m.val := fun e => hm (Fin.ext e.symm)
        exact ⟨by simp [beginSearch, hv], by simp [beginSearch, underSearch, none, Ne.symm hm]⟩
      · simp [beginSearch, underSearch]
      · have hc : s.channels[n].conflict ≠ true := fun hc => hu ((h n).2 hc)
        simpa [beginSearch] using hc

/-- R16: the search that runs on the channel ends, and its old trim code returns. -/
theorem abortSearch_of_some {s : State} {r : Search} {n : ChanId} (h : s.search = some r) (hn : r.channel = n) :
    abortSearch n s = clearSearch
      (setChannel n { s.channels[n] with cfg := { s.channels[n].cfg with trim := r.trimBefore } } s) := by
  simp [abortSearch, h, hn]

theorem abortSearch_of_not_under {s : State} {n : ChanId} (h : underSearch s n = false) : abortSearch n s = s := by
  unfold abortSearch
  split
  · rename_i r hr
    rw [underSearch_of_some hr] at h
    exact if_neg (by simpa using h)
  · rfl

/-- R16: after an abort no search runs on the channel; one on another channel goes on. -/
theorem underSearch_abortSearch (n m : ChanId) (s : State) :
    underSearch (abortSearch n s) m = (underSearch s m && decide (m ≠ n)) := by
  match hs : s.search with
  | none =>
    have idle : underSearch s n = false := underSearch_of_none hs n
    rw [abortSearch_of_not_under idle, underSearch_of_none hs, Bool.false_and]
  | some r =>
    by_cases hn : r.channel = n
    · rw [abortSearch_of_some hs hn, underSearch_of_none rfl, underSearch_of_some hs]
      subst hn
      by_cases hm : r.channel = m <;> simp [hm]
    · rw [abortSearch_of_not_under (by simp [underSearch_of_some hs, hn]), underSearch_of_some hs]
      by_cases hm : r.channel = m
      · subst hm; simp [hn]
      · simp [hm]

theorem abortSearch_other {n m : ChanId} (s : State) (h : m ≠ n) : (abortSearch n s).channels[m] = s.channels[m] := by
  unfold abortSearch
  split
  · split
    · exact setChannel_other _ _ h
    · rfl
  · rfl

theorem searchHeld_retake {s : State} (n : ChanId) (k : Kind) (z : Nat) (conflict : Bool) (h : SearchHeld s) :
    SearchHeld (setChannel n (retakeChannel (abortSearch n s).channels[n] k z conflict) (abortSearch n s)) := by
  refine h.replace n (fun m hm => ⟨?_, ?_⟩) ?_ ?_
  · rw [setChannel_other _ _ hm, abortSearch_other s hm]
  · rw [underSearch_setChannel, underSearch_abortSearch]; simp [hm]
  · rw [setChannel_same, underSearch_setChannel, underSearch_abortSearch]
    simp only [retakeChannel]; split <;> simp
  · rw [setChannel_same]
    intro hc; simp only [retakeChannel] at hc ⊢; simp [hc]

theorem heir_conflict {k : Kind} {z : Nat} {s : State} {m : ChanId} (h : heir k z s = some m) :
    s.channels[m].conflict = true := by
  have := List.find?_some h
  simp only [Bool.and_eq_true] at this
  exact this.1.1

/-- R3: the heir of a claim is UNUSED before it settles, so no search runs on it. -/
theorem searchHeld_releaseClaim {s : State} (old : Channel) (k : Kind) (z : Nat) (h : SearchHeld s) :
    SearchHeld (releaseClaim old k z s) := by
  unfold releaseClaim
  split
  · split
    · rename_i m hm
      have unused : s.channels[m].status = .unused := (h m).2 (heir_conflict hm)
      refine h.setChannel m _ ?_ (by simp [beginSettling])
      rw [← (h m).1, unused]
      simp [beginSettling]
    · exact h
  · exact h

theorem searchHeld_ownWriteChannel {s : State} (index kind zone : Byte) (h : SearchHeld s) :
    SearchHeld (ownWriteChannel index kind zone s).1 := by
  unfold ownWriteChannel
  split
  · exact h
  · split_ifs
    · exact h
    · split
      · exact h
      · dsimp only
        split_ifs
        · exact h
        · exact searchHeld_releaseClaim _ _ _ (searchHeld_retake _ _ _ _ h)

theorem searchHeld_ownGainCorrect {s : State} (channel : Byte) (e : Half) (h : SearchHeld s) :
    SearchHeld (ownGainCorrect channel e s).1 := by
  unfold ownGainCorrect
  split
  · exact h
  · rename_i n _
    obtain ⟨status, conflict⟩ := h n
    dsimp only
    split_ifs with hu hv hs hb hw
    · exact h
    · exact h
    · exact h
    · exact h
    · refine h.setChannel n _ ?_ fun hc => ?_
      · rw [← status]; rcases hw with hw | hw <;> simp [beginSettling] <;> exact fun e => by simp_all
      · exact absurd (conflict hc) hu
    · exact h.setChannel n _ status conflict

end Sys2Proof.Machine
end

section
namespace Sys2Proof.Machine

/-! ## Requests -/

/-- Every owner keeps the search record and the CALIBRATING channel together; only ZERO_SEARCH, GAIN_CORRECT and a
CHANNEL write reach them at all. -/
theorem searchHeld_ownerServe {s : State} (c : Instr) (h : SearchHeld s) : SearchHeld (ownerServe c s).1 := by
  cases c
  case zeroSearch p n => exact searchHeld_ownZeroSearch n h
  case gainCorrect p n e => exact searchHeld_ownGainCorrect n e h
  case writeItemChannel p n k z => exact searchHeld_ownWriteChannel n k z h
  all_goals exact h.of_sameSearch (by simp [SameSearch, ownerServe])

theorem searchHeld_takeHanded {s : State} (p : PortId) (c : Instr) (h : SearchHeld s) :
    SearchHeld (takeHanded p c s) :=
  (searchHeld_ownerServe c h).of_sameSearch (sendReply_sameSearch ..)

theorem searchHeld_requestStep {s : State} (p : PortId) (c : Instr) (h : SearchHeld s) :
    SearchHeld (requestStep p c s) := by
  unfold requestStep
  split
  · exact searchHeld_takeHanded p c h
  · split
    · exact h
    · have delivered (q code payload) := h.of_sameSearch (deliver_sameSearch q code payload s)
      dsimp only
      split
      · exact searchHeld_takeHanded p c (delivered _ _ _)
      · exact delivered _ _ _

theorem searchHeld_portStep {s : State} (c : Instr) (h : SearchHeld s) : SearchHeld (portStep c s) := by
  unfold portStep
  split
  · exact h
  · exact h.of_sameSearch (deliver_sameSearch ..)

/-! ## Restarts -/

theorem searchHeld_answerInService {s : State} (p : PortId) (h : SearchHeld s) : SearchHeld (answerInService p s) := by
  unfold answerInService
  split
  · exact searchHeld_takeHanded p _ h
  · exact h

theorem searchHeld_answerAll {s : State} (h : SearchHeld s) : SearchHeld (answerAll s) := by
  have answers (l : List PortId) {s : State} (h : SearchHeld s) :
      SearchHeld (l.foldl (fun acc p => answerInService p acc) s) := by
    induction l generalizing s with
    | nil => exact h
    | cons p l ih =>
      rw [List.foldl_cons]
      exact ih (searchHeld_answerInService p h)
  unfold answerAll
  split
  · exact h
  · exact searchHeld_answerInService _ h
  · exact answers _ (h.of_sameSearch ⟨rfl, rfl⟩)

/-- A state in which no search runs and no channel is CALIBRATING. -/
theorem searchHeld_of_none {s : State} (none : s.search = none)
    (calm : ∀ n : ChanId, s.channels[n].status ≠ .calibrating ∧
      (s.channels[n].conflict = true → s.channels[n].status = .unused)) : SearchHeld s := fun n => by
  obtain ⟨idle, conflict⟩ := calm n
  exact ⟨⟨fun e => absurd e idle, fun e => by simp [underSearch_of_none none] at e⟩, conflict⟩

theorem abortSearch_keeps (n m : ChanId) (s : State) :
    (abortSearch n s).channels[m].conflict = s.channels[m].conflict ∧
      (abortSearch n s).channels[m].status = s.channels[m].status := by
  by_cases hm : m = n
  · subst hm
    unfold abortSearch
    (repeat' split) <;> simp [clearSearch]
  · simp [abortSearch_other s hm]

/-- R11, R16: after a warm restart no channel is CALIBRATING. -/
theorem searchHeld_restartChannels {s : State} (h : SearchHeld s) : SearchHeld (restartChannels s) := by
  refine searchHeld_of_none ?_ fun n => ?_
  · unfold restartChannels
    split
    · rename_i r hr; rw [abortSearch_of_some hr rfl]; rfl
    · assumption
  · have ready (t : State) (conflict : t.channels[n].conflict = s.channels[n].conflict)
        (status : t.channels[n].status = s.channels[n].status) :
        (restartChannel t.channels[n]).status ≠ .calibrating ∧
          ((restartChannel t.channels[n]).conflict = true → (restartChannel t.channels[n]).status = .unused) := by
      unfold restartChannel
      split
      · rename_i hu; exact ⟨fun e => ChanStatus.noConfusion (hu.symm.trans e), fun _ => hu⟩
      · rename_i hu
        exact ⟨by simp [beginSettling], fun hc => absurd (status ▸ (h n).2 (conflict ▸ hc)) hu⟩
    unfold restartChannels
    split
    · rename_i r hr
      obtain ⟨conflict, status⟩ := abortSearch_keeps r.channel n s
      simpa using ready _ conflict status
    · simpa using ready s rfl rfl

theorem restartCover_sameSearch (s : State) : SameSearch s (restartCover s) := by
  unfold restartCover
  dsimp only
  (repeat' split) <;> simp [SameSearch]

theorem searchHeld_warmRestart {s : State} (h : SearchHeld s) : SearchHeld (warmRestart s) := by
  have emptied : SearchHeld { answerAll s with ports := (answerAll s).ports.map restartPort, restartPending := none } :=
    (searchHeld_answerAll h).of_sameSearch ⟨rfl, rfl⟩
  refine ((searchHeld_restartChannels emptied).of_sameSearch ?_).of_sameSearch (restartCover_sameSearch _)
  exact ⟨rfl, rfl⟩

theorem searchHeld_replyEnd {s : State} (p : PortId) (h : SearchHeld s) : SearchHeld (replyEnd p s) := by
  have ended (q : Port) : SearchHeld (setPort p q s) := h.of_sameSearch (by simp [SameSearch])
  unfold replyEnd
  dsimp only
  split_ifs
  · exact h
  · exact searchHeld_warmRestart (ended _)
  · exact ended _

/-- A channel that a power-on may bring about: not CALIBRATING, and UNUSED where it is in conflict. -/
def freshChannel (c : Channel) : Prop := c.status ≠ .calibrating ∧ (c.conflict = true → c.status = .unused)

theorem startChannel_fresh {cs : Vector Channel 16} (n : ChanId) (h : ∀ m : ChanId, freshChannel cs[m]) (m : ChanId) :
    freshChannel (startChannel cs n)[m] := by
  by_cases hm : n.val = m.val
  · simp only [startChannel, Fin.getElem_fin, Vector.getElem_set, hm, ↓reduceIte, freshChannel]
    split <;> simp_all
  · simpa [startChannel, hm] using h m

theorem powerOnChannels_fresh (cfgs : Vector ChannelCfg 16) (m : ChanId) : freshChannel (powerOnChannels cfgs)[m] := by
  have loads (l : List ChanId) {cs : Vector Channel 16} (h : ∀ m : ChanId, freshChannel cs[m]) (m : ChanId) :
      freshChannel (l.foldl startChannel cs)[m] := by
    induction l generalizing cs with
    | nil => exact h m
    | cons n l ih =>
      rw [List.foldl_cons]
      exact ih (startChannel_fresh n h)
  refine loads _ (fun m => ?_) m
  simp [loadChannel, freshChannel]

theorem searchHeld_powerUp (a b c : BitVec 2) (s : State) : SearchHeld (powerUp a b c s) := by
  have records (r0 r1 r2 : Role) (set : Settings) : SearchHeld (powerOnRecords r0 r1 r2 set s) :=
    searchHeld_of_none rfl (powerOnChannels_fresh set.channels)
  unfold powerUp
  dsimp only
  split
  · exact records _ _ _ _
  · exact (records (roleOf a) (roleOf b) (roleOf c) (startSettings s.store)).of_sameSearch (by simp [SameSearch])

/-! ## The step -/

theorem searchHeld_outcomeStep {s t : State} (met : Bool) (h : SearchHeld s) (ht : SearchHeld t) :
    SearchHeld (outcomeStep met t s) := by
  unfold outcomeStep
  split <;> assumption

theorem searchHeld_exec {s t : State} (i : Instr) (h : SearchHeld s) (e : exec i s = .next t) : SearchHeld t := by
  have next {u : State} (hu : SearchHeld u) (e : (.next u : Host.Outcome State Fault Refusal) = .next t) :
      SearchHeld t := by
    injection e with e; exact e ▸ hu
  have scan (x) := searchHeld_scanStep x h
  have compute := h.of_sameSearch (computeStep_sameSearch s)
  have cvp := h.of_sameSearch (cvpStep_sameSearch s)
  cases i
  case powerOn a b c => exact next (searchHeld_powerUp a b c s) e
  case receiveByte p d y x => exact next (h.of_sameSearch (lineByte_sameSearch ..)) e
  case lineQuietExpiry p => exact next (h.of_sameSearch (lineQuiet_sameSearch ..)) e
  case replySent p => exact next (searchHeld_replyEnd p h) e
  case unknownRequest p c l => exact next (searchHeld_portStep _ h) e
  case writeItemReadOnly p k n l => exact next (searchHeld_portStep _ h) e
  case zeroSearchStep above => exact next (searchHeld_searchExpiry above h) e
  case storeCompletion d =>
    refine next ?_ e
    split
    · exact h.of_sameSearch (storeEnd_sameSearch d s)
    · exact h
  case silenceTimerExpiry p => exact next (h.of_sameSearch (silenceStep_sameSearch p s)) e
  case channelScan x => exact next (scan x) e
  case channelFault n x => exact next (searchHeld_outcomeStep _ h (scan x)) e
  case channelRecover n x => exact next (searchHeld_outcomeStep _ h (scan x)) e
  case channelValid n x => exact next (searchHeld_outcomeStep _ h (scan x)) e
  case climateComputation => exact next compute e
  case heatBlindDemand => exact next (searchHeld_outcomeStep _ h compute) e
  case moistureBlindDemand => exact next (searchHeld_outcomeStep _ h compute) e
  case waterAgeSecond => exact next (h.of_sameSearch (waterStep_sameSearch s)) e
  case waterStale => exact next (searchHeld_outcomeStep _ h (h.of_sameSearch (waterStep_sameSearch s))) e
  case allocationPass => exact next (h.of_sameSearch (passStep_sameSearch s)) e
  case sequencerSecond => exact next (h.of_sameSearch (sequencerStep_sameSearch s)) e
  case minOffExpiry k => exact next (h.of_sameSearch (minOffStep_sameSearch k s)) e
  case minOnExpiry k => exact next (h.of_sameSearch (minOnStep_sameSearch k s)) e
  case proofLossExpiry => exact next (h.of_sameSearch (proofLossStep_sameSearch s)) e
  case proofFailExpiry => exact next (h.of_sameSearch (proofFailStep_sameSearch s)) e
  case interlockOn => exact next (h.of_sameSearch (interlockOnStep_sameSearch s)) e
  case interlockOff => exact next (h.of_sameSearch (interlockOffStep_sameSearch s)) e
  case coverLimitChange => exact next (h.of_sameSearch (coverLimitStep_sameSearch s)) e
  case fanProofActive => exact next (h.of_sameSearch (fanProofOnStep_sameSearch s)) e
  case fanProofInactive => exact next (h.of_sameSearch (fanProofOffStep_sameSearch s)) e
  case cvpSecond => exact next cvp e
  case fadeTick => exact next (h.of_sameSearch (fadeStepAll_sameSearch s)) e
  case fadeComplete g => exact next (searchHeld_outcomeStep _ h (h.of_sameSearch (fadeStepAll_sameSearch s))) e
  case inputSample a b c => exact next (h.of_sameSearch (sampleStep_sameSearch a b c s)) e
  case mismatchCountExpiry | travelCountExpiry | settleTimeMet | purgeComplete | restTimeMet | alertHoldMet
    | preopenTimeMet | permissionHoldMet | purgeStarved => exact next (searchHeld_outcomeStep _ h cvp) e
  all_goals exact next (searchHeld_requestStep _ _ h) e

/-- Settles O59: every command and every idle step keeps the search record and the CALIBRATING channel together. -/
theorem oneSearchAtATime : Obligations.OneSearchAtATime := by
  intro s t h e
  unfold step at e
  split at e
  · rename_i rest _
    exact searchHeld_exec _ (s := { s with pending := rest }) (h.of_sameSearch ⟨rfl, rfl⟩) e
  · split at e
    · exact searchHeld_exec _ h e
    · injection e with e
      exact e ▸ h.of_sameSearch (by simp [SameSearch])

end Sys2Proof.Machine
end

section
/-! The requests on channels: ZERO_SEARCH (R12 to R15), GAIN_CORRECT (R18) and the CHANNEL write (R2, R3, R16). -/

namespace Sys2Proof.Machine

/-! ## Requests in service -/

/-- A request in service ends in the state its owner leaves, with the owner's result as the reply. -/
theorem requestStep_of_answer {p : PortId} {c : Instr} {s t : State} {r : Result} (h : Served s p c)
    (own : ownerServe c s = (t, answer r)) : requestStep p c s = reply p (requestCode c) r t := by
  rw [requestStep_of_served h, takeHanded, own]; rfl

theorem exec_zeroSearch {p : PortId} {n : Byte} {s t : State} {r : Result} (h : Served s p (.zeroSearch p n))
    (own : ownZeroSearch n s = (t, answer r)) : exec (.zeroSearch p n) s = .next (reply p 0x50 r t) :=
  congrArg _ (requestStep_of_answer h own)

theorem exec_gainCorrect {p : PortId} {n : Byte} {e : Half} {s t : State} {r : Result}
    (h : Served s p (.gainCorrect p n e)) (own : ownGainCorrect n e s = (t, answer r)) :
    exec (.gainCorrect p n e) s = .next (reply p 0x51 r t) :=
  congrArg _ (requestStep_of_answer h own)

theorem exec_writeItemChannel {p : PortId} {n kind zone : Byte} {s t : State} {r : Result}
    (h : Served s p (.writeItemChannel p n kind zone)) (own : ownWriteChannel n kind zone s = (t, answer r)) :
    exec (.writeItemChannel p n kind zone) s = .next (reply p 3 r t) :=
  congrArg _ (requestStep_of_answer h own)

/-! ## Gain correction -/

/-- R18: the new gain is the nearest whole quotient, a half rounded upward. -/
theorem correctedGain_nearest (g : Nat) {e : Int} (lo : -2000 ≤ e) :
    (2 * (correctedGain g e : Int) - 1) * (10000 + e) ≤ 2 * ((g : Int) * 10000) ∧
      2 * ((g : Int) * 10000) < (2 * (correctedGain g e : Int) + 1) * (10000 + e) := by
  obtain ⟨d, hd⟩ : ∃ d : Nat, 10000 + e = d := ⟨(10000 + e).toNat, by omega⟩
  have pos : 0 < d := by omega
  have quotient : correctedGain g e = (g * 10000 + d / 2) / d := by simp [correctedGain, hd]
  have low := Nat.div_mul_le_self (g * 10000 + d / 2) d
  have high := Nat.lt_div_mul_add (a := g * 10000 + d / 2) pos
  rw [← quotient] at low high
  rw [hd]
  zify at low high
  generalize (correctedGain g e : Int) = q at low high
  constructor <;> nlinarith [show 2 * (d / 2 : Int) ≤ d by omega, show (d : Int) < 2 * (d / 2 : Int) + 2 by omega]

theorem ownGainCorrect_of_index {n : Byte} {c : ChanId} (hc : c.val = n.toNat) (e : Half) (s : State) :
    ownGainCorrect n e s =
      if s.channels[c].status = .unused then refuse .badItem s
      else if e.toInt < -2000 ∨ 2000 < e.toInt then refuse .badValue s
      else if underSearch s c then refuse .busy s
      else if s.store.busy then refuse .busy s
      else
        let g := correctedGain s.channels[c].cfg.gain e.toInt
        let g1 := clampNat g 24576 40960
        let c1 := { s.channels[c] with cfg := { s.channels[c].cfg with gain := g1 } }
        let c2 := if s.channels[c].status = .settling ∨ s.channels[c].status = .valid then beginSettling c1 else c1
        (setChannel c c2 s, answer (okOrClamped (g1 ≠ g))) := by
  simp only [ownGainCorrect, indexBelow_eq_some c hc]

/-- Settles O32: the quotient is the nearest one, and the owner's tests come in the order of R18. -/
theorem gainCorrectRoundsHalfUp : Obligations.GainCorrectRoundsHalfUp := by
  intro p n e s served
  refine ⟨fun hn => exec_gainCorrect served (by simp [ownGainCorrect, indexBelow_eq_none hn, refuse]), fun c hc => ?_⟩
  have own := ownGainCorrect_of_index hc e s
  refine ⟨fun unused => exec_gainCorrect served ?_, fun used out => exec_gainCorrect served ?_,
    fun used lo hi hbusy => exec_gainCorrect served ?_, fun used lo hi free idle => ?_⟩
  · rw [own, if_pos unused]; rfl
  · rw [own, if_neg used, if_pos out]; rfl
  · rw [own, if_neg used, if_neg (by omega)]
    rcases hbusy with h | h <;> simp [h, refuse]
  · obtain ⟨low, high⟩ := correctedGain_nearest s.channels[c].cfg.gain lo
    refine ⟨correctedGain s.channels[c].cfg.gain e.toInt, low, high, exec_gainCorrect served ?_⟩
    rw [own, if_neg used, if_neg (by omega), if_neg (by simp [free]), if_neg (by simp [idle])]
    simp only [clampNat_eq (show 24576 ≤ 40960 by omega)]
    rw [okOrClamped_eq _ (24576 ≤ correctedGain s.channels[c].cfg.gain e.toInt ∧
      correctedGain s.channels[c].cfg.gain e.toInt ≤ 40960) (by simp; omega)]
    rfl

/-! ## The zero search -/

theorem ownZeroSearch_of_index {n : Byte} {c : ChanId} (hc : c.val = n.toNat) (s : State) :
    ownZeroSearch n s =
      if s.channels[c].status = .unused then refuse .badItem s
      else if s.search.isSome then refuse .busy s
      else if s.store.busy then refuse .busy s
      else (beginSearch c s, answer .accepted) := by
  simp only [ownZeroSearch, indexBelow_eq_some c hc]

/-- R12: ZERO_SEARCH at a channel. -/
theorem exec_zeroSearch_of_index {p : PortId} {n : Byte} {s : State} (served : Served s p (.zeroSearch p n))
    {c : ChanId} (hc : c.val = n.toNat) : exec (.zeroSearch p n) s = .next
      (if s.channels[c].status = .unused then reply p 0x50 .badItem s
       else if s.search.isSome = true ∨ s.store.busy = true then reply p 0x50 .busy s
       else reply p 0x50 .accepted (beginSearch c s)) := by
  have own := ownZeroSearch_of_index hc s
  by_cases unused : s.channels[c].status = .unused
  · rw [if_pos unused] at own ⊢
    exact exec_zeroSearch served own
  rw [if_neg unused] at own ⊢
  by_cases search : s.search.isSome = true
  · rw [if_pos search] at own
    rw [if_pos (.inl search)]
    exact exec_zeroSearch served own
  rw [if_neg search] at own
  by_cases busy : s.store.busy = true
  · rw [if_pos busy] at own
    rw [if_pos (.inr busy)]
    exact exec_zeroSearch served own
  · rw [if_neg busy] at own
    rw [if_neg (by simp [search, busy])]
    exact exec_zeroSearch served own

/-- The code that the reports still to come add: a bit is kept where the report is not "above" (R14). -/
def keptBits : List Bool → Nat
  | [] => 0
  | above :: rest => (if above then 0 else 2 ^ rest.length) + keptBits rest

/-- What a search step leaves: the records of the other blocks and the notices. -/
structure BesideSearch (s u : State) : Prop where
  watches : u.watches = s.watches
  climate : u.climate = s.climate
  alloc : u.alloc = s.alloc
  cover : u.cover = s.cover
  light : u.light = s.light
  mode : u.mode = s.mode
  water : u.water = s.water
  notices : ∀ q : PortId, u.ports[q].notices = s.ports[q].notices

theorem BesideSearch.elapse (k : Nat) (s : State) (r : Option Search) (cs : Vector Channel 16) :
    BesideSearch s { elapse k s with search := r, channels := cs } := by
  refine ⟨?_, ?_, ?_, ?_, ?_, ?_, ?_, fun q => ?_⟩
  case refine_8 =>
    show (Machine.elapse k s).ports[q].notices = _
    rw [elapse_ports]; split <;> rfl
  all_goals simp

theorem BesideSearch.trans {s t u : State} (h : BesideSearch s t) (k : BesideSearch t u) : BesideSearch s u :=
  ⟨k.watches.trans h.watches, k.climate.trans h.climate, k.alloc.trans h.alloc, k.cover.trans h.cover,
    k.light.trans h.light, k.mode.trans h.mode, k.water.trans h.water, fun q => (k.notices q).trans (h.notices q)⟩

theorem exec_zeroSearchStep {s : State} {r : Search} (hr : s.search = some r) (above : Bool) :
    exec (.zeroSearchStep above) s = .next (searchStep above r (elapse r.stepLeft s)) := by
  show Host.Outcome.next (searchExpiry above s) = _
  simp only [searchExpiry, hr]

/-- R14, R15: the reports from the bit under test down complete the search with the bits they keep. -/
theorem execAll_zeroSearchSteps (reports : List Bool) (above : Bool) {s : State} {r : Search} {code : Nat}
    (hr : s.search = some r) (hcode : r.code = code + 2 ^ reports.length) (hbit : r.bit = reports.length) :
    let final := code + keptBits (above :: reports)
    ∃ u, execAll ((above :: reports).map .zeroSearchStep) s =
        .next (post (if final = 0 ∨ final = 63 then .calLimit else .calDone) r.channel ((final : Int) - 32) u) ∧
      u.channels = s.channels.set r.channel (beginSettling
        { s.channels[r.channel] with cfg := { s.channels[r.channel].cfg with trim := final } }) ∧
      u.search = none ∧ BesideSearch s u := by
  induction reports generalizing above s r code with
  | nil =>
    have final : (if above then r.code - 1 else r.code) = code + keptBits [above] := by
      cases above <;> simp [keptBits, hcode]
    simp only [List.map, execAll, exec_zeroSearchStep hr, searchStep_of_bit_zero hbit, final]
    exact ⟨_, rfl, by simp [clearSearch], rfl, BesideSearch.elapse ..⟩
  | cons next rest ih =>
    have decided : (if above then r.code - 2 ^ (rest.length + 1) else r.code) =
        code + if above then 0 else 2 ^ (rest.length + 1) := by
      cases above <;> simp [hcode]
    have step := exec_zeroSearchStep hr above
    rw [searchStep_of_bit_succ hbit, decided] at step
    obtain ⟨u, run, channels, search, beside⟩ := ih next
      (s := { elapse r.stepLeft s with search := some { r with
        code := (code + if above then 0 else 2 ^ (rest.length + 1)) + 2 ^ rest.length
        bit := rest.length, stepLeft := 10 } }) rfl rfl rfl
    have final : code + keptBits (above :: next :: rest) =
        (code + if above then 0 else 2 ^ (rest.length + 1)) + keptBits (next :: rest) := by
      simp [keptBits, Nat.add_assoc]
    refine ⟨u, ?_, ?_, search, .trans (BesideSearch.elapse ..) beside⟩
    · rw [List.map_cons, execAll, step, final]; exact run
    · rw [channels, final]; simp

/-- Settles O31: a search begins with code 32, and the six reports keep the bits they do not find above. -/
theorem zeroSearchBeginsAndTakesSixSteps : Obligations.ZeroSearchBeginsAndTakesSixSteps := by
  refine ⟨fun p n s served => ⟨fun hn => exec_zeroSearch served ?_, fun c hc => exec_zeroSearch_of_index served hc⟩,
    fun above b r s hr hb => ?_, fun a5 a4 a3 a2 a1 a0 r s hr hcode hbit => ?_⟩
  · simp [ownZeroSearch, indexBelow_eq_none hn, refuse]
  · rw [exec_zeroSearchStep hr, searchStep_of_bit_succ hb]
  · obtain ⟨u, run, channels, search, beside⟩ :=
      execAll_zeroSearchSteps [a4, a3, a2, a1, a0] a5 (code := 0) hr (by simpa using hcode) hbit
    have kept : 0 + keptBits [a5, a4, a3, a2, a1, a0] = (if a5 then 0 else 32) + (if a4 then 0 else 16) +
        (if a3 then 0 else 8) + (if a2 then 0 else 4) + (if a1 then 0 else 2) + (if a0 then 0 else 1) := by
      simp [keptBits, Nat.add_assoc]
    rw [kept] at run channels
    exact ⟨_, u, run, channels, search, beside.watches, beside.climate, beside.alloc, beside.cover, beside.light,
      beside.mode, beside.water, beside.notices, rfl⟩

end Sys2Proof.Machine
end

section
namespace Sys2Proof.Machine

/-! ## The CHANNEL write (R2, R3, R16) -/

theorem find?_finRange_eq_some {n : Nat} (p : Fin n → Bool) (m : Fin n) :
    (List.finRange n).find? p = some m ↔ p m = true ∧ ∀ j < m, p j = false := by
  simp only [List.find?_eq_some_iff_getElem, List.getElem_finRange, List.length_finRange, Bool.not_eq_true']
  refine and_congr_right fun _ => ⟨?_, fun h => ⟨m.val, m.isLt, rfl, fun j hj => h _ hj⟩⟩
  rintro ⟨i, hi, rfl, h⟩ j hj
  exact h j.val hj

/-- R3: channel j asks for the kind and zone and is in conflict over them. -/
def AsksFor (s : State) (k : Kind) (z : Nat) (j : ChanId) : Prop :=
  s.channels[j].conflict = true ∧ s.channels[j].cfg.kind = k ∧ s.channels[j].cfg.zone = z

/-- R3: the heir of a claim is the lowest channel that asks for it. -/
theorem heir_eq_some (k : Kind) (z : Nat) (s : State) (m : ChanId) :
    heir k z s = some m ↔ AsksFor s k z m ∧ ∀ j < m, ¬AsksFor s k z j := by
  have asks (j : ChanId) : (s.channels[j].conflict && decide (s.channels[j].cfg.kind = k) &&
      decide (s.channels[j].cfg.zone = z)) = true ↔ AsksFor s k z j := by
    simp [AsksFor, and_assoc]
  simp only [heir, find?_finRange_eq_some, ← Bool.not_eq_true, asks]

theorem claims_iff (k : Kind) : claims k = true ↔ k = .airT ∨ k = .airRh := by simp [claims]

/-- R2: a conflict is another channel that holds the kind and zone without a conflict flag. -/
theorem conflictWith_iff (n : ChanId) (k : Kind) (z : Nat) (s : State) :
    conflictWith n k z s = true ↔ (k = .airT ∨ k = .airRh) ∧ ∃ j : ChanId, j ≠ n ∧
      s.channels[j].conflict = false ∧ s.channels[j].cfg.kind = k ∧ s.channels[j].cfg.zone = z := by
  simp [conflictWith, claims_iff, and_assoc]

/-- R3: the write gives a claim up that the channel held. -/
def GivesUp (old : Channel) (k : Kind) (z : Nat) : Prop :=
  (old.cfg.kind = .airT ∨ old.cfg.kind = .airRh) ∧ old.conflict = false ∧ (old.cfg.kind ≠ k ∨ old.cfg.zone ≠ z)

/-- R3: the heir of a claim given up settles without its flag. -/
theorem releaseClaim_of_heir {old : Channel} {k : Kind} {z : Nat} {s : State} {m : ChanId} (gives : GivesUp old k z)
    (h : heir old.cfg.kind old.cfg.zone s = some m) :
    releaseClaim old k z s = setChannel m (beginSettling { s.channels[m] with conflict := false }) s := by
  obtain ⟨held, free, moved⟩ := gives
  have given : (claims old.cfg.kind && !old.conflict && (old.cfg.kind ≠ k || old.cfg.zone ≠ z)) = true := by
    simpa [claims_iff, held, free] using moved
  rw [releaseClaim, if_pos given, h]

theorem releaseClaim_of_no_heir {old : Channel} {k : Kind} {z : Nat} {s : State}
    (h : ¬(GivesUp old k z ∧ ∃ m, heir old.cfg.kind old.cfg.zone s = some m)) : releaseClaim old k z s = s := by
  unfold releaseClaim
  split
  · rename_i gives
    split
    · rename_i m hm
      exact absurd ⟨by simpa [GivesUp, claims_iff, and_assoc] using gives, m, hm⟩ h
    · rfl
  · rfl

/-- R2, R16: the written channel's record, and the end of a search on it. -/
def retaken (c : ChanId) (k : Kind) (z : Nat) (s : State) : State :=
  let t := abortSearch c s
  setChannel c (retakeChannel t.channels[c] k z (conflictWith c k z t)) t

theorem retaken_same (c : ChanId) (k : Kind) (z : Nat) (s : State) : (retaken c k z s).channels[c] =
    retakeChannel (abortSearch c s).channels[c] k z (conflictWith c k z (abortSearch c s)) := setChannel_same ..

theorem retaken_other {c m : ChanId} (k : Kind) (z : Nat) (s : State) (h : m ≠ c) :
    (retaken c k z s).channels[m] = s.channels[m] :=
  (setChannel_other _ _ h).trans (abortSearch_other s h)

theorem ownWriteChannel_of_change {n kind zone : Byte} {s : State} {c : ChanId} {k : Kind} (hc : c.val = n.toNat)
    (idle : s.store.busy = false) (hk : kindOf kind = some k)
    (change : ¬(s.channels[c].cfg.kind = k ∧ s.channels[c].cfg.zone = min zone.toNat 2 ∧ underSearch s c = false)) :
    ownWriteChannel n kind zone s =
      (releaseClaim s.channels[c] k (min zone.toNat 2) (retaken c k (min zone.toNat 2) s),
       answer (okOrClamped (decide (2 < zone.toNat) || conflictWith c k (min zone.toNat 2) (abortSearch c s)))) := by
  simp only [ownWriteChannel, indexBelow_eq_some c hc, idle, hk]
  rw [if_neg (by simp), if_neg change]
  rfl

theorem ownWriteChannel_of_same {n kind zone : Byte} {s : State} {c : ChanId} {k : Kind} (hc : c.val = n.toNat)
    (idle : s.store.busy = false) (hk : kindOf kind = some k)
    (same : s.channels[c].cfg.kind = k ∧ s.channels[c].cfg.zone = min zone.toNat 2 ∧ underSearch s c = false) :
    ownWriteChannel n kind zone s = (s, answer (okOrClamped (decide (2 < zone.toNat)))) := by
  simp only [ownWriteChannel, indexBelow_eq_some c hc, idle, hk]
  rw [if_neg (by simp), if_pos same]

/-- The channel that gives a claim up does not ask for it after the write, so it is not its own heir. -/
theorem retaken_asksFor {c : ChanId} {k : Kind} {z : Nat} {s : State} (gives : GivesUp s.channels[c] k z) (j : ChanId) :
    AsksFor (retaken c k z s) s.channels[c].cfg.kind s.channels[c].cfg.zone j ↔
      j ≠ c ∧ AsksFor s s.channels[c].cfg.kind s.channels[c].cfg.zone j := by
  obtain ⟨-, -, moved⟩ := gives
  by_cases hj : j = c
  · subst hj
    simp only [AsksFor, retaken_same, retakeChannel]
    simp only [ne_eq, not_true_eq_false, false_and, iff_false]
    rintro ⟨-, hk, hz⟩
    exact moved.elim (fun h => h hk.symm) fun h => h hz.symm
  · simp [AsksFor, retaken_other k z s hj, hj]

theorem retaken_heir {c : ChanId} {k : Kind} {z : Nat} {s : State} (gives : GivesUp s.channels[c] k z) (m : ChanId) :
    heir s.channels[c].cfg.kind s.channels[c].cfg.zone (retaken c k z s) = some m ↔
      m ≠ c ∧ AsksFor s s.channels[c].cfg.kind s.channels[c].cfg.zone m ∧
        ∀ j < m, j ≠ c → ¬AsksFor s s.channels[c].cfg.kind s.channels[c].cfg.zone j := by
  simp only [heir_eq_some, retaken_asksFor gives, not_and, and_assoc]

/-- R3: the heir of the claim that the write of channel c gives up. -/
def IsHeir (s : State) (c : ChanId) (k : Kind) (z : Nat) (m : ChanId) : Prop :=
  GivesUp s.channels[c] k z ∧ AsksFor s s.channels[c].cfg.kind s.channels[c].cfg.zone m ∧
    ∀ j : ChanId, j < m → j ≠ c → ¬AsksFor s s.channels[c].cfg.kind s.channels[c].cfg.zone j

/-- The state a CHANNEL write leaves. -/
def channelWritten (c : ChanId) (k : Kind) (z : Nat) (s : State) : State :=
  releaseClaim s.channels[c] k z (retaken c k z s)

/-- A write reaches its own channel, and the heir of the claim it gives up. -/
theorem channelWritten_cases (c : ChanId) (k : Kind) (z : Nat) (s : State) :
    (∃ m, m ≠ c ∧ IsHeir s c k z m ∧ channelWritten c k z s =
        setChannel m (beginSettling { s.channels[m] with conflict := false }) (retaken c k z s)) ∨
      (∀ m, m ≠ c → ¬IsHeir s c k z m) ∧ channelWritten c k z s = retaken c k z s := by
  by_cases h : GivesUp s.channels[c] k z ∧
      ∃ m, heir s.channels[c].cfg.kind s.channels[c].cfg.zone (retaken c k z s) = some m
  · obtain ⟨gives, m, hm⟩ := h
    obtain ⟨other, asks, lowest⟩ := (retaken_heir gives m).1 hm
    refine .inl ⟨m, other, ⟨gives, asks, lowest⟩, ?_⟩
    rw [channelWritten, releaseClaim_of_heir gives hm, retaken_other k z s other]
  · refine .inr ⟨fun m hm his => h ⟨his.1, m, (retaken_heir his.1 m).2 ⟨hm, his.2⟩⟩, releaseClaim_of_no_heir h⟩

theorem channelWritten_same (c : ChanId) (k : Kind) (z : Nat) (s : State) :
    (channelWritten c k z s).channels[c] = (retaken c k z s).channels[c] := by
  obtain ⟨m, other, -, h⟩ | ⟨-, h⟩ := channelWritten_cases c k z s
  · rw [h, setChannel_other _ _ (Ne.symm other)]
  · rw [h]

theorem channelWritten_heir {c : ChanId} {k : Kind} {z : Nat} {s : State} {m : ChanId} (other : m ≠ c)
    (his : IsHeir s c k z m) :
    (channelWritten c k z s).channels[m] = beginSettling { s.channels[m] with conflict := false } := by
  have hm := (retaken_heir his.1 m).2 ⟨other, his.2⟩
  rw [channelWritten, releaseClaim_of_heir his.1 hm, setChannel_same, retaken_other k z s other]

theorem channelWritten_other {c : ChanId} {k : Kind} {z : Nat} {s : State} {m : ChanId} (other : m ≠ c)
    (not : ¬IsHeir s c k z m) : (channelWritten c k z s).channels[m] = s.channels[m] := by
  obtain ⟨h, -, his, e⟩ | ⟨-, e⟩ := channelWritten_cases c k z s
  · have hm : m ≠ h := fun e => not (e ▸ his)
    rw [e, setChannel_other _ _ hm, retaken_other k z s other]
  · rw [e, retaken_other k z s other]

theorem abortSearch_search (n : ChanId) (s : State) :
    (abortSearch n s).search = if underSearch s n = true then none else s.search := by
  match hs : s.search with
  | none => rw [abortSearch_of_not_under (underSearch_of_none hs n), hs, ite_self]
  | some r =>
    by_cases hn : r.channel = n
    · rw [abortSearch_of_some hs hn, underSearch_of_some hs]; simp [clearSearch, hn]
    · have idle : underSearch s n = false := by simp [underSearch_of_some hs, hn]
      rw [abortSearch_of_not_under idle, idle, hs]; rfl

theorem releaseClaim_eq (old : Channel) (k : Kind) (z : Nat) (s : State) :
    releaseClaim old k z s = { s with channels := (releaseClaim old k z s).channels } := by
  unfold releaseClaim
  (repeat' split) <;> rfl

theorem abortSearch_eq (n : ChanId) (s : State) :
    abortSearch n s = { s with channels := (abortSearch n s).channels, search := (abortSearch n s).search } := by
  unfold abortSearch
  (repeat' split) <;> rfl

/-- A CHANNEL write changes the channels and the search record only. -/
theorem channelWritten_eq (c : ChanId) (k : Kind) (z : Nat) (s : State) : channelWritten c k z s =
    { s with
      channels := (channelWritten c k z s).channels
      search := if underSearch s c = true then none else s.search } := by
  have search : (channelWritten c k z s).search = if underSearch s c = true then none else s.search := by
    rw [← abortSearch_search, channelWritten, releaseClaim_eq]; rfl
  rw [← search, channelWritten, releaseClaim_eq, retaken, setChannel, abortSearch_eq]

/-- An abort puts back the trim code of its own search, and leaves all else of the channel. -/
theorem abortSearch_same (n : ChanId) (s : State) : ∃ trim,
    (abortSearch n s).channels[n] = { s.channels[n] with cfg := { s.channels[n].cfg with trim := trim } } ∧
      (underSearch s n = false → trim = s.channels[n].cfg.trim) ∧
      ∀ r, s.search = some r → r.channel = n → trim = r.trimBefore := by
  by_cases h : ∃ r, s.search = some r ∧ r.channel = n
  · obtain ⟨r, hs, hn⟩ := h
    refine ⟨r.trimBefore, ?_, ?_, ?_⟩
    · rw [abortSearch_of_some hs hn]; exact setChannel_same n _ s
    · rw [underSearch_of_some hs]; simp [hn]
    · intro q hq _; rw [hs] at hq; injection hq with hq; rw [hq]
  · have idle : underSearch s n = false := by
      rw [Bool.eq_false_iff, ne_eq, underSearch_eq_true]; simpa using h
    refine ⟨_, ?_, fun _ => rfl, fun r hs hn => absurd ⟨r, hs, hn⟩ h⟩
    rw [abortSearch_of_not_under idle]

theorem conflictWith_abortSearch (c : ChanId) (k : Kind) (z : Nat) (s : State) :
    conflictWith c k z (abortSearch c s) = conflictWith c k z s := by
  rw [Bool.eq_iff_iff, conflictWith_iff, conflictWith_iff]
  refine and_congr_right fun _ => exists_congr fun j => and_congr_right fun hj => ?_
  rw [abortSearch_other s hj]

/-- Settles O16: the written channel is retaken after the abort of its search, and the heir of its claim settles. -/
theorem channelWriteRestartsTheChannel : Obligations.ChannelWriteRestartsTheChannel := by
  intro p n kind zone s served
  refine ⟨fun hn => exec_writeItemChannel served (by simp [ownWriteChannel, indexBelow_eq_none hn, refuse]),
    fun c hc => ⟨fun busy => exec_writeItemChannel served ?_, fun idle hk => exec_writeItemChannel served ?_,
      fun k idle hk => ⟨fun kindSame zoneSame free => exec_writeItemChannel served ?_, fun change => ?_⟩⟩⟩
  · simp [ownWriteChannel, indexBelow_eq_some c hc, busy, refuse]
  · simp [ownWriteChannel, indexBelow_eq_some c hc, idle, hk, refuse]
  · rw [ownWriteChannel_of_same hc idle hk ⟨kindSame, zoneSame, free⟩, okOrClamped_eq _ (zone.toNat ≤ 2) (by simp)]
  · obtain ⟨trim, aborted, trimKept, trimBack⟩ := abortSearch_same c s
    have same : (channelWritten c k (min zone.toNat 2) s).channels[c] = retakeChannel
        { s.channels[c] with cfg := { s.channels[c].cfg with trim := trim } } k (min zone.toNat 2)
        (conflictWith c k (min zone.toNat 2) s) := by
      rw [channelWritten_same, retaken_same, aborted, conflictWith_abortSearch]
    refine ⟨channelWritten c k (min zone.toNat 2) s, exec_writeItemChannel served ?_, channelWritten_eq .., ?_⟩
    · rw [ownWriteChannel_of_change hc idle hk change, conflictWith_abortSearch, same,
        okOrClamped_eq _ (zone.toNat ≤ 2 ∧ conflictWith c k (min zone.toNat 2) s = false) ?_]
      · rfl
      · simp only [Bool.or_eq_true, decide_eq_true_eq, not_and_or, not_le, Bool.not_eq_false]
    · rw [same]
      exact ⟨conflictWith_iff .., rfl, rfl, rfl, rfl, rfl, rfl, rfl, rfl, rfl, trimKept, trimBack, rfl,
        fun m hm => ⟨channelWritten_heir hm, channelWritten_other hm⟩⟩

end Sys2Proof.Machine
end

section
/-! The watches (section 1.5): comparison, trip and clear, and what a change of an ALERT_PURGE watch does to the
programme (R19 to R23, R114, R115). -/

namespace Sys2Proof.Machine

/-! ## The comparison -/

theorem compareWatch_above_clear {w : Watch} (d : w.cfg.direction = .above) (t : w.tripped = false) (v : Int) :
    compareWatch w v = true ↔ w.cfg.threshold < v := by simp [compareWatch, d, t]

theorem compareWatch_above_tripped {w : Watch} (d : w.cfg.direction = .above) (t : w.tripped = true) (v : Int) :
    compareWatch w v = false ↔ v < w.cfg.threshold - w.cfg.hysteresis := by
  simp [compareWatch, d, t]; omega

theorem compareWatch_below_clear {w : Watch} (d : w.cfg.direction = .below) (t : w.tripped = false) (v : Int) :
    compareWatch w v = true ↔ v < w.cfg.threshold := by simp [compareWatch, d, t]

theorem compareWatch_below_tripped {w : Watch} (d : w.cfg.direction = .below) (t : w.tripped = true) (v : Int) :
    compareWatch w v = false ↔ w.cfg.threshold + w.cfg.hysteresis < v := by simp [compareWatch, d, t]

/-! ## A watch is reached -/

theorem evalWatch_lost (i : Fin 8) (s : State) :
    evalWatch i none s = setWatch i { s.watches[i] with lost := true } s := rfl

theorem evalWatch_same {i : Fin 8} {v : Int} {s : State} (h : compareWatch s.watches[i] v = s.watches[i].tripped) :
    evalWatch i (some v) s = setWatch i { s.watches[i] with lost := false } s := by
  simp only [evalWatch, h, if_true]

theorem evalWatch_trip {i : Fin 8} {v : Int} {s : State} (h : compareWatch s.watches[i] v = true)
    (t : s.watches[i].tripped = false) : evalWatch i (some v) s = watchAction s.watches[i].cfg.action true
      (post .watchTrip i v (setWatch i { s.watches[i] with tripped := true, latch := true, lost := false } s)) := by
  simp only [evalWatch, h, t]; rfl

theorem evalWatch_clear {i : Fin 8} {v : Int} {s : State} (h : compareWatch s.watches[i] v = false)
    (t : s.watches[i].tripped = true) : evalWatch i (some v) s = watchAction s.watches[i].cfg.action false
      (post .watchClear i v (setWatch i { s.watches[i] with tripped := false, lost := false } s)) := by
  simp only [evalWatch, h, t]; rfl

/-! ## The programme (R114, R115) -/

theorem watchAction_of_ne {a : WatchAction} (h : a ≠ .alertPurge) (b : Bool) (s : State) : watchAction a b s = s := by
  cases a <;> simp_all [watchAction]

theorem alertTripped_iff (s : State) :
    alertTripped s = true ↔ ∃ i : Fin 8, s.watches[i].cfg.action = .alertPurge ∧ s.watches[i].tripped = true := by
  simp only [alertTripped, List.any_eq_true, Bool.and_eq_true, decide_eq_true_eq, Vector.mem_toList_iff,
    Vector.mem_iff_getElem]
  constructor
  · rintro ⟨w, ⟨i, hi, rfl⟩, tripped, action⟩
    exact ⟨⟨i, hi⟩, action, tripped⟩
  · rintro ⟨i, action, tripped⟩
    exact ⟨_, ⟨i, i.isLt, rfl⟩, tripped, action⟩

theorem alertTrip_of_night {s : State} (h : s.cover.prog = .settle ∨ s.cover.prog = .purge ∨ s.cover.prog = .rest) :
    alertTrip s = { s with cover := cleared .alert s.cover } := by
  rcases h with h | h | h <;> simp only [alertTrip, h] <;> rfl

theorem alertTrip_of_alert {s : State} (h : s.cover.prog = .alert) :
    alertTrip s = { s with cover := { s.cover with hold := none } } := by
  have stopped : alertTrip s = modCover (fun c => { c with hold := none }) s := by simp only [alertTrip, h]
  exact stopped

theorem alertTrip_of_released {s : State} (h : s.cover.prog = .released) : alertTrip s =
    { post .coverReleaseLapsed 1 ((s.cover.cfg.permissionHold - s.cover.elapsed : Nat) : Int) s with
      cover := cleared .alert s.cover } := by
  simp only [alertTrip, h]; rfl

theorem alertTrip_of_other {s : State} (h : s.cover.prog = .preopen ∨ s.cover.prog = .idle ∨ s.cover.prog = .disagree) :
    alertTrip s = s := by
  rcases h with h | h | h <;> simp only [alertTrip, h]

theorem alertClear_of_quiet {s : State} (h : s.cover.prog = .alert) (q : alertTripped s = false) :
    alertClear s = { s with cover := { s.cover with hold := some 0 } } := if_pos ⟨h, q⟩

theorem alertClear_of_other {s : State} (h : ¬(s.cover.prog = .alert ∧ alertTripped s = false)) : alertClear s = s :=
  if_neg h

/-- Settles O38: the cases of a reach, of the comparison and of the programme, each by its own lemma. -/
theorem watchComparesWithHysteresis : Obligations.WatchComparesWithHysteresis := by
  refine ⟨fun i v s => ⟨evalWatch_same, evalWatch_trip, evalWatch_clear, evalWatch_lost i s⟩,
    fun w v => ⟨fun d t => compareWatch_above_clear d t v, fun d t => compareWatch_above_tripped d t v,
      fun d t => compareWatch_below_clear d t v, fun d t => compareWatch_below_tripped d t v⟩,
    fun s => ⟨fun a b h => watchAction_of_ne h b s, alertTrip_of_night, alertTrip_of_alert, alertTrip_of_released,
      alertTrip_of_other, fun alert quiet => alertClear_of_quiet alert ?_, fun other => alertClear_of_other ?_⟩⟩
  · rw [Bool.eq_false_iff, ne_eq, alertTripped_iff]
    rintro ⟨i, action, tripped⟩
    exact Bool.noConfusion ((quiet i action).symm.trans tripped)
  · rintro ⟨alert, quiet⟩
    rcases other with h | h
    · exact h alert
    · rw [← alertTripped_iff, quiet] at h
      exact Bool.noConfusion h

/-! ## Writes of a watch (R19, R23) -/

theorem exec_writeItemWatch {p : PortId} {n src dir : Byte} {th hy : Half} {act : Byte} {s t : State} {r : Result}
    (h : Served s p (.writeItemWatch p n src dir th hy act))
    (own : ownWriteWatch n src dir th hy act s = (t, answer r)) :
    exec (.writeItemWatch p n src dir th hy act) s = .next (reply p 3 r t) :=
  congrArg _ (requestStep_of_answer h own)

theorem exec_clearWatch {p : PortId} {n : Byte} {s t : State} {r : Result} (h : Served s p (.clearWatch p n))
    (own : ownClearWatch n s = (t, answer r)) : exec (.clearWatch p n) s = .next (reply p 0x42 r t) :=
  congrArg _ (requestStep_of_answer h own)

theorem writeWatch_of_same {i : Fin 8} {cfg : WatchCfg} {s : State}
    (h : s.watches[i].cfg.source = cfg.source ∧ s.watches[i].cfg.direction = cfg.direction ∧
      s.watches[i].cfg.action = cfg.action) : writeWatch i cfg s = setWatch i { s.watches[i] with cfg := cfg } s :=
  if_pos h

/-- R19: a write that changes source, direction or action clears the watch, as a clear that is posted where it was
TRIPPED. -/
theorem writeWatch_of_change {i : Fin 8} {cfg : WatchCfg} {s : State}
    (h : ¬(s.watches[i].cfg.source = cfg.source ∧ s.watches[i].cfg.direction = cfg.direction ∧
      s.watches[i].cfg.action = cfg.action)) :
    writeWatch i cfg s =
      let fresh := setWatch i { cfg := cfg, tripped := false, latch := false, lost := false } s
      if s.watches[i].tripped then watchAction s.watches[i].cfg.action false (post .watchClear i 0 fresh) else fresh :=
  if_neg h

theorem ownWriteWatch_of_codes {n src dir : Byte} {th hy : Half} {act : Byte} {s : State} {i : Fin 8}
    (hi : i.val = n.toNat) (idle : s.store.busy = false) {so : WatchSource} {di : Direction} {ac : WatchAction}
    (hs : sourceOf src = some so) (hd : directionOf dir = some di) (ha : actionOf act = some ac) :
    ownWriteWatch n src dir th hy act s =
      (writeWatch i ⟨so, di, max (-1000) (min th.toInt 1000), min hy.toNat 200, ac⟩ s,
       answer (if -1000 ≤ th.toInt ∧ th.toInt ≤ 1000 ∧ hy.toNat ≤ 200 then .ok else .clamped)) := by
  simp only [ownWriteWatch, indexBelow_eq_some i hi, idle, hs, hd, ha, clampInt_eq (show (-1000 : Int) ≤ 1000 by omega)]
  rw [if_neg (by simp), okOrClamped_eq _ (-1000 ≤ th.toInt ∧ th.toInt ≤ 1000 ∧ hy.toNat ≤ 200) (by simp; omega)]

theorem ownWriteWatch_of_bad_code {n src dir : Byte} {th hy : Half} {act : Byte} {s : State} {i : Fin 8}
    (hi : i.val = n.toNat) (idle : s.store.busy = false)
    (bad : sourceOf src = none ∨ directionOf dir = none ∨ actionOf act = none) :
    ownWriteWatch n src dir th hy act s = refuse .badValue s := by
  simp only [ownWriteWatch, indexBelow_eq_some i hi, idle]
  rw [if_neg (by simp)]
  split
  · simp_all
  · rfl

/-- Settles O17: a write keeps the state of a watch or clears it, after the tests of log 8. -/
theorem watchWriteAndClearWatch : Obligations.WatchWriteAndClearWatch := by
  refine ⟨fun p n src dir th hy act s served => ⟨fun hn => exec_writeItemWatch served ?_,
    fun i hi => ⟨fun busy => exec_writeItemWatch served ?_,
      fun idle bad => exec_writeItemWatch served (ownWriteWatch_of_bad_code hi idle bad),
      fun so di ac idle hs hd ha => ?_⟩⟩, fun p n s served => ⟨fun hn => exec_clearWatch served ?_,
    fun i hi => exec_clearWatch served ?_⟩⟩
  · simp [ownWriteWatch, indexBelow_eq_none hn, refuse]
  · simp [ownWriteWatch, indexBelow_eq_some i hi, busy, refuse]
  · have own := ownWriteWatch_of_codes (th := th) (hy := hy) hi idle hs hd ha
    refine ⟨fun same => exec_writeItemWatch served ?_, fun change clear => exec_writeItemWatch served ?_,
      fun change tripped other => exec_writeItemWatch served ?_,
      fun change tripped alert => exec_writeItemWatch served ?_⟩
    · rw [own, writeWatch_of_same same]
    · rw [own, writeWatch_of_change change, clear]; rfl
    · rw [own, writeWatch_of_change change, tripped]
      exact congrArg (·, _) (watchAction_of_ne other ..)
    · rw [own, writeWatch_of_change change, tripped, alert]; rfl
  · simp [ownClearWatch, indexBelow_eq_none hn, refuse]
  · simp only [ownClearWatch, indexBelow_eq_some i hi]

end Sys2Proof.Machine
end

section
/-! Watches reached one after the other: what they become, what they file, and what the programme makes of their changes
(R20 to R22, R114, R115). -/

namespace Sys2Proof.Machine

/-! ## A reached watch

A reach is `none` where the watch is not reached, `some none` where its source is lost, and `some (some v)` where it is
compared with `v`. -/

/-- The watch after a reach. -/
def reachedWatch (r : Option (Option Int)) (w : Watch) : Watch :=
  match r with
  | none => w
  | some v => watchAfter w v

/-- The notice of a reach, and whether it is the trip of an ALERT_PURGE watch. -/
def reachNotice (r : Option (Option Int)) (i : Fin 8) (w : Watch) : List (Bool × Code × Nat × Int) :=
  match r with
  | some (some v) =>
    if w.tripped = compareWatch w v then []
    else if compareWatch w v then [(decide (w.cfg.action = .alertPurge), .watchTrip, i, v)]
    else [(false, .watchClear, i, v)]
  | _ => []

theorem reachNotice_lost (i : Fin 8) (w : Watch) : reachNotice (some none) i w = [] := rfl

theorem reachNotice_value (v : Int) (i : Fin 8) (w : Watch) : reachNotice (some (some v)) i w =
    if w.tripped = compareWatch w v then []
    else if compareWatch w v then [(decide (w.cfg.action = .alertPurge), Code.watchTrip, i.val, v)]
    else [(false, Code.watchClear, i.val, v)] := rfl

@[simp] theorem watchAfter_cfg (w : Watch) (v : Option Int) : (watchAfter w v).cfg = w.cfg := by cases v <;> rfl

@[simp] theorem reachedWatch_cfg (r : Option (Option Int)) (w : Watch) : (reachedWatch r w).cfg = w.cfg := by
  cases r <;> simp [reachedWatch]

theorem watchNotice_eq_reachNotice {r : Option (Option Int)} {i : Fin 8} {s t : State} {x : Int}
    (reached : t.watches[i] = reachedWatch r s.watches[i]) (value : ∀ v, r = some (some v) → v = x) :
    watchNotice i x s t = reachNotice r i s.watches[i] := by
  match r with
  | none => simp [watchNotice, reached, reachedWatch, reachNotice]
  | some none => simp [watchNotice, reached, reachedWatch, reachNotice, watchAfter]
  | some (some v) => rw [← value v rfl]; simp [watchNotice, reached, reachedWatch, reachNotice, watchAfter]

theorem setWatch_same (i : Fin 8) (w : Watch) (s : State) : (setWatch i w s).watches[i] = w := by simp

theorem setWatch_other {i j : Fin 8} (w : Watch) (s : State) (h : j ≠ i) :
    (setWatch i w s).watches[j] = s.watches[j] := by
  have hv : i.val ≠ j.val := fun e => h (Fin.ext e.symm)
  simp [hv]

/-- R21: reaching a watch replaces it alone. -/
theorem evalWatch_watches (i : Fin 8) (v : Option Int) (s : State) :
    (evalWatch i v s).watches = s.watches.set i (watchAfter s.watches[i] v) := by
  match v with
  | none => simp [evalWatch_lost, watchAfter]
  | some v =>
    match t : s.watches[i].tripped, c : compareWatch s.watches[i] v with
    | true, true => rw [evalWatch_same (c.trans t.symm), watchAfter, c]; simp_all
    | true, false => rw [evalWatch_clear c t, watchAfter, c]; simp_all
    | false, true => rw [evalWatch_trip c t, watchAfter, c]; simp_all
    | false, false => rw [evalWatch_same (c.trans t.symm), watchAfter, c]; simp_all

theorem evalWatch_same_watch (i : Fin 8) (v : Option Int) (s : State) :
    (evalWatch i v s).watches[i] = watchAfter s.watches[i] v := by simp [evalWatch_watches]

theorem evalWatch_other_watch {i j : Fin 8} (v : Option Int) (s : State) (h : j ≠ i) :
    (evalWatch i v s).watches[j] = s.watches[j] := by
  have hv : i.val ≠ j.val := fun e => h (Fin.ext e.symm)
  simp [evalWatch_watches, hv]

/-- One watch of a pass over the watches. -/
def reachOne (reach : WatchSource → Option (Option Int)) (s : State) (i : Fin 8) : State :=
  match reach s.watches[i].cfg.source with
  | none => s
  | some v => evalWatch i v s

theorem reachWatches_eq_foldl (reach : WatchSource → Option (Option Int)) (s : State) :
    reachWatches reach s = (List.finRange 8).foldl (reachOne reach) s := rfl

theorem reachOne_same_watch (reach : WatchSource → Option (Option Int)) (i : Fin 8) (s : State) :
    (reachOne reach s i).watches[i] = reachedWatch (reach s.watches[i].cfg.source) s.watches[i] := by
  match h : reach s.watches[i].cfg.source with
  | none => simp only [reachOne, reachedWatch, h]
  | some v => simpa only [reachOne, reachedWatch, h] using evalWatch_same_watch i v s

theorem reachOne_other_watch (reach : WatchSource → Option (Option Int)) {i j : Fin 8} (s : State) (h : j ≠ i) :
    (reachOne reach s i).watches[j] = s.watches[j] := by
  unfold reachOne
  split
  · rfl
  · exact evalWatch_other_watch _ _ h

theorem foldl_reachOne_watch (reach : WatchSource → Option (Option Int)) {l : List (Fin 8)} (nodup : l.Nodup)
    (s : State) (i : Fin 8) : (l.foldl (reachOne reach) s).watches[i] =
      if i ∈ l then reachedWatch (reach s.watches[i].cfg.source) s.watches[i] else s.watches[i] := by
  induction l generalizing s with
  | nil => rfl
  | cons j l ih =>
    obtain ⟨fresh, nodup⟩ := List.nodup_cons.1 nodup
    rw [List.foldl_cons, ih nodup]
    by_cases h : i = j
    · subst h
      rw [if_neg fresh, if_pos (List.mem_cons_self ..), reachOne_same_watch]
    · rw [reachOne_other_watch _ _ h]
      simp [h]

/-- R20: every watch is reached once, with what its source gives. -/
theorem reachWatches_watch (reach : WatchSource → Option (Option Int)) (s : State) (i : Fin 8) :
    (reachWatches reach s).watches[i] = reachedWatch (reach s.watches[i].cfg.source) s.watches[i] := by
  rw [reachWatches_eq_foldl, foldl_reachOne_watch _ (List.nodup_finRange 8), if_pos (List.mem_finRange i)]

/-! ## The programme over several watches (R114, R115) -/

/-- R114: an ALERT_PURGE watch has tripped between `s` and `t`. -/
def AlertTrips (s t : State) : Prop :=
  ∃ i : Fin 8, s.watches[i].cfg.action = .alertPurge ∧ s.watches[i].tripped = false ∧ t.watches[i].tripped = true

/-- R115: an ALERT_PURGE watch has cleared between `s` and `t`. -/
def AlertClears (s t : State) : Prop :=
  ∃ i : Fin 8, s.watches[i].cfg.action = .alertPurge ∧ s.watches[i].tripped = true ∧ t.watches[i].tripped = false

/-- R114: the cover record after a trip of an ALERT_PURGE watch. -/
def coverTripped (c : Cover) : Cover :=
  match c.prog with
  | .settle | .purge | .rest | .released => cleared .alert c
  | .alert => { c with hold := none }
  | .preopen | .idle | .disagree => c

theorem coverWatched_of_trips {s t : State} (h : AlertTrips s t) : coverWatched s t = coverTripped s.cover := if_pos h

theorem coverWatched_of_clears {s t : State} (h : ¬AlertTrips s t)
    (k : s.cover.prog = .alert ∧ alertTripped t = false ∧ AlertClears s t) :
    coverWatched s t = { s.cover with hold := some 0 } := (if_neg h).trans (if_pos k)

theorem coverWatched_of_quiet {s t : State} (h : ¬AlertTrips s t)
    (k : ¬(s.cover.prog = .alert ∧ alertTripped t = false ∧ AlertClears s t)) : coverWatched s t = s.cover :=
  (if_neg h).trans (if_neg k)

/-- A further trip finds the programme where the first one brought it. -/
theorem coverTripped_idem (c : Cover) : coverTripped (coverTripped c) = coverTripped c := by
  obtain ⟨_, _, _, _, _, _, prog⟩ := c
  cases prog <;> rfl

theorem coverTripped_not_released (c : Cover) : (coverTripped c).prog ≠ .released := by
  obtain ⟨_, _, _, _, _, _, prog⟩ := c
  cases prog <;> exact Prog.noConfusion

theorem coverTripped_of_hold {c : Cover} (h : c.prog = .alert) (n : Option Nat) :
    coverTripped { c with hold := n } = coverTripped c := by
  simp [coverTripped, h]

/-- Before the first trip the record stands as it stood, but for an alert hold that has started. -/
theorem coverWatched_before_trip {s t : State} (h : ¬AlertTrips s t) :
    coverWatched s t = s.cover ∨ s.cover.prog = .alert ∧ coverWatched s t = { s.cover with hold := some 0 } := by
  by_cases k : s.cover.prog = .alert ∧ alertTripped t = false ∧ AlertClears s t
  · exact .inr ⟨k.1, coverWatched_of_clears h k⟩
  · exact .inl (coverWatched_of_quiet h k)

/-- The trip of an ALERT_PURGE watch brings the record that R114 gives for the whole of the changes. -/
theorem coverTripped_coverWatched (s t : State) : coverTripped (coverWatched s t) = coverTripped s.cover := by
  by_cases h : AlertTrips s t
  · rw [coverWatched_of_trips h, coverTripped_idem]
  · obtain e | ⟨alert, e⟩ := coverWatched_before_trip h
    · rw [e]
    · rw [e, coverTripped_of_hold alert]

theorem alertTrip_cover (s : State) : (alertTrip s).cover = coverTripped s.cover := by
  cases h : s.cover.prog <;> simp only [alertTrip, coverTripped, h, modCover_cover, post_frame]
  all_goals rfl

/-- R114: a trip posts the lapse of the permission from RELEASED, and nothing from another state. -/
theorem alertTrip_ports (s : State) : (alertTrip s).ports =
    if s.cover.prog = .released then
      (post .coverReleaseLapsed 1 ((s.cover.cfg.permissionHold - s.cover.elapsed : Nat) : Int) s).ports
    else s.ports := by
  unfold alertTrip
  split <;> rename_i h <;> simp only [h] <;> rfl

/-- The ALERT_PURGE watches of `t` stand in `t'` as they stood, and every watch keeps its settings. -/
def SameAlerts (t t' : State) : Prop :=
  ∀ i : Fin 8, t'.watches[i].cfg = t.watches[i].cfg ∧
    (t.watches[i].cfg.action = .alertPurge → t'.watches[i].tripped = t.watches[i].tripped)

theorem SameAlerts.setWatch {i : Fin 8} {w : Watch} {t : State} (cfg : w.cfg = t.watches[i].cfg)
    (h : t.watches[i].cfg.action = .alertPurge → w.tripped = t.watches[i].tripped) :
    SameAlerts t (setWatch i w t) := by
  intro j
  by_cases hj : j = i
  · subst hj; rw [setWatch_same]; exact ⟨cfg, h⟩
  · rw [setWatch_other w t hj]; exact ⟨rfl, fun _ => rfl⟩

section
variable {s t t' : State} (cfg : ∀ i : Fin 8, t.watches[i].cfg = s.watches[i].cfg) (same : SameAlerts t t')
include cfg same

theorem SameAlerts.trips : AlertTrips s t' ↔ AlertTrips s t :=
  exists_congr fun i => and_congr_right fun action => by rw [(same i).2 (by rw [cfg, action])]

theorem SameAlerts.clears : AlertClears s t' ↔ AlertClears s t :=
  exists_congr fun i => and_congr_right fun action => by rw [(same i).2 (by rw [cfg, action])]

omit cfg in
theorem SameAlerts.tripped : alertTripped t' = alertTripped t := by
  rw [Bool.eq_iff_iff, alertTripped_iff, alertTripped_iff]
  refine exists_congr fun i => ?_
  obtain ⟨hc, ht⟩ := same i
  rw [hc]
  exact and_congr_right fun action => by rw [ht action]

theorem SameAlerts.coverWatched : coverWatched s t' = coverWatched s t := by
  by_cases h : AlertTrips s t
  · rw [coverWatched_of_trips h, coverWatched_of_trips ((same.trips cfg).2 h)]
  · have h' := mt (same.trips cfg).1 h
    by_cases k : s.cover.prog = .alert ∧ alertTripped t = false ∧ AlertClears s t
    · rw [coverWatched_of_clears h k, coverWatched_of_clears h' (by rw [same.tripped, same.clears cfg]; exact k)]
    · rw [coverWatched_of_quiet h k, coverWatched_of_quiet h' (by rw [same.tripped, same.clears cfg]; exact k)]

end

end Sys2Proof.Machine
end

section
namespace Sys2Proof.Machine

/-! ## Notices in their order (log 7, log 26) -/

@[simp] theorem postAll_pt (ns : List (Code × Nat × Int)) (s : State) : (postAll ns s).pt = s.pt := by
  induction ns generalizing s with
  | nil => rfl
  | cons n ns ih => exact (ih _).trans (by simp)

@[simp] theorem postAll_tick (ns : List (Code × Nat × Int)) (s : State) : (postAll ns s).tick = s.tick := by
  induction ns generalizing s with
  | nil => rfl
  | cons n ns ih => exact (ih _).trans (by simp)

theorem postAll_append (ns ms : List (Code × Nat × Int)) (s : State) :
    postAll (ns ++ ms) s = postAll ms (postAll ns s) := List.foldl_append

/-- What posting does at the ports depends on part time and the ports alone. -/
theorem post_ports_congr {s t : State} (pt : t.pt = s.pt) (tick : t.tick = s.tick) (ports : t.ports = s.ports)
    (c : Code) (n : Nat) (v : Int) : (post c n v t).ports = (post c n v s).ports := by
  simp only [post, pt, tick, ports]

theorem postAll_ports_congr {s t : State} (pt : t.pt = s.pt) (tick : t.tick = s.tick) (ports : t.ports = s.ports)
    (ns : List (Code × Nat × Int)) : (postAll ns t).ports = (postAll ns s).ports := by
  induction ns generalizing s t with
  | nil => exact ports
  | cons n ns ih => exact ih pt tick (post_ports_congr pt tick ports ..)

/-- The lapse follows the first trip of an ALERT_PURGE watch. -/
theorem withLapse_append (rest : Nat) (ns : List (Bool × Code × Nat × Int)) (n : Bool × Code × Nat × Int) :
    withLapse rest (ns ++ [n]) = withLapse rest ns ++
      n.2 :: if n.1 = true ∧ ns.any Prod.fst = false then [(.coverReleaseLapsed, 1, (rest : Int))] else [] := by
  induction ns with
  | nil => cases h : n.1 <;> simp [withLapse, h]
  | cons m ns ih =>
    cases h : m.1
    · rw [List.any_cons, h, Bool.false_or, List.cons_append, withLapse, withLapse, ih, h]; rfl
    · rw [List.any_cons, h, Bool.true_or, List.cons_append, withLapse, withLapse, h]; simp

theorem watchesFiled_append_first {c : Cover} {ns : List (Bool × Code × Nat × Int)} {n : Bool × Code × Nat × Int}
    (released : c.prog = .released) (trip : n.1 = true) (first : ns.any Prod.fst = false) :
    watchesFiled c (ns ++ [n]) =
      watchesFiled c ns ++ [n.2, (.coverReleaseLapsed, 1, ((c.cfg.permissionHold - c.elapsed : Nat) : Int))] := by
  rw [watchesFiled, watchesFiled, if_pos released, if_pos released, withLapse_append, if_pos ⟨trip, first⟩]

theorem watchesFiled_append_other {c : Cover} {ns : List (Bool × Code × Nat × Int)} {n : Bool × Code × Nat × Int}
    (h : ¬(c.prog = .released ∧ n.1 = true ∧ ns.any Prod.fst = false)) :
    watchesFiled c (ns ++ [n]) = watchesFiled c ns ++ [n.2] := by
  unfold watchesFiled
  split
  · rename_i released; rw [withLapse_append, if_neg fun k => h ⟨released, k⟩]
  · exact List.map_append

/-! ## A pass over watches -/

/-- From `s`, the notices `ns` have been filed and watches reached, and the programme and the ports of `t` stand where
these bring them; the notices are posted from `u`, and `n.1` marks the trip of an ALERT_PURGE watch. -/
structure Filed (s u t : State) (ns : List (Bool × Code × Nat × Int)) : Prop where
  pt : t.pt = u.pt
  tick : t.tick = u.tick
  cfg : ∀ i : Fin 8, t.watches[i].cfg = s.watches[i].cfg
  trips : AlertTrips s t ↔ ns.any Prod.fst = true
  cover : t.cover = coverWatched s t
  ports : t.ports = (postAll (watchesFiled s.cover ns) u).ports

theorem filed_start {s u : State} (watches : u.watches = s.watches) (cover : u.cover = s.cover) : Filed s u u [] := by
  have quiet : ¬AlertTrips s u := by
    rintro ⟨i, -, clear, tripped⟩
    rw [watches, clear] at tripped
    exact Bool.noConfusion tripped
  have still : ¬AlertClears s u := by
    rintro ⟨i, -, tripped, clear⟩
    rw [watches, tripped] at clear
    exact Bool.noConfusion clear
  refine ⟨rfl, rfl, fun i => by rw [watches], by simp [quiet], ?_, ?_⟩
  · rw [cover, coverWatched_of_quiet quiet fun k => still k.2.2]
  · unfold watchesFiled; split <;> rfl

section
variable {s u t : State} {ns : List (Bool × Code × Nat × Int)}

/-- A step that files nothing and moves no ALERT_PURGE watch. -/
theorem filed_quiet (h : Filed s u t ns) {t' : State} (pt : t'.pt = t.pt) (tick : t'.tick = t.tick)
    (same : SameAlerts t t') (cover : t'.cover = t.cover) (ports : t'.ports = t.ports) : Filed s u t' ns where
  pt := pt.trans h.pt
  tick := tick.trans h.tick
  cfg i := (same i).1.trans (h.cfg i)
  trips := (same.trips h.cfg).trans h.trips
  cover := by rw [cover, h.cover, same.coverWatched h.cfg]
  ports := ports.trans h.ports

theorem filed_posted (h : Filed s u t ns) (c : Code) (n : Nat) (v : Int) :
    (post c n v t).ports = (postAll (watchesFiled s.cover ns ++ [(c, n, v)]) u).ports := by
  rw [postAll_append]
  exact post_ports_congr (by simp [h.pt]) (by simp [h.tick]) h.ports c n v

/-- A notice that is no trip of an ALERT_PURGE watch. -/
theorem filed_post (h : Filed s u t ns) (c : Code) (n : Nat) (v : Int) :
    Filed s u (post c n v t) (ns ++ [(false, c, n, v)]) where
  pt := h.pt
  tick := h.tick
  cfg := h.cfg
  trips := by
    rw [List.any_append, List.any_cons, List.any_nil, Bool.false_or, Bool.or_false]
    exact h.trips
  cover := h.cover
  ports := by
    rw [watchesFiled_append_other fun k => Bool.noConfusion k.2.1]
    exact filed_posted h c n v

/-- R114: the permission is outstanding up to the first trip of an ALERT_PURGE watch. -/
theorem filed_released (h : Filed s u t ns) :
    t.cover.prog = .released ↔ s.cover.prog = .released ∧ ns.any Prod.fst = false := by
  rw [h.cover, ← Bool.not_eq_true, ← h.trips]
  by_cases k : AlertTrips s t
  · simp [coverWatched_of_trips k, coverTripped_not_released, k]
  · obtain e | ⟨alert, e⟩ := coverWatched_before_trip k
    · simp [e, k]
    · simp [e, alert]

theorem filed_cover_of_released (h : Filed s u t ns) (released : t.cover.prog = .released) : t.cover = s.cover := by
  have k : ¬AlertTrips s t := by
    rw [h.trips, ((filed_released h).1 released).2]
    exact Bool.noConfusion
  rw [h.cover]
  obtain e | ⟨alert, -⟩ := coverWatched_before_trip k
  · exact e
  · rw [((filed_released h).1 released).1] at alert
    exact Prog.noConfusion alert

theorem setWatch_cfg {i : Fin 8} {w : Watch} (cfg : w.cfg = t.watches[i].cfg) (j : Fin 8) :
    (setWatch i w t).watches[j].cfg = t.watches[j].cfg := by
  by_cases hj : j = i
  · subst hj; rw [setWatch_same, cfg]
  · rw [setWatch_other w t hj]

/-- R114: the trip of an ALERT_PURGE watch. -/
theorem filed_trip (h : Filed s u t ns) {i : Fin 8} {w : Watch} (v : Int)
    (action : s.watches[i].cfg.action = .alertPurge)
    (clear : s.watches[i].tripped = false) (cfg : w.cfg = t.watches[i].cfg) (tripped : w.tripped = true) :
    Filed s u (alertTrip (post .watchTrip i v (setWatch i w t))) (ns ++ [(true, .watchTrip, i.val, v)]) := by
  have watches : (alertTrip (post .watchTrip i v (setWatch i w t))).watches = (setWatch i w t).watches := by simp
  have trips : AlertTrips s (alertTrip (post .watchTrip i v (setWatch i w t))) :=
    ⟨i, action, clear, by rw [watches, setWatch_same]; exact tripped⟩
  have posted := filed_posted h .watchTrip i v
  refine ⟨by simp [h.pt], by simp [h.tick], fun j => by rw [watches, setWatch_cfg cfg, h.cfg], by simp [trips], ?_, ?_⟩
  · rw [coverWatched_of_trips trips, alertTrip_cover]
    show coverTripped t.cover = _
    rw [h.cover, coverTripped_coverWatched]
  · rw [alertTrip_ports]
    show (if t.cover.prog = .released then _ else _) = _
    by_cases released : t.cover.prog = .released
    · obtain ⟨was, first⟩ := (filed_released h).1 released
      have value : (post .watchTrip i v (setWatch i w t)).cover = s.cover :=
        show t.cover = s.cover from filed_cover_of_released h released
      rw [if_pos released, value, watchesFiled_append_first was rfl first, List.append_cons, postAll_append]
      exact post_ports_congr (by simp [h.pt]) (by simp [h.tick]) posted ..
    · rw [if_neg released, watchesFiled_append_other fun k => released ((filed_released h).2 ⟨k.1, k.2.2⟩)]
      exact posted

/-- A watch that clears is no trip: the trips of a pass are those before it. -/
theorem alertTrips_setWatch_clear {i : Fin 8} {w : Watch} (tripped : s.watches[i].tripped = true) :
    AlertTrips s (setWatch i w t) ↔ AlertTrips s t := by
  refine exists_congr fun j => and_congr_right fun _ => and_congr_right fun hj => ?_
  have other : j ≠ i := by rintro rfl; exact Bool.noConfusion (hj.symm.trans tripped)
  rw [setWatch_other w t other]

/-- R115: the record after the clear of an ALERT_PURGE watch is that of the whole of the changes. -/
theorem alertClear_cover (h : Filed s u t ns) {i : Fin 8} {w : Watch} (c : Code) (n : Nat) (v : Int)
    (action : s.watches[i].cfg.action = .alertPurge) (tripped : s.watches[i].tripped = true)
    (still : t.watches[i].tripped = true) (cfg : w.cfg = t.watches[i].cfg) (clear : w.tripped = false) :
    (alertClear (post c n v (setWatch i w t))).cover = coverWatched s (setWatch i w t) := by
  have trips := alertTrips_setWatch_clear (s := s) (t := t) (w := w) tripped
  by_cases k : AlertTrips s t
  · -- a watch that tripped in this pass is still TRIPPED, so no hold starts
    obtain ⟨j, alert, hj, up⟩ := id k
    have other : j ≠ i := by rintro rfl; exact Bool.noConfusion (hj.symm.trans tripped)
    have left : alertTripped (setWatch i w t) = true := by
      rw [alertTripped_iff]
      exact ⟨j, by rw [setWatch_cfg cfg, h.cfg, alert], by rw [setWatch_other w t other, up]⟩
    have none : alertClear (post c n v (setWatch i w t)) = post c n v (setWatch i w t) :=
      alertClear_of_other fun q => Bool.noConfusion (q.2.symm.trans left)
    rw [none, coverWatched_of_trips (trips.2 k), ← coverWatched_of_trips k, ← h.cover]
    rfl
  · -- before this clear, watch i itself is TRIPPED, so no hold has started
    have up : alertTripped t = true := by rw [alertTripped_iff]; exact ⟨i, by rw [h.cfg, action], still⟩
    have before : t.cover = s.cover := by
      rw [h.cover, coverWatched_of_quiet k fun q => Bool.noConfusion (q.2.1.symm.trans up)]
    have clears : AlertClears s (setWatch i w t) := ⟨i, action, tripped, by rw [setWatch_same]; exact clear⟩
    by_cases q : s.cover.prog = .alert ∧ alertTripped (setWatch i w t) = false
    · have starts : alertClear (post c n v (setWatch i w t)) = _ := alertClear_of_quiet (before ▸ q.1) q.2
      rw [starts, coverWatched_of_clears (mt trips.1 k) ⟨q.1, q.2, clears⟩, ← before]
      rfl
    · have none : alertClear (post c n v (setWatch i w t)) = post c n v (setWatch i w t) :=
        alertClear_of_other (by rw [← before] at q; exact q)
      rw [none, coverWatched_of_quiet (mt trips.1 k) fun r => q ⟨r.1, r.2.1⟩, ← before]
      rfl

/-- R115: the clear of an ALERT_PURGE watch. -/
theorem filed_clear (h : Filed s u t ns) {i : Fin 8} {w : Watch} (v : Int)
    (action : s.watches[i].cfg.action = .alertPurge)
    (tripped : s.watches[i].tripped = true) (still : t.watches[i].tripped = true) (cfg : w.cfg = t.watches[i].cfg)
    (clear : w.tripped = false) :
    Filed s u (alertClear (post .watchClear i v (setWatch i w t))) (ns ++ [(false, .watchClear, i.val, v)]) := by
  have watches : (alertClear (post .watchClear i v (setWatch i w t))).watches = (setWatch i w t).watches := by simp
  refine ⟨by simp [h.pt], by simp [h.tick], fun j => by rw [watches, setWatch_cfg cfg, h.cfg], ?_,
    (alertClear_cover h _ _ _ action tripped still cfg clear).trans ?_, ?_⟩
  · rw [List.any_append, List.any_cons, List.any_nil, Bool.false_or, Bool.or_false, ← h.trips]
    refine Iff.trans ?_ (alertTrips_setWatch_clear (w := w) tripped)
    unfold AlertTrips; rw [watches]
  · unfold coverWatched alertTripped; rw [watches]
  · rw [watchesFiled_append_other fun k => Bool.noConfusion k.2.1, ← filed_posted h]
    unfold alertClear; split <;> rfl

/-- A watch that has not been touched since `s` is reached. -/
theorem filed_evalWatch (h : Filed s u t ns) {i : Fin 8} (fresh : t.watches[i] = s.watches[i]) (v : Option Int) :
    Filed s u (evalWatch i v t) (ns ++ reachNotice (some v) i s.watches[i]) := by
  have moved (w : Watch) (cfg : w.cfg = t.watches[i].cfg)
      (flag : t.watches[i].cfg.action = .alertPurge → w.tripped = t.watches[i].tripped) :
      Filed s u (setWatch i w t) ns := filed_quiet h rfl rfl (.setWatch cfg flag) rfl rfl
  match v with
  | none => rw [evalWatch_lost, reachNotice_lost, List.append_nil]; exact moved _ rfl fun _ => rfl
  | some v =>
    rw [← fresh]
    by_cases same : compareWatch t.watches[i] v = t.watches[i].tripped
    · rw [evalWatch_same same, reachNotice_value, if_pos same.symm, List.append_nil]
      exact moved _ rfl fun _ => rfl
    · rw [reachNotice_value, if_neg (Ne.symm same)]
      match c : compareWatch t.watches[i] v, was : t.watches[i].tripped with
      | true, true | false, false => exact absurd (c.trans was.symm) same
      | true, false =>
        rw [evalWatch_trip c was, if_pos rfl]
        by_cases action : t.watches[i].cfg.action = .alertPurge
        · rw [decide_eq_true action, action]
          exact filed_trip h v (fresh ▸ action) (fresh ▸ was) rfl rfl
        · rw [watchAction_of_ne action, decide_eq_false action]
          exact filed_post (moved { t.watches[i] with tripped := true, latch := true, lost := false } rfl
            fun a => absurd a action) ..
      | false, true =>
        rw [evalWatch_clear c was, if_neg Bool.false_ne_true]
        by_cases action : t.watches[i].cfg.action = .alertPurge
        · rw [action]
          exact filed_clear h v (fresh ▸ action) (fresh ▸ was) was rfl rfl
        · rw [watchAction_of_ne action]
          exact filed_post (moved { t.watches[i] with tripped := false, lost := false } rfl fun a => absurd a action) ..

/-- R20: the watches are reached in ascending order; those that are reached have not been touched since `s`. -/
theorem filed_reachWatches (h : Filed s u t ns) (reach : WatchSource → Option (Option Int))
    (fresh : ∀ i : Fin 8, reach s.watches[i].cfg.source ≠ none → t.watches[i] = s.watches[i]) :
    Filed s u (reachWatches reach t)
      (ns ++ (List.finRange 8).flatMap fun i => reachNotice (reach s.watches[i].cfg.source) i s.watches[i]) := by
  rw [reachWatches_eq_foldl]
  have nodup := List.nodup_finRange 8
  replace fresh : ∀ i ∈ List.finRange 8, reach s.watches[i].cfg.source ≠ none → t.watches[i] = s.watches[i] :=
    fun i _ => fresh i
  generalize List.finRange 8 = l at nodup fresh
  induction l generalizing t ns with
  | nil => simpa using h
  | cons i l ih =>
    obtain ⟨notIn, nodup⟩ := List.nodup_cons.1 nodup
    have one : Filed s u (reachOne reach t i) (ns ++ reachNotice (reach s.watches[i].cfg.source) i s.watches[i]) := by
      have source : t.watches[i].cfg.source = s.watches[i].cfg.source := by rw [h.cfg]
      match r : reach s.watches[i].cfg.source with
      | none => simpa only [reachOne, source, r, reachNotice, List.append_nil] using h
      | some v =>
        simpa only [reachOne, source, r] using
          filed_evalWatch h (fresh i (List.mem_cons_self ..) (by rw [r]; exact Option.some_ne_none v)) v
    rw [List.foldl_cons, List.flatMap_cons, ← List.append_assoc]
    refine ih one nodup fun j hj reached => ?_
    have other : j ≠ i := fun e => notIn (e ▸ hj)
    rw [reachOne_other_watch _ _ other]
    exact fresh j (List.mem_cons_of_mem _ hj) reached

end

end Sys2Proof.Machine
end

section
/-! The channel scan (R4 to R9, R20): channels, watches, programme and notices. -/

namespace Sys2Proof.Machine

/-! ## One channel of a scan -/

/-- The record a scan leaves of channel n. -/
def visited (samples : Samples) (s : State) (n : ChanId) : Channel := (visitChannel s.channels[n] samples[n].toNat).1

/-- R6: a channel that recovers settles with the sample as its first. -/
theorem useSample_beginSettling (c : Channel) :
    let x := engineering c.cfg.kind (min (c.raw * c.cfg.gain / 32768) 4095)
    useSample (beginSettling c) =
      { c with rail := 0, fast := x, window := [x], settle := 1, status := .settling } := by
  simp [useSample_eq, beginSettling]

/-- A good sample brings no channel to FAULT. -/
theorem useSample_not_fault {c : Channel} (h : c.status ≠ .fault) : (useSample c).status ≠ .fault := by
  rw [useSample_status]
  split
  · exact ChanStatus.noConfusion
  · exact h

/-- R5, R6: the notice of a visit. -/
def visitNotice (n : ChanId) (raw : Nat) (e : Option Code) : List (Bool × Code × Nat × Int) :=
  match e with
  | some .channelFault => [(false, .channelFault, n, raw)]
  | some c => [(false, c, n, 0)]
  | none => []

/-- R5, R6: a visit posts a notice exactly where it brings the channel to FAULT or out of it. -/
theorem visitNotice_visitChannel (n : ChanId) (c : Channel) (raw : Nat) :
    visitNotice n raw (visitChannel c raw).2 =
      if (visitChannel c raw).1.status = .fault ∧ c.status ≠ .fault then [(false, .channelFault, n.val, (raw : Int))]
      else if c.status = .fault ∧ (visitChannel c raw).1.status ≠ .fault then [(false, .channelRecover, n.val, 0)]
      else [] := by
  rcases c.status.scanned_or_idle with (h | h | h) | h
  case inr => rw [visitChannel_idle h]; rcases h with h | h <;> simp [h, visitNotice]
  case inl.inr.inr =>
    by_cases r : railSample raw = true
    · rw [visitChannel_fault_rail h r]; simp [h, visitNotice]
    · by_cases k : c.rail < 2
      · rw [visitChannel_fault_good h r k]; simp [h, visitNotice]
      · rw [visitChannel_recovers h r (by omega), useSample_beginSettling]; simp [h, visitNotice]
  all_goals
    by_cases r : railSample raw = true
    · by_cases k : c.rail < 2
      · rw [visitChannel_rail (by simp [h]) r k]; simp [h, visitNotice]
      · rw [visitChannel_faults (by simp [h]) r (by omega)]; simp [h, visitNotice]
    · rw [visitChannel_good (by simp [h]) r]; simp [visitNotice, h, useSample_not_fault]

@[simp] theorem scanChannel_channels (n : ChanId) (raw : Nat) (s : State) :
    (scanChannel n raw s).channels = s.channels.set n (visitChannel s.channels[n] raw).1 := by
  simp [scanChannel]

theorem scanChannel_same (n : ChanId) (raw : Nat) (s : State) :
    (scanChannel n raw s).channels[n] = (visitChannel s.channels[n] raw).1 := by simp

theorem scanChannel_other {n m : ChanId} (raw : Nat) (s : State) (h : m ≠ n) :
    (scanChannel n raw s).channels[m] = s.channels[m] := by
  have hv : n.val ≠ m.val := fun e => h (Fin.ext e.symm)
  simp [hv]

theorem scanChannel_watch (n : ChanId) (raw : Nat) (s : State) (i : Fin 8) : (scanChannel n raw s).watches[i] =
    reachedWatch (channelReach n (visitChannel s.channels[n] raw).1 s.watches[i].cfg.source) s.watches[i] := by
  simp only [scanChannel, reachWatches_watch, postVisit_frame, setChannel_frame]

/-- R20: a scan of channel n does not touch the watches on other sources. -/
theorem channelReach_of_ne {n : ChanId} {src : WatchSource} (h : src ≠ .channel n) (c : Channel) :
    channelReach n c src = none := if_neg h

section
variable {s u t : State} {ns : List (Bool × Code × Nat × Int)}

theorem filed_postVisit (h : Filed s u t ns) (n : ChanId) (raw : Nat) (e : Option Code) :
    Filed s u (postVisit n raw e t) (ns ++ visitNotice n raw e) := by
  match e with
  | none => exact (List.append_nil ns).symm ▸ h
  | some code => cases code <;> exact filed_post h ..

/-- The notices of a scan at channel n, in their order. -/
def scanNotices (samples : Samples) (s : State) (n : ChanId) : List (Bool × Code × Nat × Int) :=
  visitNotice n samples[n].toNat (visitChannel s.channels[n] samples[n].toNat).2 ++
    (List.finRange 8).flatMap fun i =>
      reachNotice (channelReach n (visited samples s n) s.watches[i].cfg.source) i s.watches[i]

theorem filed_scanChannel (h : Filed s u t ns) (samples : Samples) (n : ChanId)
    (channel : t.channels[n] = s.channels[n])
    (fresh : ∀ i : Fin 8, s.watches[i].cfg.source = .channel n → t.watches[i] = s.watches[i]) :
    Filed s u (scanChannel n samples[n].toNat t) (ns ++ scanNotices samples s n) := by
  have placed : Filed s u (setChannel n (visited samples s n) t) ns :=
    filed_quiet h rfl rfl (fun _ => ⟨rfl, fun _ => rfl⟩) rfl rfl
  have posted := filed_postVisit placed n samples[n].toNat (visitChannel s.channels[n] samples[n].toNat).2
  rw [scanNotices, ← List.append_assoc, scanChannel, channel]
  refine filed_reachWatches posted _ fun i reached => ?_
  have on : s.watches[i].cfg.source = .channel n := by
    by_contra off
    exact reached (channelReach_of_ne off _)
  simpa using fresh i on

end

/-! ## The scan over the channels -/

section
variable (samples : Samples)

/-- One channel of the scan. -/
def scanOne (s : State) (n : ChanId) : State := scanChannel n samples[n].toNat s

theorem scanAll_eq_foldl (s : State) : scanAll samples s = (List.finRange 16).foldl (scanOne samples) s := rfl

theorem foldl_scanOne_channel_other {l : List ChanId} {n : ChanId} (h : n ∉ l) (s : State) :
    (l.foldl (scanOne samples) s).channels[n] = s.channels[n] := by
  induction l generalizing s with
  | nil => rfl
  | cons m l ih =>
    obtain ⟨ne, h⟩ := not_or.1 (mt List.mem_cons.2 h)
    rw [List.foldl_cons, ih h, scanOne, scanChannel_other _ _ ne]

theorem foldl_scanOne_channel {l : List ChanId} (nodup : l.Nodup) {n : ChanId} (h : n ∈ l) (s : State) :
    (l.foldl (scanOne samples) s).channels[n] = visited samples s n := by
  induction l generalizing s with
  | nil => exact absurd h List.not_mem_nil
  | cons m l ih =>
    obtain ⟨notIn, nodup⟩ := List.nodup_cons.1 nodup
    rw [List.foldl_cons]
    rcases List.mem_cons.1 h with rfl | h
    · rw [foldl_scanOne_channel_other _ notIn, scanOne, scanChannel_same, visited]
    · have ne : n ≠ m := fun e => notIn (e ▸ h)
      rw [ih nodup h, visited, visited, scanOne, scanChannel_other _ _ ne]

theorem foldl_scanOne_watch_other {l : List ChanId} (s : State) (i : Fin 8)
    (h : ∀ n ∈ l, s.watches[i].cfg.source ≠ .channel n) :
    (l.foldl (scanOne samples) s).watches[i] = s.watches[i] := by
  induction l generalizing s with
  | nil => rfl
  | cons m l ih =>
    have one : (scanOne samples s m).watches[i] = s.watches[i] := by
      rw [scanOne, scanChannel_watch, channelReach_of_ne (h m (List.mem_cons_self ..))]; rfl
    rw [List.foldl_cons, ih, one]
    intro n hn
    rw [one]
    exact h n (List.mem_cons_of_mem _ hn)

theorem foldl_scanOne_watch {l : List ChanId} (nodup : l.Nodup) {n : ChanId} (h : n ∈ l) (s : State) {i : Fin 8}
    (on : s.watches[i].cfg.source = .channel n) : (l.foldl (scanOne samples) s).watches[i] =
      reachedWatch (channelReach n (visited samples s n) (.channel n)) s.watches[i] := by
  induction l generalizing s with
  | nil => exact absurd h List.not_mem_nil
  | cons m l ih =>
    obtain ⟨notIn, nodup⟩ := List.nodup_cons.1 nodup
    have one : (scanOne samples s m).watches[i] =
        reachedWatch (channelReach m (visited samples s m) s.watches[i].cfg.source) s.watches[i] := scanChannel_watch ..
    have source : (scanOne samples s m).watches[i].cfg.source = .channel n := by rw [one, reachedWatch_cfg, on]
    rw [List.foldl_cons]
    rcases List.mem_cons.1 h with rfl | h
    · rw [foldl_scanOne_watch_other, one, on]
      intro k hk e
      rw [source] at e
      injection e with e
      exact notIn (e ▸ hk)
    · have ne : n ≠ m := fun e => notIn (e ▸ h)
      have watch : (scanOne samples s m).watches[i] = s.watches[i] := by
        rw [one, channelReach_of_ne (by rw [on]; simpa using ne)]; rfl
      have channel : (scanOne samples s m).channels[n] = s.channels[n] := scanChannel_other _ _ ne
      rw [ih nodup h _ source, watch, visited, channel, visited]

theorem scanAll_channel (s : State) (n : ChanId) : (scanAll samples s).channels[n] = visited samples s n := by
  rw [scanAll_eq_foldl, foldl_scanOne_channel _ (List.nodup_finRange 16) (List.mem_finRange n)]

theorem scanAll_watch_on {s : State} {i : Fin 8} {n : ChanId} (on : s.watches[i].cfg.source = .channel n) :
    (scanAll samples s).watches[i] =
      reachedWatch (channelReach n (visited samples s n) (.channel n)) s.watches[i] := by
  rw [scanAll_eq_foldl, foldl_scanOne_watch _ (List.nodup_finRange 16) (List.mem_finRange n) _ on]

theorem scanAll_watch_off {s : State} {i : Fin 8} (off : ∀ n : ChanId, s.watches[i].cfg.source ≠ .channel n) :
    (scanAll samples s).watches[i] = s.watches[i] := by
  rw [scanAll_eq_foldl, foldl_scanOne_watch_other _ _ _ fun n _ => off n]

/-- R4, R20: the scan as a whole: each channel and the watches on it are reached once, in ascending order (log 7). -/
theorem filed_scanAll {s u t : State} {ns : List (Bool × Code × Nat × Int)} (h : Filed s u t ns)
    (channels : t.channels = s.channels) (watches : t.watches = s.watches) :
    Filed s u (scanAll samples t) (ns ++ (List.finRange 16).flatMap (scanNotices samples s)) := by
  rw [scanAll_eq_foldl]
  have nodup := List.nodup_finRange 16
  have channel : ∀ n ∈ List.finRange 16, t.channels[n] = s.channels[n] := fun n _ => by rw [channels]
  have fresh : ∀ n ∈ List.finRange 16, ∀ i : Fin 8, s.watches[i].cfg.source = .channel n →
      t.watches[i] = s.watches[i] := fun n _ i _ => by rw [watches]
  clear channels watches
  generalize List.finRange 16 = l at nodup channel fresh
  induction l generalizing t ns with
  | nil => simpa using h
  | cons m l ih =>
    obtain ⟨notIn, nodup⟩ := List.nodup_cons.1 nodup
    have one := filed_scanChannel h samples m (channel m (List.mem_cons_self ..)) (fresh m (List.mem_cons_self ..))
    rw [List.foldl_cons, List.flatMap_cons, ← List.append_assoc]
    refine ih one nodup (fun n hn => ?_) fun n hn i on => ?_ <;> have ne : n ≠ m := fun e => notIn (e ▸ hn)
    · rw [scanOne, scanChannel_other _ _ ne, channel n (List.mem_cons_of_mem _ hn)]
    · rw [scanOne, scanChannel_watch, h.cfg, channelReach_of_ne (by rw [on]; simpa using ne)]
      exact fresh n (List.mem_cons_of_mem _ hn) i on

/-- A scan changes channels, watches, the cover record and the notices only. -/
theorem scanAll_eq (s : State) : scanAll samples s =
    { s with
      channels := (scanAll samples s).channels, watches := (scanAll samples s).watches
      cover := (scanAll samples s).cover, ports := (scanAll samples s).ports } := by
  have frame := scanAll_frame samples s
  generalize scanAll samples s = t at frame
  cases t
  simpa using frame

end

end Sys2Proof.Machine
end

section
namespace Sys2Proof.Machine

/-! ## The scan when it is due -/

/-- The state in which the scan is made when it is due. -/
def atScan (samples : Samples) (s : State) : State :=
  { elapse s.timers.scan s with
    timers := { (elapse s.timers.scan s).timers with scan := 100 }, pins := { s.pins with samples := samples } }

theorem scanStep_eq (samples : Samples) (s : State) : scanStep samples s = scanAll samples (atScan samples s) := by
  have pins : (elapse s.timers.scan s).pins = s.pins := by simp
  simp only [scanStep, atScan, pins]

@[simp] theorem atScan_channels (samples : Samples) (s : State) : (atScan samples s).channels = s.channels := by
  simp [atScan]

@[simp] theorem atScan_watches (samples : Samples) (s : State) : (atScan samples s).watches = s.watches := by
  simp [atScan]

@[simp] theorem atScan_cover (samples : Samples) (s : State) : (atScan samples s).cover = s.cover := by
  simp [atScan]

theorem visited_atScan (samples : Samples) (s : State) (n : ChanId) :
    visited samples (atScan samples s) n = visited samples s n := by
  simp only [visited, atScan_channels]

theorem scanStep_channel (samples : Samples) (s : State) (n : ChanId) :
    (scanStep samples s).channels[n] = visited samples s n := by
  rw [scanStep_eq, scanAll_channel, visited_atScan]

theorem scanStep_watch_off (samples : Samples) {s : State} {i : Fin 8}
    (off : ∀ n : ChanId, s.watches[i].cfg.source ≠ .channel n) : (scanStep samples s).watches[i] = s.watches[i] := by
  rw [scanStep_eq, scanAll_watch_off samples (by simpa using off), atScan_watches]

theorem scanStep_watch_on (samples : Samples) {s : State} {i : Fin 8} {n : ChanId}
    (on : s.watches[i].cfg.source = .channel n) : (scanStep samples s).watches[i] =
      reachedWatch (channelReach n (scanStep samples s).channels[n] (.channel n)) s.watches[i] := by
  rw [scanStep_channel, scanStep_eq, scanAll_watch_on samples (by simpa using on), atScan_watches, visited_atScan]

theorem filed_scanStep (samples : Samples) (s : State) :
    Filed s (atScan samples s) (scanStep samples s) ((List.finRange 16).flatMap (scanNotices samples s)) := by
  rw [scanStep_eq]
  exact filed_scanAll samples (filed_start (by simp) (by simp)) (by simp) (by simp)

/-- The notices of a scan at channel n, read off the records before and after it. -/
theorem scanNotices_eq (samples : Samples) (s : State) (n : ChanId) :
    let t := scanStep samples s
    scanNotices samples s n =
      (if t.channels[n].status = .fault ∧ s.channels[n].status ≠ .fault then
        [(false, .channelFault, n.val, (samples[n].toNat : Int))]
       else if s.channels[n].status = .fault ∧ t.channels[n].status ≠ .fault then
        [(false, .channelRecover, n.val, 0)]
       else []) ++
      (List.finRange 8).flatMap fun i =>
        if s.watches[i].cfg.source = .channel n then watchNotice i t.channels[n].settled s t else [] := by
  intro t
  have channel : t.channels[n] = visited samples s n := scanStep_channel samples s n
  rw [scanNotices, visitNotice_visitChannel, channel, visited]
  refine congrArg (_ ++ List.flatMap · _) (funext fun i => ?_)
  split
  · rename_i on
    rw [on, watchNotice_eq_reachNotice (scanStep_watch_on samples on), channel, visited]
    intro v hv
    rw [channel] at hv
    cases st : (visited samples s n).status <;> simp [channelReach, st] at hv
    exact hv.symm
  · rename_i off
    rw [channelReach_of_ne off]; rfl

theorem corrected_sample (c : Channel) (raw : Nat) :
    useSample { c with raw := raw, rail := 0 } =
      let x := engineering c.cfg.kind (min (raw * c.cfg.gain / 32768) 4095)
      let f := if c.settle = 0 then x else c.fast + Int.tdiv (x - c.fast) 4
      let w := if c.window.length < 8 then c.window ++ [f] else c.window.drop 1 ++ [f]
      { c with
        raw := raw, rail := 0, fast := f, window := w
        settle := if c.settle < 8 then c.settle + 1 else c.settle
        settled := if w.length = 8 then Int.tdiv w.sum 8 else c.settled
        status := if c.status = .settling ∧ (c.settle = 7 ∨ c.settle = 8) then .valid else c.status } :=
  useSample_eq _

/-- Settles O37: channels and watches by the fold over the channels, programme and ports by the pass over the
watches. -/
theorem scanVisitsEveryChannelOnce : Obligations.ScanVisitsEveryChannelOnce := by
  intro samples s
  have filed := filed_scanStep samples s
  refine ⟨scanStep samples s, rfl, ?_, fun n => ?_, fun i => ⟨scanStep_watch_off samples, fun n on => ?_⟩, filed.cover,
    ?_⟩
  · have frame := scanAll_eq samples (atScan samples s)
    rw [← scanStep_eq] at frame
    exact frame
  · simp only [scanStep_channel, visited, ← railSample_iff]
    refine ⟨fun h => ?_, fun h r k => ?_, fun h r k => ?_, fun h r => ?_, fun h r => ?_, fun h r k => ?_,
      fun h r k => ?_⟩
    · rw [visitChannel_idle h]
    · rw [visitChannel_rail h r k]
    · rw [visitChannel_faults h r k]
    · rw [visitChannel_good h r]; exact corrected_sample ..
    · rw [visitChannel_fault_rail h r]
    · rw [visitChannel_fault_good h r k]
    · rw [visitChannel_recovers h r k]; exact useSample_beginSettling _
  · rw [scanStep_watch_on samples on]
    generalize (scanStep samples s).channels[n] = c
    cases h : c.status <;> simp [channelReach, h, reachedWatch]
  · rw [filed.ports, funext (scanNotices_eq samples s)]
    exact postAll_ports_congr (s := elapse s.timers.scan s) (t := atScan samples s) rfl rfl rfl _

end Sys2Proof.Machine
end

section
/-! The climate computation (R25 to R43): the stages of the record, the watches on climate sources and the notices. -/

namespace Sys2Proof.Machine

/-! ## What the computation reads does not move with part time -/

@[simp] theorem elapse_available (k : Nat) (s : State) (n : ChanId) : available (elapse k s) n = available s n := by
  by_cases h : k = 0
  · rw [h, elapse_zero]
  · unfold available
    rw [(elapse_frame k s).1]
    cases s.channels[n].status <;> cases hs : s.search <;> simp [elapse, h, hs]

@[simp] theorem elapse_runningCount (k : Nat) (s : State) : runningCount (elapse k s) = runningCount s := by
  by_cases h : k = 0
  · rw [h, elapse_zero]
  · have aged : (fun c : Compressor => running { c with
        offTimer := ageTimer k c.offTimer, onTimer := ageTimer k c.onTimer }) = running := rfl
    simp [runningCount, elapse, h, Vector.toList_map, List.filter_map, Function.comp_def, aged]

/-- A computation that is due finds what the state before part time ran on to it holds. -/
theorem readings_atComputation (s : State) (pick : ChannelCfg → Bool) :
    readings (atComputation s) pick = readings s pick := by
  have av (n : ChanId) : available (atComputation s) n = available s n := elapse_available ..
  have ch : (atComputation s).channels = s.channels := (elapse_frame ..).1
  simp only [readings, av, ch]

@[simp] theorem airTemps_atComputation (s : State) : airTemps (atComputation s) = airTemps s :=
  readings_atComputation ..

@[simp] theorem glazeTemps_atComputation (s : State) : glazeTemps (atComputation s) = glazeTemps s :=
  readings_atComputation ..

@[simp] theorem moistZones_atComputation (s : State) : moistZones (atComputation s) = moistZones s := by
  simp only [moistZones, zoneTemp, zoneRh, readings_atComputation]

@[simp] theorem heatBlindNow_atComputation (s : State) : heatBlindNow (atComputation s) = heatBlindNow s := by
  simp only [heatBlindNow, airTemps_atComputation]

@[simp] theorem moistBlindNow_atComputation (s : State) : moistBlindNow (atComputation s) = moistBlindNow s := by
  simp only [moistBlindNow, moistZones_atComputation]

@[simp] theorem atComputation_frame (s : State) :
    (atComputation s).channels = s.channels ∧
    (atComputation s).watches = s.watches ∧
    (atComputation s).climateCfg = s.climateCfg ∧
    (atComputation s).water = s.water ∧
    (atComputation s).climate = s.climate ∧
    (atComputation s).mode = s.mode ∧
    (atComputation s).alloc = s.alloc ∧
    (atComputation s).cover = s.cover ∧
    (atComputation s).light = s.light := by
  simp [atComputation]

theorem heatBlindNow_iff (s : State) : heatBlindNow s = true ↔ airTemps s = [] := List.isEmpty_iff

theorem moistBlindNow_iff (s : State) : moistBlindNow s = true ↔ moistZones s = [] := List.isEmpty_iff

/-! ## The fields each stage leaves -/

@[simp] theorem stageTh_frame (s : State) (c : Climate) :
    (stageTh s c).tdh = c.tdh ∧ (stageTh s c).rhMax = c.rhMax ∧ (stageTh s c).tg = c.tg ∧ (stageTh s c).m = c.m ∧
    (stageTh s c).s = c.s ∧ (stageTh s c).tw = c.tw ∧ (stageTh s c).i16 = c.i16 ∧ (stageTh s c).dh = c.dh ∧
    (stageTh s c).dd = c.dd ∧ (stageTh s c).protective = c.protective ∧ (stageTh s c).heatCount = c.heatCount ∧
    (stageTh s c).moistCount = c.moistCount ∧ (stageTh s c).heatBlind = c.heatBlind ∧
    (stageTh s c).moistBlind = c.moistBlind ∧ (stageTh s c).dewFloor = c.dewFloor ∧
    (stageTh s c).glazeSubst = c.glazeSubst ∧ (stageTh s c).condensation = c.condensation := by
  unfold stageTh; split <;> simp

@[simp] theorem stageDew_frame (s : State) (c : Climate) :
    (stageDew s c).th = c.th ∧ (stageDew s c).tg = c.tg ∧ (stageDew s c).m = c.m ∧
    (stageDew s c).s = c.s ∧ (stageDew s c).tw = c.tw ∧ (stageDew s c).i16 = c.i16 ∧ (stageDew s c).dh = c.dh ∧
    (stageDew s c).dd = c.dd ∧ (stageDew s c).protective = c.protective ∧ (stageDew s c).heatCount = c.heatCount ∧
    (stageDew s c).moistCount = c.moistCount ∧ (stageDew s c).heatBlind = c.heatBlind ∧
    (stageDew s c).moistBlind = c.moistBlind ∧
    (stageDew s c).glazeSubst = c.glazeSubst ∧ (stageDew s c).condensation = c.condensation := by
  unfold stageDew; split <;> simp

@[simp] theorem stageGlaze_frame (s : State) (c : Climate) :
    (stageGlaze s c).th = c.th ∧ (stageGlaze s c).tdh = c.tdh ∧ (stageGlaze s c).rhMax = c.rhMax ∧
    (stageGlaze s c).m = c.m ∧ (stageGlaze s c).s = c.s ∧ (stageGlaze s c).tw = c.tw ∧
    (stageGlaze s c).i16 = c.i16 ∧ (stageGlaze s c).dh = c.dh ∧ (stageGlaze s c).dd = c.dd ∧
    (stageGlaze s c).protective = c.protective ∧ (stageGlaze s c).heatCount = c.heatCount ∧
    (stageGlaze s c).moistCount = c.moistCount ∧ (stageGlaze s c).heatBlind = c.heatBlind ∧
    (stageGlaze s c).moistBlind = c.moistBlind ∧ (stageGlaze s c).dewFloor = c.dewFloor ∧
    (stageGlaze s c).condensation = c.condensation := by
  unfold stageGlaze; (repeat' split) <;> simp

@[simp] theorem stageMargin_frame (s : State) (c : Climate) :
    (stageMargin s c).th = c.th ∧ (stageMargin s c).tdh = c.tdh ∧ (stageMargin s c).rhMax = c.rhMax ∧
    (stageMargin s c).tg = c.tg ∧ (stageMargin s c).s = c.s ∧ (stageMargin s c).tw = c.tw ∧
    (stageMargin s c).i16 = c.i16 ∧ (stageMargin s c).dh = c.dh ∧ (stageMargin s c).dd = c.dd ∧
    (stageMargin s c).protective = c.protective ∧ (stageMargin s c).heatCount = c.heatCount ∧
    (stageMargin s c).moistCount = c.moistCount ∧ (stageMargin s c).heatBlind = c.heatBlind ∧
    (stageMargin s c).moistBlind = c.moistBlind ∧ (stageMargin s c).dewFloor = c.dewFloor ∧
    (stageMargin s c).glazeSubst = c.glazeSubst := by
  unfold stageMargin; split <;> simp

@[simp] theorem stageSetpoint_frame (s : State) (c : Climate) :
    (stageSetpoint s c).th = c.th ∧ (stageSetpoint s c).tdh = c.tdh ∧ (stageSetpoint s c).rhMax = c.rhMax ∧
    (stageSetpoint s c).tg = c.tg ∧ (stageSetpoint s c).m = c.m ∧
    (stageSetpoint s c).i16 = c.i16 ∧ (stageSetpoint s c).dh = c.dh ∧ (stageSetpoint s c).dd = c.dd ∧
    (stageSetpoint s c).protective = c.protective ∧ (stageSetpoint s c).heatCount = c.heatCount ∧
    (stageSetpoint s c).moistCount = c.moistCount ∧ (stageSetpoint s c).heatBlind = c.heatBlind ∧
    (stageSetpoint s c).moistBlind = c.moistBlind ∧ (stageSetpoint s c).dewFloor = c.dewFloor ∧
    (stageSetpoint s c).glazeSubst = c.glazeSubst ∧ (stageSetpoint s c).condensation = c.condensation := by
  simp [stageSetpoint]

@[simp] theorem stageHeat_frame (s : State) (c : Climate) :
    (stageHeat s c).th = c.th ∧ (stageHeat s c).tdh = c.tdh ∧ (stageHeat s c).rhMax = c.rhMax ∧
    (stageHeat s c).tg = c.tg ∧ (stageHeat s c).m = c.m ∧ (stageHeat s c).s = c.s ∧ (stageHeat s c).tw = c.tw ∧
    (stageHeat s c).dd = c.dd ∧ (stageHeat s c).protective = c.protective ∧
    (stageHeat s c).moistCount = c.moistCount ∧ (stageHeat s c).moistBlind = c.moistBlind ∧
    (stageHeat s c).dewFloor = c.dewFloor ∧ (stageHeat s c).glazeSubst = c.glazeSubst ∧
    (stageHeat s c).condensation = c.condensation := by
  unfold stageHeat; split <;> simp

@[simp] theorem stageDehum_frame (s : State) (c : Climate) :
    (stageDehum s c).th = c.th ∧ (stageDehum s c).tdh = c.tdh ∧ (stageDehum s c).rhMax = c.rhMax ∧
    (stageDehum s c).tg = c.tg ∧ (stageDehum s c).m = c.m ∧ (stageDehum s c).s = c.s ∧ (stageDehum s c).tw = c.tw ∧
    (stageDehum s c).i16 = c.i16 ∧ (stageDehum s c).dh = c.dh ∧ (stageDehum s c).heatCount = c.heatCount ∧
    (stageDehum s c).heatBlind = c.heatBlind ∧ (stageDehum s c).dewFloor = c.dewFloor ∧
    (stageDehum s c).glazeSubst = c.glazeSubst ∧ (stageDehum s c).condensation = c.condensation := by
  unfold stageDehum; split <;> simp

/-! ## What each stage forms -/

/-- A fold that keeps the better of two values gives one of the values, and none is better. -/
theorem foldl_best {α : Type} {op : α → α → α} {le : α → α → Prop} (refl : ∀ x, le x x)
    (trans : ∀ x y z, le x y → le y z → le x z) (left : ∀ x y, le x (op x y)) (right : ∀ x y, le y (op x y))
    (one : ∀ x y, op x y = x ∨ op x y = y) (x : α) (xs : List α) :
    (∀ y ∈ x :: xs, le y (xs.foldl op x)) ∧ xs.foldl op x ∈ x :: xs := by
  induction xs generalizing x with
  | nil => simpa using refl x
  | cons y ys ih =>
    obtain ⟨best, mem⟩ := ih (op x y)
    rw [List.foldl_cons]
    have top := best (op x y) (List.mem_cons_self ..)
    refine ⟨fun z hz => ?_, ?_⟩
    · rcases List.mem_cons.1 hz with rfl | hz
      · exact trans _ _ _ (left z y) top
      · rcases List.mem_cons.1 hz with rfl | hz
        · exact trans _ _ _ (right x z) top
        · exact best z (List.mem_cons_of_mem _ hz)
    · rcases List.mem_cons.1 mem with e | e
      · rw [e]
        rcases one x y with h | h <;> simp [h]
      · simp [e]

theorem foldl_max_best {α : Type} [LinearOrder α] (x : α) (xs : List α) :
    (∀ y ∈ x :: xs, y ≤ xs.foldl max x) ∧ xs.foldl max x ∈ x :: xs :=
  foldl_best le_refl (fun _ _ _ => le_trans) le_max_left le_max_right max_choice x xs

theorem foldl_min_best {α : Type} [LinearOrder α] (x : α) (xs : List α) :
    (∀ y ∈ x :: xs, xs.foldl min x ≤ y) ∧ xs.foldl min x ∈ x :: xs :=
  foldl_best (le := fun a b => b ≤ a) le_refl (fun _ _ _ h k => le_trans k h) min_le_left min_le_right min_choice x xs

section
variable {s : State} (c : Climate)

theorem stageTh_seeing (h : airTemps s ≠ []) :
    (stageTh s c).th = Int.tdiv (airTemps s).sum (airTemps s).length := by
  unfold stageTh
  split
  · contradiction
  · rfl

theorem stageTh_blind (h : airTemps s = []) : stageTh s c = c := by simp [stageTh, h]

theorem stageDew_blind (h : moistZones s = []) : stageDew s c = c := by simp [stageDew, h]

/-- R30: Tdh and RHmax are the largest of their zones, and DEW_FLOOR that of any zone. -/
theorem stageDew_seeing (h : moistZones s ≠ []) :
    (∀ z ∈ moistZones s, z.dew ≤ (stageDew s c).tdh ∧ z.rh ≤ (stageDew s c).rhMax) ∧
      (∃ z ∈ moistZones s, z.dew = (stageDew s c).tdh) ∧ (∃ z ∈ moistZones s, z.rh = (stageDew s c).rhMax) ∧
      ((stageDew s c).dewFloor = true ↔ ∃ z ∈ moistZones s, z.floor = true) := by
  unfold stageDew
  match hz : moistZones s with
  | [] => contradiction
  | z :: zs =>
    obtain ⟨dewBest, dewMem⟩ := foldl_max_best z.dew (zs.map ZoneAir.dew)
    obtain ⟨rhBest, rhMem⟩ := foldl_max_best z.rh (zs.map ZoneAir.rh)
    rw [← List.map_cons] at dewBest dewMem rhBest rhMem
    refine ⟨fun y hy => ⟨dewBest _ (List.mem_map_of_mem hy), rhBest _ (List.mem_map_of_mem hy)⟩, List.mem_map.1 dewMem,
      List.mem_map.1 rhMem, List.any_eq_true⟩

/-- R31: Tg is the smallest of the glazing readings. -/
theorem stageGlaze_seeing (h : glazeTemps s ≠ []) :
    (stageGlaze s c).glazeSubst = false ∧ (stageGlaze s c).tg ∈ glazeTemps s ∧
      ∀ g ∈ glazeTemps s, (stageGlaze s c).tg ≤ g := by
  unfold stageGlaze
  match hg : glazeTemps s with
  | [] => contradiction
  | g :: gs =>
    obtain ⟨best, mem⟩ := foldl_min_best g gs
    exact ⟨rfl, mem, best⟩

theorem stageGlaze_substitute (h : glazeTemps s = []) (seeing : airTemps s ≠ []) :
    stageGlaze s c = { c with tg := c.th - s.climateCfg.substituteDrop, glazeSubst := true } := by
  simp [stageGlaze, h, mt (heatBlindNow_iff s).1 seeing]

theorem stageGlaze_blind (h : glazeTemps s = []) (blind : airTemps s = []) : stageGlaze s c = c := by
  simp [stageGlaze, h, (heatBlindNow_iff s).2 blind]

theorem stageMargin_seeing (h : moistZones s ≠ []) :
    stageMargin s c = { c with m := c.tg - c.tdh, condensation := c.tg - c.tdh ≤ 0 } :=
  if_neg (mt (moistBlindNow_iff s).1 h)

theorem stageMargin_blind (h : moistZones s = []) : stageMargin s c = c := if_pos ((moistBlindNow_iff s).2 h)

theorem frozen_iff (prevDh : Nat) (heatHeld : Bool) (e : Int) : frozen prevDh heatHeld e = true ↔
    (prevDh = 1000 ∧ 0 < e) ∨ (prevDh = 0 ∧ e < 0) ∨ (heatHeld = true ∧ 0 < e) := by
  simp [frozen, or_assoc]

/-- R36 to R38: the integrator, the heating demand and the end of blindness. -/
theorem stageHeat_seeing (h : airTemps s ≠ []) :
    let e := c.s - c.th
    (stageHeat s c).i16 = (if (c.dh = 1000 ∧ 0 < e) ∨ (c.dh = 0 ∧ e < 0) ∨ (s.alloc.heatHeld = true ∧ 0 < e) then c.i16
      else (max 0 (min (c.i16 + s.climateCfg.ki * e) 16000)).toNat) ∧
    (stageHeat s c).dh = (max 0 (min (s.climateCfg.kp * e + ((stageHeat s c).i16 / 16 : Nat) -
      ((runningCount s * s.climateCfg.kc + s.climateCfg.kl * (appliedLighting s.light / 10) : Nat) : Int)) 1000)).toNat ∧
    (stageHeat s c).heatCount = 0 ∧ (stageHeat s c).heatBlind = false := by
  unfold stageHeat
  rw [if_neg (mt (heatBlindNow_iff s).1 h)]
  refine ⟨?_, ?_, rfl, rfl⟩
  · simp only [nextI16, frozen_iff, clampInt_eq (show (0 : Int) ≤ 16000 by omega)]
  · simp only [heatDemand, credits, clampInt_eq (show (0 : Int) ≤ 1000 by omega)]

theorem blindDemand_eq (count prev demand : Nat) :
    blindDemand count prev demand = if count = 29 then demand else prev := by
  unfold blindDemand
  exact if_congr (by omega) rfl rfl

/-- R42: a heat-blind computation counts, and brings the blind demand where the count reaches 30. -/
theorem stageHeat_blind (h : airTemps s = []) :
    stageHeat s c = { c with
      heatCount := if c.heatCount < 30 then c.heatCount + 1 else c.heatCount
      dh := if c.heatCount = 29 then 300 else c.dh, heatBlind := c.heatCount = 0 || c.heatBlind } := by
  unfold stageHeat
  rw [if_pos ((heatBlindNow_iff s).2 h), blindDemand_eq, Bool.or_comm, blindCount]

theorem slewDd_eq (slew prev target : Nat) (m : Int) : slewDd slew prev target m =
    if prev < target then (if m ≤ 0 then target else min target (prev + slew)) else max target (prev - slew) := by
  unfold slewDd
  (repeat' split) <;> omega

/-- R39 to R41: the demands, the slew, the protective flag and the end of blindness. -/
theorem stageDehum_seeing (h : moistZones s ≠ []) :
    let rt := if s.mode.mode = .night then s.climateCfg.nightTarget else s.climateCfg.dayTarget
    let dr := (max 0 (min (s.climateCfg.kr * ((c.rhMax : Int) - rt)) 1000)).toNat
    let dg := (max 0 (min (s.climateCfg.kg * ((s.climateCfg.mSet : Int) - c.m)) 1000)).toNat
    let dt := if forceTripped s = true then 1000 else max dr dg
    (stageDehum s c).dd = (if c.dd < dt then (if c.m ≤ 0 then dt else min dt (c.dd + s.climateCfg.slew))
      else max dt (c.dd - s.climateCfg.slew)) ∧
    ((stageDehum s c).protective = true ↔ forceTripped s = true ∨ (dr ≤ dg ∧ 0 < dg)) ∧
    (stageDehum s c).moistCount = 0 ∧ (stageDehum s c).moistBlind = false := by
  unfold stageDehum
  rw [if_neg (mt (moistBlindNow_iff s).1 h)]
  simp only [humidityDemand, glazeDemand, clampInt_eq (show (0 : Int) ≤ 1000 by omega), slewDd_eq]
  simp

/-- R43: a moisture-blind computation counts, and brings the blind demand where the count reaches 30. -/
theorem stageDehum_blind (h : moistZones s = []) :
    stageDehum s c = { c with
      moistCount := if c.moistCount < 30 then c.moistCount + 1 else c.moistCount
      dd := if c.moistCount = 29 then 500 else c.dd, moistBlind := c.moistCount = 0 || c.moistBlind } := by
  unfold stageDehum
  rw [if_pos ((moistBlindNow_iff s).2 h), blindDemand_eq, Bool.or_comm, blindCount]

end

end Sys2Proof.Machine
end

section
namespace Sys2Proof.Machine

/-! ## The record of a computation that is due -/

theorem runningCount_atComputation (s : State) : runningCount (atComputation s) = runningCount s :=
  elapse_runningCount ..

theorem computeClimate_atComputation (s : State) : computeClimate (atComputation s) = computeClimate s := by
  have th (c) : stageTh (atComputation s) c = stageTh s c := by simp only [stageTh, airTemps_atComputation]
  have dew (c) : stageDew (atComputation s) c = stageDew s c := by simp only [stageDew, moistZones_atComputation]
  have glaze (c) : stageGlaze (atComputation s) c = stageGlaze s c := by
    simp only [stageGlaze, glazeTemps_atComputation, heatBlindNow_atComputation, atComputation_frame]
  have margin (c) : stageMargin (atComputation s) c = stageMargin s c := by
    simp only [stageMargin, moistBlindNow_atComputation]
  have setpoint (c) : stageSetpoint (atComputation s) c = stageSetpoint s c := by
    simp only [stageSetpoint, waterInUse, sHiCap, atComputation_frame]
  have heat (c) : stageHeat (atComputation s) c = stageHeat s c := by
    simp only [stageHeat, credits, heatBlindNow_atComputation, runningCount_atComputation, atComputation_frame]
  have force : forceTripped (atComputation s) = forceTripped s := by simp only [forceTripped, atComputation_frame]
  have dehum (c) : stageDehum (atComputation s) c = stageDehum s c := by
    simp only [stageDehum, force, moistBlindNow_atComputation, atComputation_frame]
  simp only [computeClimate, th, dew, glaze, margin, setpoint, heat, dehum, atComputation_frame]

/-- The record as heating and dehumidifying find it. -/
def sensed (s : State) : Climate :=
  stageSetpoint s (stageMargin s (stageGlaze s (stageDew s (stageTh s s.climate))))

theorem computeClimate_eq (s : State) : computeClimate s = stageDehum s (stageHeat s (sensed s)) := rfl

section
variable (s : State)

theorem sensed_kept : (sensed s).dh = s.climate.dh ∧ (sensed s).dd = s.climate.dd ∧ (sensed s).i16 = s.climate.i16 ∧
    (sensed s).heatCount = s.climate.heatCount ∧ (sensed s).moistCount = s.climate.moistCount ∧
    (sensed s).heatBlind = s.climate.heatBlind ∧ (sensed s).moistBlind = s.climate.moistBlind ∧
    (sensed s).protective = s.climate.protective := by
  simp [sensed]

variable {s}

theorem computeClimate_th_seeing (h : airTemps s ≠ []) :
    (computeClimate s).th = Int.tdiv (airTemps s).sum (airTemps s).length := by
  simp [computeClimate, stageTh_seeing _ h]

theorem computeClimate_th_blind (h : airTemps s = []) : (computeClimate s).th = s.climate.th := by
  simp [computeClimate, stageTh_blind _ h]

theorem computeClimate_moist_blind (h : moistZones s = []) :
    (computeClimate s).tdh = s.climate.tdh ∧ (computeClimate s).rhMax = s.climate.rhMax ∧
    (computeClimate s).dewFloor = s.climate.dewFloor ∧ (computeClimate s).m = s.climate.m ∧
    (computeClimate s).condensation = s.climate.condensation ∧
    (computeClimate s).protective = s.climate.protective := by
  simp [computeClimate, stageDew_blind _ h, stageMargin_blind _ h, stageDehum_blind _ h]

theorem computeClimate_dew (h : moistZones s ≠ []) :
    (∀ z ∈ moistZones s, z.dew ≤ (computeClimate s).tdh ∧ z.rh ≤ (computeClimate s).rhMax) ∧
    (∃ z ∈ moistZones s, z.dew = (computeClimate s).tdh) ∧ (∃ z ∈ moistZones s, z.rh = (computeClimate s).rhMax) ∧
    ((computeClimate s).dewFloor = true ↔ ∃ z ∈ moistZones s, z.floor = true) := by
  simpa [computeClimate] using stageDew_seeing (stageTh s s.climate) h

theorem computeClimate_glaze_seeing (h : glazeTemps s ≠ []) :
    (computeClimate s).glazeSubst = false ∧ (computeClimate s).tg ∈ glazeTemps s ∧
    ∀ g ∈ glazeTemps s, (computeClimate s).tg ≤ g := by
  simpa [computeClimate] using stageGlaze_seeing (stageDew s (stageTh s s.climate)) h

theorem computeClimate_glaze_substitute (h : glazeTemps s = []) (seeing : airTemps s ≠ []) :
    (computeClimate s).glazeSubst = true ∧
    (computeClimate s).tg = (computeClimate s).th - s.climateCfg.substituteDrop := by
  simp [computeClimate, stageGlaze_substitute _ h seeing]

theorem computeClimate_glaze_blind (h : glazeTemps s = []) (blind : airTemps s = []) :
    (computeClimate s).glazeSubst = s.climate.glazeSubst ∧ (computeClimate s).tg = s.climate.tg := by
  simp [computeClimate, stageGlaze_blind _ h blind]

theorem computeClimate_margin (h : moistZones s ≠ []) :
    (computeClimate s).m = (computeClimate s).tg - (computeClimate s).tdh ∧
    ((computeClimate s).condensation = true ↔ (computeClimate s).m ≤ 0) := by
  simp [computeClimate, stageMargin_seeing _ h]

variable (s) in
theorem computeClimate_setpoint : (computeClimate s).tw = waterInUse s ∧
    (computeClimate s).s = setpoint s.climateCfg (sHiCap s) s.mode.mode (computeClimate s).tw := by
  simp [computeClimate, stageSetpoint]

theorem computeClimate_heat_seeing (h : airTemps s ≠ []) :
    let c := s.climate
    let n := computeClimate s
    let cfg := s.climateCfg
    let e := n.s - n.th
    n.i16 = (if (c.dh = 1000 ∧ 0 < e) ∨ (c.dh = 0 ∧ e < 0) ∨ (s.alloc.heatHeld = true ∧ 0 < e) then c.i16
      else (max 0 (min (c.i16 + cfg.ki * e) 16000)).toNat) ∧
    n.dh = (max 0 (min (cfg.kp * e + (n.i16 / 16 : Nat) -
      ((runningCount s * cfg.kc + cfg.kl * (appliedLighting s.light / 10) : Nat) : Int)) 1000)).toNat ∧
    n.heatCount = 0 ∧ n.heatBlind = false := by
  obtain ⟨dh, -, i16, -⟩ := sensed_kept s
  have heat := stageHeat_seeing (sensed s) h
  rw [dh, i16] at heat
  simpa only [computeClimate_eq, stageDehum_frame, stageHeat_frame] using heat

theorem computeClimate_heat_blind (h : airTemps s = []) :
    let c := s.climate
    let n := computeClimate s
    n.i16 = c.i16 ∧ n.heatCount = (if c.heatCount < 30 then c.heatCount + 1 else c.heatCount) ∧
    n.dh = (if c.heatCount = 29 then 300 else c.dh) ∧ n.heatBlind = (c.heatCount = 0 || c.heatBlind) := by
  obtain ⟨dh, -, i16, count, -, blind, -⟩ := sensed_kept s
  simp only [computeClimate_eq, stageDehum_frame, stageHeat_blind _ h, dh, i16, count, blind, and_self]

theorem computeClimate_dehum_seeing (h : moistZones s ≠ []) :
    let c := s.climate
    let n := computeClimate s
    let cfg := s.climateCfg
    let rt := if s.mode.mode = .night then cfg.nightTarget else cfg.dayTarget
    let dr := (max 0 (min (cfg.kr * ((n.rhMax : Int) - rt)) 1000)).toNat
    let dg := (max 0 (min (cfg.kg * ((cfg.mSet : Int) - n.m)) 1000)).toNat
    let dt := if forceTripped s = true then 1000 else max dr dg
    n.dd = (if c.dd < dt then (if n.m ≤ 0 then dt else min dt (c.dd + cfg.slew)) else max dt (c.dd - cfg.slew)) ∧
    (n.protective = true ↔ forceTripped s = true ∨ (dr ≤ dg ∧ 0 < dg)) ∧
    n.moistCount = 0 ∧ n.moistBlind = false := by
  obtain ⟨-, dd, -⟩ := sensed_kept s
  have dehum := stageDehum_seeing (stageHeat s (sensed s)) h
  simp only [stageHeat_frame, dd] at dehum
  simpa only [computeClimate_eq, stageDehum_frame, stageHeat_frame] using dehum

theorem computeClimate_dehum_blind (h : moistZones s = []) :
    let c := s.climate
    let n := computeClimate s
    n.moistCount = (if c.moistCount < 30 then c.moistCount + 1 else c.moistCount) ∧
    n.dd = (if c.moistCount = 29 then 500 else c.dd) ∧ n.moistBlind = (c.moistCount = 0 || c.moistBlind) := by
  obtain ⟨-, dd, -, -, count, -, blind, -⟩ := sensed_kept s
  simp only [computeClimate_eq, stageDehum_blind _ h, stageHeat_frame, dd, count, blind, and_self]

end

/-! ## The watches on climate sources -/

theorem glazeValid_iff (s : State) :
    glazeValid s = true ↔ ∃ k : ChanId, s.channels[k].cfg.kind = .glazeT ∧ s.channels[k].status = .valid := by
  simp only [glazeValid, List.any_eq_true, Bool.and_eq_true, decide_eq_true_eq, Vector.mem_toList_iff,
    Vector.mem_iff_getElem]
  constructor
  · rintro ⟨c, ⟨i, hi, rfl⟩, kind, status⟩
    exact ⟨⟨i, hi⟩, kind, status⟩
  · rintro ⟨i, kind, status⟩
    exact ⟨_, ⟨i, i.isLt, rfl⟩, kind, status⟩

theorem glazeValid_atComputation (s : State) : glazeValid (atComputation s) = glazeValid s := by
  simp only [glazeValid, atComputation_frame]

/-- R20: how a computation reaches a watch. -/
def computationReach (s : State) : WatchSource → Option (Option Int) :=
  climateReach (heatBlindNow s) (moistBlindNow s) (glazeValid s) (computeClimate s)

/-- R20: the value of the source of a watch, as the computation has just formed it. -/
theorem computationReach_value {s : State} {src : WatchSource} {v : Int} (h : computationReach s src = some (some v)) :
    v = match src with
      | .none | .channel _ => 0
      | .hallT => (computeClimate s).th
      | .hallDew => (computeClimate s).tdh
      | .margin => (computeClimate s).m
      | .dh => (computeClimate s).dh
      | .dd => (computeClimate s).dd := by
  cases src <;> simp [computationReach, climateReach] at h ⊢
  case dh | dd => exact h.symm
  all_goals exact h.2.symm

section
variable {s u t : State} {ns : List (Bool × Code × Nat × Int)}

theorem filed_postIf (h : Filed s u t ns) {b : Bool} {p : Prop} [Decidable p] (hb : b = true ↔ p) (c : Code) (n : Nat)
    (v : Int) : Filed s u (postIf b c n v t) (ns ++ if p then [(false, c, n, v)] else []) := by
  unfold postIf
  by_cases hp : p
  · rw [if_pos (hb.2 hp), if_pos hp]; exact filed_post h c n v
  · rw [if_neg (mt hb.1 hp), if_neg hp, List.append_nil]; exact h

/-- R25: the notices of a computation, before those of the watches. -/
def computationNotices (s : State) : List (Bool × Code × Nat × Int) :=
  let c := s.climate
  let n := computeClimate s
  (if airTemps s = [] ∧ c.heatCount = 0 then [(false, .climateBlind, 0, (c.dh : Int))] else []) ++
  (if moistZones s = [] ∧ c.moistCount = 0 then [(false, .climateBlind, 1, (c.dd : Int))] else []) ++
  (if c.glazeSubst = false ∧ n.glazeSubst = true then [(false, .glazeSubst, 0, n.tg)] else []) ++
  (if c.condensation = false ∧ n.condensation = true then [(false, .condensation, 0, n.m)] else []) ++
  (if c.condensation = true ∧ n.condensation = false then [(false, .condensation, 1, n.m)] else [])

theorem filed_climateNotices (h : Filed s u t []) :
    Filed s u (climateNotices (heatBlindNow s) (moistBlindNow s) s.climate (computeClimate s) t)
      (computationNotices s) :=
  filed_postIf (filed_postIf (filed_postIf (filed_postIf (filed_postIf h
    (by simp [heatBlindNow_iff]) ..) (by simp [moistBlindNow_iff]) ..) (by simp) ..) (by simp) ..) (by simp) ..

end

/-- The state in which the watches are reached: the record formed and the valve set. -/
def atNotices (s : State) : State := setValve { atComputation s with climate := computeClimate s }

theorem computeStep_eq (s : State) : computeStep s =
    reachWatches (computationReach s)
      (climateNotices (heatBlindNow s) (moistBlindNow s) s.climate (computeClimate s) (atNotices s)) := by
  simp only [computeStep, computation, computationReach, atNotices, computeClimate_atComputation,
    heatBlindNow_atComputation, moistBlindNow_atComputation, glazeValid_atComputation, atComputation_frame]

theorem filed_computeStep (s : State) : Filed s (atNotices s) (computeStep s)
    (computationNotices s ++ (List.finRange 8).flatMap fun i =>
      reachNotice (computationReach s s.watches[i].cfg.source) i s.watches[i]) := by
  rw [computeStep_eq]
  refine filed_reachWatches (filed_climateNotices (filed_start ?_ ?_)) _ fun i _ => ?_ <;> simp [atNotices]

theorem computeStep_watch (s : State) (i : Fin 8) : (computeStep s).watches[i] =
    reachedWatch (computationReach s s.watches[i].cfg.source) s.watches[i] := by
  rw [computeStep_eq, reachWatches_watch]
  simp [atNotices]

theorem computeStep_climate (s : State) : (computeStep s).climate = computeClimate s := by
  rw [computeStep_eq]
  simp [atNotices]

/-- Reaching the watches changes them, the cover record and the notices only. -/
theorem reachWatches_eq (reach : WatchSource → Option (Option Int)) (s : State) : reachWatches reach s =
    { s with
      watches := (reachWatches reach s).watches, cover := (reachWatches reach s).cover
      ports := (reachWatches reach s).ports } := by
  have frame := reachWatches_frame reach s
  generalize reachWatches reach s = t at frame
  cases t
  simpa using frame

theorem climateNotices_eq (heat moist : Bool) (old new : Climate) (s : State) :
    climateNotices heat moist old new s = { s with ports := (climateNotices heat moist old new s).ports } := by
  have frame := climateNotices_frame heat moist old new s
  generalize climateNotices heat moist old new s = t at frame
  cases t
  simpa using frame

/-- A computation changes the climate record, the valve, the watches, the cover record and the notices only. -/
theorem computeStep_frame (s : State) : computeStep s =
    { atComputation s with
      climate := computeClimate s
      seq := { (atComputation s).seq with
        valve := if s.seq.interlock.active = true then 0 else (computeClimate s).dh }
      watches := (computeStep s).watches, cover := (computeStep s).cover, ports := (computeStep s).ports } := by
  have interlock : (atComputation s).seq.interlock = s.seq.interlock := (elapse_seq_frame ..).2.2.2.2.2.2.2.1
  have frame := reachWatches_eq (computationReach s)
    (climateNotices (heatBlindNow s) (moistBlindNow s) s.climate (computeClimate s) (atNotices s))
  rw [← computeStep_eq, climateNotices_eq] at frame
  rw [← interlock]
  exact frame

end Sys2Proof.Machine
end

section
namespace Sys2Proof.Machine

/-- R20: the watch on a climate source that is formed unless its sense is blind. -/
theorem reachedWatch_unless {b : Bool} {p : Prop} [Decidable p] (hb : b = true ↔ p) (v : Int) (w : Watch) :
    reachedWatch (some (if b then none else some v)) w = watchAfter w (if p then none else some v) := by
  rw [reachedWatch, if_congr hb rfl rfl]

/-- Settles O40: the record stage by stage, the watches, the programme and the ports by the pass over the watches. -/
theorem computationFormsTheRecord : Obligations.ComputationFormsTheRecord := by
  intro s
  have filed := filed_computeStep s
  obtain ⟨tw, setpoint⟩ := computeClimate_setpoint s
  refine ⟨computeStep s, rfl, ?_⟩
  simp only [computeStep_climate]
  refine ⟨computeStep_frame s, computeClimate_th_seeing, computeClimate_th_blind, computeClimate_moist_blind,
    computeClimate_dew, computeClimate_glaze_seeing, computeClimate_glaze_substitute, computeClimate_glaze_blind,
    computeClimate_margin, tw, setpoint, computeClimate_heat_seeing, computeClimate_heat_blind,
    computeClimate_dehum_seeing, computeClimate_dehum_blind, fun i => ?_, filed.cover, ?_⟩
  · rw [computeStep_watch]
    cases src : s.watches[i].cfg.source
    case none | channel => rfl
    case hallT => exact reachedWatch_unless (heatBlindNow_iff s) ..
    case hallDew => exact reachedWatch_unless (moistBlindNow_iff s) ..
    case margin =>
      refine reachedWatch_unless ?_ ..
      rw [Bool.or_eq_true, Bool.and_eq_true, Bool.not_eq_true', ← Bool.not_eq_true, heatBlindNow_iff, moistBlindNow_iff,
        glazeValid_iff]
    case dh | dd => rfl
  · rw [filed.ports, postAll_ports_congr (s := atComputation s) (t := atNotices s) rfl rfl rfl]
    refine congrArg (fun ns => (postAll (watchesFiled s.cover
      (computationNotices s ++ (List.finRange 8).flatMap ns)) (atComputation s)).ports) (funext fun i => ?_)
    have notice {x : Int} (value : ∀ v, computationReach s s.watches[i].cfg.source = some (some v) → v = x) :=
      (watchNotice_eq_reachNotice (computeStep_watch s i) value).symm
    cases src : s.watches[i].cfg.source
    case none | channel => rfl
    all_goals
      rw [src] at notice
      exact notice fun v hv => computationReach_value hv

end Sys2Proof.Machine
end

section
/-! Rows that name an outcome of a scan or a computation (log 16). -/

namespace Sys2Proof.Machine

theorem next_outcomeStep {met : Bool} (h : met = true) (t s : State) :
    (.next (outcomeStep met t s) : Host.Outcome State Fault Refusal) = .next t := by
  rw [outcomeStep, if_pos h]

theorem exec_channelFault {n : ChanId} {samples : Samples} {s : State} (h : faultsAt n samples s = true) :
    exec (.channelFault n samples) s = .next (scanStep samples s) := next_outcomeStep h _ _

theorem exec_channelRecover {n : ChanId} {samples : Samples} {s : State} (h : recoversAt n samples s = true) :
    exec (.channelRecover n samples) s = .next (scanStep samples s) := next_outcomeStep h _ _

theorem exec_channelValid {n : ChanId} {samples : Samples} {s : State} (h : validAt n samples s = true) :
    exec (.channelValid n samples) s = .next (scanStep samples s) := next_outcomeStep h _ _

theorem exec_heatBlindDemand {s : State} (h : heatDemandDue s = true) :
    exec .heatBlindDemand s = .next (computeStep s) := next_outcomeStep h _ _

theorem exec_moistureBlindDemand {s : State} (h : moistureDemandDue s = true) :
    exec .moistureBlindDemand s = .next (computeStep s) := next_outcomeStep h _ _

/-- Settles O41: in each case the outcome comes about, so the row is its periodic step, whose lemmas give the rest. -/
theorem outcomeRowsAreTheirScansAndComputations : Obligations.OutcomeRowsAreTheirScansAndComputations := by
  refine ⟨fun n samples s => ⟨fun status rail count => ?_, fun status good count => ?_, fun status good count => ?_⟩,
    fun s => ⟨fun blind count => ?_, fun blind count => ?_⟩⟩
  · have visit := visitChannel_faults status ((railSample_iff _).2 rail) (by omega)
    refine ⟨_, exec_channelFault ?_, rfl, ?_⟩
    · rw [faultsAt, visit]; rfl
    · rw [scanStep_channel, visited, visit]
  · have visit := visitChannel_recovers status (mt (railSample_iff _).1 good) (by omega)
    refine ⟨_, exec_channelRecover ?_, rfl, ?_⟩
    · rw [recoversAt, visit]; rfl
    · rw [scanStep_channel, visited, visit, useSample_beginSettling]; exact ⟨rfl, rfl⟩
  · have visit := visitChannel_good (.inl status) (mt (railSample_iff _).1 good)
    have valid : (visitChannel s.channels[n] samples[n].toNat).1.status = .valid ∧
        (visitChannel s.channels[n] samples[n].toNat).1.settle = 8 := by
      rw [visit, corrected_sample, status, count]; exact ⟨rfl, rfl⟩
    refine ⟨_, exec_channelValid ?_, rfl, ?_⟩
    · rw [validAt, status, valid.1]; rfl
    · rw [scanStep_channel, visited]; exact valid
  · obtain ⟨-, counted, demand, -⟩ := computeClimate_heat_blind blind
    refine ⟨_, exec_heatBlindDemand ?_, rfl, ?_⟩
    · rw [heatDemandDue, (heatBlindNow_iff s).2 blind, count]; rfl
    · rw [computeStep_climate, demand, counted, count]; exact ⟨rfl, rfl⟩
  · obtain ⟨counted, demand, -⟩ := computeClimate_dehum_blind blind
    refine ⟨_, exec_moistureBlindDemand ?_, rfl, ?_⟩
    · rw [moistureDemandDue, (moistBlindNow_iff s).2 blind, count]; rfl
    · rw [computeStep_climate, demand, counted, count]; exact ⟨rfl, rfl⟩

end Sys2Proof.Machine
end

section
/-! The CLIMATE_CFG write (R26) and the water record (R33, R34). -/

namespace Sys2Proof.Machine

/-! ## Two-byte fields on the wire (R172) -/

theorem half_extractLsb' (v : Half) : half (v.extractLsb' 0 8) (v.extractLsb' 8 8) = v :=
  (BitVec.extractLsb'_append_extractLsb'_eq_extractLsb' rfl).trans BitVec.extractLsb'_eq_self

theorem halves_fieldBytes (fs : List Half) : halves (fieldBytes fs) = some fs := by
  induction fs with
  | nil => rfl
  | cons f fs ih =>
    show (halves (fieldBytes fs)).map _ = _
    rw [ih, half_extractLsb']; rfl

theorem fieldBytes_injective : Function.Injective fieldBytes := fun a b h =>
  Option.some.inj (by rw [← halves_fieldBytes, h, halves_fieldBytes])

theorem ofNat_eq_half_iff {n : Nat} (h : n < 65536) (f : Half) : BitVec.ofNat 16 n = f ↔ n = f.toNat := by
  rw [← BitVec.toNat_inj, BitVec.toNat_ofNat, Nat.mod_eq_of_lt h]

theorem ofInt_eq_half_iff {v : Int} (lo : -32768 ≤ v) (hi : v < 32768) (f : Half) :
    BitVec.ofInt 16 v = f ↔ v = f.toInt := by
  rw [← BitVec.toInt_inj, BitVec.toInt_ofInt, Int.bmod_eq_of_le (by omega) (by omega)]

/-! ## The CLIMATE_CFG write (R26) -/

theorem exec_writeItemClimateCfg {p : PortId} {n : Byte} {fs : List Half} {s t : State} {r : Result}
    (h : Served s p (.writeItemClimateCfg p n fs)) (own : ownWriteClimateCfg n fs s = (t, answer r)) :
    exec (.writeItemClimateCfg p n fs) s = .next (reply p 3 r t) :=
  congrArg _ (requestStep_of_answer h own)

/-- The CLIMATE_CFG record is its eighteen fields in the order of R26. -/
theorem climateCfgRecord_eq_fieldBytes (g : ClimateCfg) : climateCfgRecord g = fieldBytes
    [BitVec.ofNat 16 g.substituteDrop, BitVec.ofNat 16 g.waterHold, BitVec.ofInt 16 g.fallbackWater,
      BitVec.ofInt 16 g.dayOffset, BitVec.ofInt 16 g.nightOffset, BitVec.ofInt 16 g.sLo, BitVec.ofInt 16 g.sHi,
      BitVec.ofInt 16 g.serviceSetpoint, BitVec.ofNat 16 g.kp, BitVec.ofNat 16 g.ki, BitVec.ofNat 16 g.kc,
      BitVec.ofNat 16 g.kl, BitVec.ofNat 16 g.dayTarget, BitVec.ofNat 16 g.nightTarget, BitVec.ofNat 16 g.kr,
      BitVec.ofNat 16 g.kg, BitVec.ofNat 16 g.mSet, BitVec.ofNat 16 g.slew] := by
  simp only [climateCfgRecord, natField, intField, fieldBytes, List.flatMap_cons, List.flatMap_nil, List.append_nil,
    List.append_assoc]

section
variable (f0 f1 f2 f3 f4 f5 f6 f7 f8 f9 f10 f11 f12 f13 f14 f15 f16 f17 : Half)

/-- R26: the configuration that eighteen fields give, each clamped into its range. -/
def clampedCfg : ClimateCfg :=
  { substituteDrop := min f0.toNat 200, waterHold := max 60 (min f1.toNat 7200),
    fallbackWater := max 150 (min f2.toInt 380), dayOffset := max (-50) (min f3.toInt 100),
    nightOffset := max (-50) (min f4.toInt 100), sLo := max 150 (min f5.toInt 400),
    sHi := max 150 (min f6.toInt 400), serviceSetpoint := max 150 (min f7.toInt 400), kp := min f8.toNat 100,
    ki := min f9.toNat 50, kc := min f10.toNat 500, kl := min f11.toNat 20, dayTarget := max 300 (min f12.toNat 900),
    nightTarget := max 300 (min f13.toNat 900), kr := min f14.toNat 100, kg := min f15.toNat 100,
    mSet := min f16.toNat 200, slew := max 10 (min f17.toNat 1000) }

/-- The model's flag for a clamped field says that the record reads otherwise than it was written: no clamped value
leaves the range of its field, so a field that reads the same is one that was not clamped. -/
theorem climateCfgOf_eighteen :
    let fs := [f0, f1, f2, f3, f4, f5, f6, f7, f8, f9, f10, f11, f12, f13, f14, f15, f16, f17]
    let cfg := clampedCfg f0 f1 f2 f3 f4 f5 f6 f7 f8 f9 f10 f11 f12 f13 f14 f15 f16 f17
    climateCfgOf fs = some (cfg, !decide (climateCfgRecord cfg = fieldBytes fs)) := by
  simp only [climateCfgOf, clampedCfg, climateCfgRecord_eq_fieldBytes, fieldBytes_injective.eq_iff,
    List.cons.injEq, and_true]
  simp (disch := omega) only [clampNat_eq, clampInt_eq, ofNat_eq_half_iff, ofInt_eq_half_iff, Bool.decide_and,
    Bool.and_assoc, Nat.zero_max]

end

/-- Settles O18: the three refusals, then the clamped configuration. -/
theorem climateConfigurationWrite : Obligations.ClimateConfigurationWrite := by
  intro p n f0 f1 f2 f3 f4 f5 f6 f7 f8 f9 f10 f11 f12 f13 f14 f15 f16 f17 s fs served lo hi cfg
  have formed : climateCfgOf fs = some (cfg, !decide (climateCfgRecord cfg = fieldBytes fs)) :=
    climateCfgOf_eighteen ..
  refine ⟨fun index => exec_writeItemClimateCfg served ?_, fun index busy => exec_writeItemClimateCfg served ?_,
    fun index idle inverted => exec_writeItemClimateCfg served ?_,
    fun index idle ordered => exec_writeItemClimateCfg served ?_⟩
  · rw [ownWriteClimateCfg, if_pos index]; rfl
  · rw [ownWriteClimateCfg, if_neg (not_not.2 index), if_pos busy]; rfl
  · rw [ownWriteClimateCfg, if_neg (not_not.2 index), if_neg (by simp [idle]), formed]
    exact if_pos inverted
  · rw [ownWriteClimateCfg, if_neg (not_not.2 index), if_neg (by simp [idle]), formed,
      ← okOrClamped_eq (!decide (climateCfgRecord cfg = fieldBytes fs)) _ (by simp)]
    exact if_neg (not_lt.2 ordered)

/-! ## The water record (R33, R34) -/

theorem ownReportWater_eq (v : Half) (s : State) : ownReportWater v s =
    ({ s with water := ⟨some (max 150 (min v.toInt 380)), 0, false⟩ },
     answer (if 150 ≤ v.toInt ∧ v.toInt ≤ 380 then .ok else .clamped)) := by
  simp only [ownReportWater, clampInt_eq (show (150 : Int) ≤ 380 by omega)]
  rw [okOrClamped_eq _ (150 ≤ v.toInt ∧ v.toInt ≤ 380) (by simp; omega)]

/-- R34: the age after a second. -/
def nextAge (w : Water) : Nat := if w.age < 7200 then w.age + 1 else w.age

/-- R34: the second of the water record as a change of that record and its own timer. -/
theorem waterStep_eq (s : State) : waterStep s =
    { elapse s.timers.water s with
      timers := { (elapse s.timers.water s).timers with water := 100 }
      water := ⟨s.water.reported, nextAge s.water,
        s.water.stale || decide (s.climateCfg.waterHold ≤ nextAge s.water)⟩ } := by
  obtain ⟨-, -, cfg, water, -⟩ := elapse_frame s.timers.water s
  simp only [waterStep, waterSecond, cfg, water, nextAge]
  rfl

theorem staleDue_of_old {s : State} (fresh : s.water.stale = false) (old : s.climateCfg.waterHold ≤ nextAge s.water) :
    staleDue s = true := by
  have set : (waterSecond s).water.stale = true := by
    rw [nextAge] at old
    simp [waterSecond, old]
  rw [staleDue, fresh, set]; rfl

theorem exec_waterStale {s : State} (h : staleDue s = true) : exec .waterStale s = .next (waterStep s) :=
  next_outcomeStep h _ _

/-- Settles O27: the report by its owner, the second by its step, the row by log 16. -/
theorem waterReportAndAge : Obligations.WaterReportAndAge := by
  refine ⟨fun p v s served => congrArg _ (requestStep_of_answer served (ownReportWater_eq v s)), fun s => ⟨?_, ?_⟩⟩
  · exact congrArg _ (waterStep_eq s)
  · intro fresh old
    refine ⟨(exec_waterStale (staleDue_of_old fresh old)).trans (congrArg _ (waterStep_eq s)), ?_⟩
    simp [old]

end Sys2Proof.Machine
end

section
/-! The dew point and the saturation pressure (R28, R29, Table 2-1). -/

namespace Sys2Proof.Machine

/-! ## The saturation table -/

theorem esAt_lt_succ : ∀ i < 24, esAt i < esAt (i + 1) := by decide

theorem esAt_le_esAt {i j : Nat} (h : i ≤ j) (top : j ≤ 24) : esAt i ≤ esAt j := by
  induction j, h using Nat.le_induction with
  | base => exact le_rfl
  | succ j _ ih => exact (ih (by omega)).trans (esAt_lt_succ j (by omega)).le

/-! ## The saturation pressure (R28) -/

/-- R28: the pressure at a temperature within the table's range, by interpolation between two entries. -/
def interpolated (tc : Nat) : Nat :=
  esAt (tc / 20) + (esAt (tc / 20 + 1) - esAt (tc / 20)) * (tc % 20) / 20

/-- The table's top is the interpolation at its own index. -/
theorem saturationAt_eq_interpolated (t : Int) : saturationAt t = interpolated (clampInt t 0 480).toNat := by
  have rest (tc : Nat) : tc - 20 * (tc / 20) = tc % 20 := by omega
  simp only [saturationAt, interpolated, rest]
  have range : (clampInt t 0 480).toNat ≤ 480 := by rw [clampInt_eq (by omega)]; omega
  split
  · have top : (clampInt t 0 480).toNat = 480 := by omega
    rw [top]; rfl
  · rfl

theorem esAt_le_interpolated (tc : Nat) : esAt (tc / 20) ≤ interpolated tc := Nat.le_add_right ..

theorem interpolated_le_next {tc : Nat} (h : tc < 480) : interpolated tc ≤ esAt (tc / 20 + 1) := by
  have rise := esAt_lt_succ (tc / 20) (by omega)
  have part : (esAt (tc / 20 + 1) - esAt (tc / 20)) * (tc % 20) / 20 ≤ esAt (tc / 20 + 1) - esAt (tc / 20) :=
    Nat.div_le_of_le_mul (by rw [Nat.mul_comm 20]; exact Nat.mul_le_mul_left _ (by omega))
  unfold interpolated; omega

/-- Within one interval the interpolation rises, and an interval ends where the next one begins. -/
theorem interpolated_mono {a b : Nat} (h : a ≤ b) (top : b ≤ 480) : interpolated a ≤ interpolated b := by
  rcases (Nat.div_le_div_right h : a / 20 ≤ b / 20).eq_or_lt with same | below
  · have : a % 20 ≤ b % 20 := by omega
    unfold interpolated; rw [same]; gcongr
  · calc interpolated a ≤ esAt (a / 20 + 1) := interpolated_le_next (by omega)
      _ ≤ esAt (b / 20) := esAt_le_esAt below (by omega)
      _ ≤ interpolated b := esAt_le_interpolated b

theorem saturationAt_mono {a b : Int} (h : a ≤ b) : saturationAt a ≤ saturationAt b := by
  rw [saturationAt_eq_interpolated, saturationAt_eq_interpolated]
  apply interpolated_mono <;> simp only [clampInt_eq (show (0 : Int) ≤ 480 by omega)] <;> omega

/-! ## The dew point of a pressure (R29) -/

/-- In a rising list the entries up to e are those that `takeWhile` keeps. -/
theorem lt_length_takeWhile_iff {l : List Nat} (rising : l.Pairwise (· < ·)) (e : Nat) {j : Nat} (hj : j < l.length) :
    j < (l.takeWhile fun x => x ≤ e).length ↔ l[j] ≤ e := by
  induction l generalizing j with
  | nil => simp at hj
  | cons x xs ih =>
    obtain ⟨least, rest⟩ := List.pairwise_cons.1 rising
    by_cases hx : x ≤ e
    · cases j with
      | zero => simp [hx]
      | succ j => simpa [List.takeWhile_cons, hx] using ih rest (by simpa using hj)
    · have above : x ≤ (x :: xs)[j] := by
        cases j with
        | zero => exact le_rfl
        | succ j => exact (least _ (List.getElem_mem _)).le
      simp only [List.takeWhile_cons, hx, decide_false, Bool.false_eq_true, if_false, List.length_nil]
      omega

/-- The index of R29 is the largest whose table entry the pressure reaches. -/
theorem le_dewIndex_iff {e j : Nat} (low : 611 ≤ e) (hj : j ≤ 24) : j ≤ dewIndex e ↔ esAt j ≤ e := by
  have rising : Config.saturation.Pairwise (· < ·) := by decide
  have entry {i : Nat} (hi : i ≤ 24) :
      i < (Config.saturation.takeWhile fun x => x ≤ e).length ↔ esAt i ≤ e := by
    have inside : i < Config.saturation.length := Nat.lt_succ_of_le hi
    rw [lt_length_takeWhile_iff rising e inside, esAt, List.getD_eq_getElem _ _ inside]
  have first := (entry (i := 0) (by omega)).2 low
  rw [← entry hj, dewIndex]
  omega

theorem dewIndex_mono {e f : Nat} (h : e ≤ f) (low : 611 ≤ e) (high : dewIndex e ≤ 24) : dewIndex e ≤ dewIndex f :=
  (le_dewIndex_iff (low.trans h) high).2 (((le_dewIndex_iff low high).1 le_rfl).trans h)

theorem dewIndex_lt {e : Nat} (low : 611 ≤ e) (high : e < 11171) : dewIndex e < 24 := by
  by_contra top
  exact absurd ((le_dewIndex_iff low le_rfl).1 (not_lt.1 top)) (not_le.2 high)

theorem dewOfPressure_of_low {e : Nat} (h : e < 611) : dewOfPressure e = 0 := if_pos h

theorem dewOfPressure_of_high {e : Nat} (h : 11171 ≤ e) : dewOfPressure e = 480 := by
  rw [dewOfPressure, if_neg (by omega), if_pos h]

theorem dewOfPressure_of_mid {e : Nat} (low : 611 ≤ e) (high : e < 11171) : dewOfPressure e =
    20 * dewIndex e + 20 * (e - esAt (dewIndex e)) / (esAt (dewIndex e + 1) - esAt (dewIndex e)) := by
  rw [dewOfPressure, if_neg (by omega), if_neg (by omega)]

/-- Within the table's range the dew point lies in the interval that the index begins. -/
theorem dewOfPressure_bounds {e : Nat} (low : 611 ≤ e) (high : e < 11171) :
    20 * dewIndex e ≤ dewOfPressure e ∧ dewOfPressure e < 20 * (dewIndex e + 1) := by
  have index := dewIndex_lt low high
  have above : e < esAt (dewIndex e + 1) :=
    not_le.1 (mt (le_dewIndex_iff low index).2 (by omega))
  have entry := (le_dewIndex_iff low index.le).1 le_rfl
  have part : 20 * (e - esAt (dewIndex e)) / (esAt (dewIndex e + 1) - esAt (dewIndex e)) < 20 :=
    Nat.div_lt_of_lt_mul (by omega)
  rw [dewOfPressure_of_mid low high]
  exact ⟨Nat.le_add_right .., by rw [Nat.mul_succ]; exact Nat.add_lt_add_left part _⟩

theorem dewOfPressure_le (e : Nat) : dewOfPressure e ≤ 480 := by
  by_cases low : e < 611
  · rw [dewOfPressure_of_low low]; omega
  by_cases high : e < 11171
  · have bounds := dewOfPressure_bounds (not_lt.1 low) high
    have index := dewIndex_lt (not_lt.1 low) high
    omega
  · exact (dewOfPressure_of_high (not_lt.1 high)).le

/-- Within one interval the quotient rises, and below a later interval the dew point has not reached it. -/
theorem dewOfPressure_mono {e f : Nat} (h : e ≤ f) : dewOfPressure e ≤ dewOfPressure f := by
  by_cases low : e < 611
  · rw [dewOfPressure_of_low low]; omega
  by_cases high : f < 11171
  · have lowE := not_lt.1 low
    have lowF := lowE.trans h
    have highE := h.trans_lt high
    rcases (dewIndex_mono h lowE (dewIndex_lt lowE highE).le).eq_or_lt with same | below
    · rw [dewOfPressure_of_mid lowE highE, dewOfPressure_of_mid lowF high, same]
      gcongr
    · have upper := (dewOfPressure_bounds lowE highE).2
      have lower := (dewOfPressure_bounds lowF high).1
      omega
  · rw [dewOfPressure_of_high (not_lt.1 high)]
    exact dewOfPressure_le e

/-! ## The dew point of a zone -/

theorem clampRh_mono {a b : Int} (h : a ≤ b) : clampRh a ≤ clampRh b := by
  simp only [clampRh, clampInt_eq (show (0 : Int) ≤ 1000 by omega)]; omega

theorem vapourPressure_mono (t : Int) {a b : Int} (h : a ≤ b) : vapourPressure t a ≤ vapourPressure t b :=
  Nat.div_le_div_right (Nat.mul_le_mul_right _ (clampRh_mono h))

theorem zoneAir_dew_mono (t : Int) {a b : Int} (h : a ≤ b) : (zoneAir t a).dew ≤ (zoneAir t b).dew :=
  min_le_min_right t (Int.ofNat_le.2 (dewOfPressure_mono (vapourPressure_mono t h)))

theorem zoneAir_dew_le (t rh : Int) : (zoneAir t rh).dew ≤ t := min_le_right ..

/-- Settles O39: the 25 entries are evaluated; the laws follow from the rise of the table. -/
theorem dewPointInvertsTheTable : Obligations.DewPointInvertsTheTable :=
  ⟨by decide, fun _ _ => dewOfPressure_mono, fun _ _ => saturationAt_mono, dewOfPressure_le,
    fun t _ b h => ⟨zoneAir_dew_mono t h, zoneAir_dew_le t b⟩⟩

end Sys2Proof.Machine
end

section
/-! Layers that are emptied and targets that are formed again (R57, R137, R138, R142). -/

namespace Sys2Proof.Machine

/-! ## The layer list -/

theorem getLayer_setLayer (k j : Layer) (v : Option Standing) (l : Layers) :
    getLayer (setLayer k v l) j = if j = k then v else getLayer l j := by
  cases k <;> cases j <;> rfl

theorem getLayer_dropLayers (rs : List (Layer × Standing)) (l : Layers) (j : Layer) :
    getLayer (dropLayers rs l) j = if j ∈ rs.map Prod.fst then none else getLayer l j := by
  induction rs generalizing l with
  | nil => rfl
  | cons r rs ih =>
    have step : dropLayers (r :: rs) l = dropLayers rs (setLayer r.1 none l) := rfl
    rw [step, ih, getLayer_setLayer, List.map_cons]
    by_cases here : j = r.1
    · simp [here]
    · have later : j ∈ r.1 :: rs.map Prod.fst ↔ j ∈ rs.map Prod.fst := by simp only [List.mem_cons, here, false_or]
      rw [if_neg here, if_congr later rfl rfl]

/-- R57, R130: the rejected layers are those beside SAFETY whose scene the test rejects. -/
theorem mem_rejected {l : Lighting} {bad : Nat → Bool} {r : Layer × Standing} :
    r ∈ rejected l bad ↔ r.1 ≠ .safety ∧ getLayer l.layers r.1 = some r.2 ∧ bad r.2.scene = true := by
  obtain ⟨k, st⟩ := r
  have listed : k ∈ [Layer.base, .showing, .work] ↔ k ≠ .safety := by cases k <;> decide
  rw [rejected, List.mem_filterMap, ← listed]
  constructor
  · rintro ⟨j, inList, found⟩
    split at found
    · rename_i standing
      split at found
      · rename_i isBad
        cases found
        exact ⟨inList, standing, isBad⟩
      · cases found
    · cases found
  · rintro ⟨inList, standing, isBad⟩
    exact ⟨k, inList, by simp only [standing, isBad, if_true]⟩

theorem rejected_eq_nil_iff {l : Lighting} {bad : Nat → Bool} :
    rejected l bad = [] ↔
      ∀ k : Layer, k ≠ .safety → ∀ st, getLayer l.layers k = some st → bad st.scene = false := by
  rw [List.eq_nil_iff_forall_not_mem]
  constructor
  · exact fun none k beside st standing => Bool.eq_false_iff.2 fun isBad =>
      none (k, st) (mem_rejected.2 ⟨beside, standing, isBad⟩)
  · intro good r mem
    obtain ⟨beside, standing, isBad⟩ := mem_rejected.1 mem
    exact absurd isBad (Bool.eq_false_iff.1 (good r.1 beside r.2 standing))

/-- SAFETY is never among the rejected layers. -/
theorem dropLayers_rejected_safety (l : Lighting) (bad : Nat → Bool) :
    (dropLayers (rejected l bad) l.layers).safety = l.layers.safety := by
  have absent : Layer.safety ∉ (rejected l bad).map Prod.fst := by
    intro mem
    obtain ⟨r, inList, same⟩ := List.mem_map.1 mem
    exact (mem_rejected.1 inList).1 same
  exact (getLayer_dropLayers _ l.layers .safety).trans (if_neg absent)

/-- R57, R130: a layer keeps a scene that the test accepts. -/
theorem getLayer_dropLayers_rejected (l : Lighting) (bad : Nat → Bool) {k : Layer} (beside : k ≠ .safety) :
    getLayer (dropLayers (rejected l bad) l.layers) k =
      (getLayer l.layers k).filter fun st => !bad st.scene := by
  have dropped : k ∈ (rejected l bad).map Prod.fst ↔ ∃ st, getLayer l.layers k = some st ∧ bad st.scene = true := by
    simp only [List.mem_map, Prod.exists, mem_rejected, exists_and_right, exists_eq_right]
    simp [beside]
  rw [getLayer_dropLayers, if_congr dropped rfl rfl]
  cases getLayer l.layers k with
  | none => simp
  | some st => cases isBad : bad st.scene <;> simp [isBad, Option.filter_some]

/-! ## Targets formed again (R137, R138, R142) -/

/-- The level and source layer of a group depend on the layers and the scenes alone. -/
theorem resolve_congr {a b : Lighting} (layers : a.layers = b.layers) (scenes : a.scenes = b.scenes) (g : Nat) :
    resolve a g = resolve b g := by
  simp only [resolve, layerLevel, sceneAt, layers, scenes]

theorem takeTarget_cfg (target : Nat) (source : Option Layer) (duration : Nat) (g : Group) :
    (takeTarget target source duration g).cfg = g.cfg := by
  unfold takeTarget; split <;> (try split) <;> rfl

theorem takeTarget_target (target : Nat) (source : Option Layer) (duration : Nat) (g : Group) :
    (takeTarget target source duration g).target = target := by
  unfold takeTarget
  split
  · rename_i same; exact same.symm
  · split <;> rfl

theorem takeTarget_source (target : Nat) (source : Option Layer) (duration : Nat) (g : Group) :
    (takeTarget target source duration g).source = source := by
  unfold takeTarget; split <;> (try split) <;> rfl

theorem takeTarget_same {target : Nat} {g : Group} (same : target = g.target) (source : Option Layer) (duration : Nat) :
    takeTarget target source duration g = { g with source := source } := if_pos same

/-- R138: a group that changes its target starts its fade from where it stands; without a fade time it is there at
once. -/
theorem takeTarget_new {target : Nat} {g : Group} (new : target ≠ g.target) (source : Option Layer) (duration : Nat) :
    let h := takeTarget target source duration g
    if duration = 0 then h.current = target ∧ h.fade = none
    else h.current = g.current ∧ h.fade = some ⟨g.current, 0, duration⟩ := by
  simp only [takeTarget, if_neg new]
  split <;> exact ⟨rfl, rfl⟩

/-- What retarget does to one group, before the cap. -/
theorem retarget_groups (duration : Group → Option Layer → Nat) (l : Lighting) (g : GroupId) :
    (retarget duration l).groups[g] =
      { takeTarget (max (resolve l g).1 l.groups[g].cfg.floor) (resolve l g).2
          (duration l.groups[g] (resolve l g).2) l.groups[g] with
        applied := ((retarget duration l).groups[g]).applied } := by
  rw [retarget, evalCap_groups]
  simp only [Fin.getElem_fin, Vector.getElem_mapFinIdx]

/-- R137, R138, R142: a change of the layers that forms the targets again, each group with a fade time that its former
record and its new source layer give. -/
theorem retarget_retargetedBy (duration : Group → Option Layer → Nat) (a : Lighting) (layers : Layers) :
    RetargetedBy (fun g => duration a.groups[g] (resolve { a with layers := layers } g).2) a
      (retarget duration { a with layers := layers }) := by
  generalize hb : retarget duration { a with layers := layers } = b
  have resolved (g : Nat) : resolve b g = resolve { a with layers := layers } g := by
    subst hb; exact resolve_congr rfl rfl g
  refine ⟨hb ▸ rfl, hb ▸ rfl, hb ▸ rfl, hb ▸ rfl, hb ▸ evalCap_sound _, hb ▸ rfl, fun g => ?_⟩
  have group := retarget_groups duration { a with layers := layers } g
  rw [hb] at group
  rw [resolved, group]
  simp only [takeTarget_cfg, takeTarget_target, takeTarget_source, true_and]
  exact ⟨fun same => by rw [takeTarget_same same]; exact ⟨rfl, rfl⟩, fun new => takeTarget_new new _ _⟩

end Sys2Proof.Machine
end

section
/-! The hall mode (R49, R51, R54 to R57) and the start settings (R50, R136). -/

namespace Sys2Proof.Machine

/-! ## The start settings (R50, R136) -/

theorem exec_setModeStart {p : PortId} {mode : Byte} {s t : State} {r : Result} (h : Served s p (.setModeStart p mode))
    (own : ownSetModeStart mode s = (t, answer r)) : exec (.setModeStart p mode) s = .next (reply p 0x10 r t) :=
  congrArg _ (requestStep_of_answer h own)

/-- A start setting is written: a number out of range, then a running store refuses it. -/
theorem requestStep_of_setting {p : PortId} {c : Instr} {s t : State} {beyond : Prop} [Decidable beyond]
    (h : Served s p c) (own : ownerServe c s =
      if beyond then refuse .badItem s else if s.store.busy then refuse .busy s else (t, answer .ok)) :
    requestStep p c s =
      if beyond then reply p (requestCode c) .badItem s
      else if s.store.busy = true then reply p (requestCode c) .busy s
      else reply p (requestCode c) .ok t := by
  by_cases number : beyond
  · rw [if_pos number] at own ⊢
    exact requestStep_of_answer h own
  · rw [if_neg number] at own ⊢
    by_cases busy : s.store.busy = true
    · rw [if_pos busy] at own ⊢
      exact requestStep_of_answer h own
    · rw [if_neg busy] at own ⊢
      exact requestStep_of_answer h own

/-- Settles O26: each request by its refusals in order, then the setting it replaces. -/
theorem startSettingsRequests : Obligations.StartSettingsRequests := by
  refine ⟨fun p mode s served => ⟨fun bad => exec_setModeStart served ?_, fun m known start => ?_⟩,
    fun p n s served => congrArg _ (requestStep_of_setting served rfl),
    fun p n s served => congrArg _ (requestStep_of_setting served rfl)⟩
  · rcases bad with unknown | preopen
    · rw [ownSetModeStart, unknown]; rfl
    · rw [ownSetModeStart, preopen]; rfl
  · split
    · rename_i busy
      exact exec_setModeStart served (by simp only [ownSetModeStart, known, if_neg start, if_pos busy]; rfl)
    · rename_i idle
      exact exec_setModeStart served (by simp only [ownSetModeStart, known, if_neg start, if_neg idle])

/-! ## The change of hall mode at the programme (R55, R56) -/

/-- R55: the programme stands where a change into PREOPEN begins a pre-open purge. -/
def NightPhase (c : Cover) : Prop := c.prog = .settle ∨ c.prog = .purge ∨ c.prog = .rest ∨ c.prog = .alert

/-- R56: the change of mode ends a pre-open purge that a mode began. -/
def CancelsPurge (old new : Mode) (c : Cover) : Prop :=
  old = .preopen ∧ (new = .night ∨ new = .service) ∧ c.prog = .preopen ∧ c.origin = some .mode

section
variable {s : State} {old new : Mode}

theorem coverModeEvent_begins (night : NightPhase s.cover) : (coverModeEvent old .preopen s).cover =
    { cleared .preopen s.cover with
      origin := some .mode
      preopenAcc := if s.cover.prog = .purge then min s.cover.counted s.cover.cfg.preopenTime else 0 } := by
  have begun : coverModeEvent old .preopen s = enterPreopen .mode s := by
    rcases night with h | h | h | h <;> simp only [coverModeEvent, preopenByMode, h, if_true]
  rw [begun]; rfl

theorem coverModeEvent_cancels (cancel : CancelsPurge old new s.cover) :
    (coverModeEvent old new s).cover = cleared (nightState s .rest) s.cover := by
  obtain ⟨left, dark, begun⟩ := cancel
  have other : new ≠ .preopen := by rcases dark with rfl | rfl <;> decide
  rw [coverModeEvent, if_neg other, if_pos ⟨left, dark⟩, cancelByMode, if_pos begun]; rfl

theorem coverModeEvent_keeps (notBegun : ¬(new = .preopen ∧ NightPhase s.cover))
    (notCancelled : ¬CancelsPurge old new s.cover) : coverModeEvent old new s = s := by
  unfold coverModeEvent
  split
  · rename_i preopen
    have phase : ¬NightPhase s.cover := fun night => notBegun ⟨preopen, night⟩
    cases prog : s.cover.prog
    case settle | purge | rest | alert => exact absurd (by simp [NightPhase, prog]) phase
    case preopen | released | idle | disagree => simp only [preopenByMode, prog]
  · split
    · rename_i cancelling
      exact if_neg fun begun => notCancelled ⟨cancelling.1, cancelling.2, begun⟩
    · rfl

end

/-! ## The change of hall mode at the Scene Controller (R57) -/

/-- The LAYER_RELEASED notices as notices posted one after the other. -/
theorem postAllReleased_eq_postAll (rs : List (Layer × Standing)) (s : State) : postAllReleased rs s =
    postAll (rs.map fun r => (.layerReleased, layerCode r.1, (r.2.scene : Int))) s := by
  rw [postAllReleased, postAll, List.foldl_map]; rfl

/-- The layers that a change into mode m empties. -/
def releasedLayers (m : Mode) (l : Lighting) : List (Layer × Standing) :=
  rejected l fun n => !permits (sceneAt l n).modes m

theorem releasedLayers_eq_nil_iff {m : Mode} {l : Lighting} : releasedLayers m l = [] ↔
    ∀ k : Layer, k ≠ .safety → ∀ st, getLayer l.layers k = some st → permits (sceneAt l st.scene).modes m = true := by
  simp only [releasedLayers, rejected_eq_nil_iff, Bool.not_eq_false']

/-- R57: the model looks the fade time up in the list of released layers, the statement in the layer itself. -/
theorem releasedFade_eq_modeFade (m : Mode) (l : Lighting) (g : GroupId) :
    releasedFade l (releasedLayers m l) l.groups[g] = modeFade m l g := by
  unfold releasedFade modeFade
  split
  · rename_i r found
    have source : l.groups[g].source = some r.1 := by simpa using List.find?_some found
    obtain ⟨beside, standing, leaves⟩ := mem_rejected.1 (List.mem_of_find?_eq_some found)
    have closed : permits (sceneAt l r.2.scene).modes m = false := by simpa using leaves
    simp only [source, if_neg beside, standing, closed, Bool.false_eq_true, if_false]
  · rename_i absent
    split
    · rfl
    · rename_i k source
      split
      · rfl
      · rename_i beside
        split
        · rfl
        · rename_i st standing
          refine (if_pos ?_).symm
          by_contra leaves
          have mem : (k, st) ∈ releasedLayers m l := mem_rejected.2 ⟨beside, standing, by simpa using leaves⟩
          exact absurd (List.find?_eq_none.1 absent _ mem) (by simpa using source)

theorem lightModeEvent_light (m : Mode) (s : State) : (lightModeEvent m s).light =
    if releasedLayers m s.light = [] then s.light
    else retarget (fun g _ => releasedFade s.light (releasedLayers m s.light) g)
      { s.light with layers := dropLayers (releasedLayers m s.light) s.light.layers } := by
  rw [lightModeEvent]
  split
  · rename_i kept; exact (if_pos kept).symm
  · rename_i emptied
    refine Eq.trans ?_ (if_neg emptied).symm
    simp only [modLight_light, postAllReleased_frame]; rfl

theorem lightModeEvent_layers (m : Mode) (s : State) :
    (lightModeEvent m s).light.layers = dropLayers (releasedLayers m s.light) s.light.layers := by
  rw [lightModeEvent_light]
  split
  · rename_i kept; rw [kept]; rfl
  · rfl

theorem lightModeEvent_ports (m : Mode) (s : State) :
    (lightModeEvent m s).ports = (postAllReleased (releasedLayers m s.light) s).ports := by
  rw [lightModeEvent]
  split
  · rename_i kept
    have none : releasedLayers m s.light = [] := kept
    rw [none]; rfl
  · rfl

theorem lightModeEvent_retargetedBy {m : Mode} {s : State} (emptied : releasedLayers m s.light ≠ []) :
    RetargetedBy (modeFade m s.light) s.light (lightModeEvent m s).light := by
  have formed := retarget_retargetedBy (fun g _ => releasedFade s.light (releasedLayers m s.light) g) s.light
    (dropLayers (releasedLayers m s.light) s.light.layers)
  simp only [releasedFade_eq_modeFade] at formed
  rw [lightModeEvent_light, if_neg emptied]
  exact formed

/-! ## The change of hall mode (R51, R54) -/

theorem seqModeEvent_heaters (m : Mode) (s : State) (h : Fin 3) :
    (seqModeEvent m s).seq.heaters[h] = if m = .service then ⟨false, false⟩ else s.seq.heaters[h] := by
  unfold seqModeEvent; split <;> simp

theorem seqModeEvent_seq (m : Mode) (s : State) :
    (seqModeEvent m s).seq = { s.seq with heaters := (seqModeEvent m s).seq.heaters } := by
  unfold seqModeEvent; split <;> rfl

/-- R51: the change of the record, posted, before it is an event at the programme. -/
def modePosted (m : Mode) (s : State) : State :=
  post .modeChanged (modeCode m) (modeCode s.mode.mode)
    { s with mode := { s.mode with mode := m, previous := s.mode.mode, changeTime := s.pt } }

theorem changeMode_eq (m : Mode) (s : State) :
    changeMode m s = seqModeEvent m (lightModeEvent m (coverModeEvent s.mode.mode m (modePosted m s))) := rfl

theorem changeMode_mode (m : Mode) (s : State) : (changeMode m s).mode = ⟨m, s.mode.mode, s.pt, s.mode.startMode⟩ := by
  simp [changeMode]

theorem changeMode_heaters (m : Mode) (s : State) (h : Fin 3) :
    (changeMode m s).seq.heaters[h] = if m = .service then ⟨false, false⟩ else s.seq.heaters[h] := by
  rw [changeMode_eq, seqModeEvent_heaters]; simp [modePosted]

theorem changeMode_seq (m : Mode) (s : State) :
    (changeMode m s).seq = { s.seq with heaters := (changeMode m s).seq.heaters } := by
  rw [changeMode_eq, seqModeEvent_seq]; simp [modePosted]

theorem changeMode_cover (m : Mode) (s : State) :
    (changeMode m s).cover = (coverModeEvent s.mode.mode m (modePosted m s)).cover := by
  simp [changeMode_eq]

theorem changeMode_light (m : Mode) (s : State) : (changeMode m s).light = (lightModeEvent m s).light := by
  simp [changeMode_eq, lightModeEvent_light, modePosted]

theorem changeMode_ports (m : Mode) (s : State) : (changeMode m s).ports =
    (postAllReleased (releasedLayers m s.light) (post .modeChanged (modeCode m) (modeCode s.mode.mode) s)).ports := by
  have light : (coverModeEvent s.mode.mode m (modePosted m s)).light = s.light := by simp [modePosted]
  have ports : (coverModeEvent s.mode.mode m (modePosted m s)).ports =
      (post .modeChanged (modeCode m) (modeCode s.mode.mode) s).ports := by
    simp only [coverModeEvent_frame]
    exact post_ports_congr rfl rfl rfl ..
  simp only [changeMode_eq, seqModeEvent_frame, lightModeEvent_ports, light, postAllReleased_eq_postAll]
  exact postAll_ports_congr (by simp [modePosted]) (by simp [modePosted]) ports _

/-- R51: a change of hall mode touches the mode record, the heater stages, the cover record, the lighting and the
notices only. -/
theorem changeMode_touches (m : Mode) (s : State) : changeMode m s =
    { s with
      mode := (changeMode m s).mode, seq := (changeMode m s).seq, cover := (changeMode m s).cover
      light := (changeMode m s).light, ports := (changeMode m s).ports } := by
  have frame := changeMode_frame m s
  generalize changeMode m s = t at frame
  cases t
  simpa using frame

/-! ## SET_MODE with target HALL (R49) -/

theorem exec_setModeHall {p : PortId} {mode target : Byte} {s t : State} {r : Result}
    (h : Served s p (.setModeHall p mode target)) (own : ownSetModeHall mode target s = (t, answer r)) :
    exec (.setModeHall p mode target) s = .next (reply p 0x10 r t) :=
  congrArg _ (requestStep_of_answer h own)

section
variable {mode target : Byte} {s : State} {m : Mode}

theorem ownSetModeHall_bad (bad : modeOf mode = none ∨ target ≠ 0) :
    ownSetModeHall mode target s = (s, answer .badValue) := by
  unfold ownSetModeHall
  split
  · rfl
  · rename_i known
    exact if_pos (bad.resolve_left (by simp [known]))

theorem ownSetModeHall_same (known : modeOf mode = some m) (hall : target = 0) (same : m = s.mode.mode) :
    ownSetModeHall mode target s = (s, answer .ok) := by
  simp only [ownSetModeHall, known, if_neg (not_not.2 hall), if_pos same]

theorem ownSetModeHall_refused (known : modeOf mode = some m) (hall : target = 0) (new : m ≠ s.mode.mode)
    (barred : m = .preopen ∧ s.mode.mode ≠ .night) : ownSetModeHall mode target s = (s, answer .notInMode) := by
  simp only [ownSetModeHall, known, if_neg (not_not.2 hall), if_neg new, if_pos barred]; rfl

theorem ownSetModeHall_changes (known : modeOf mode = some m) (hall : target = 0) (new : m ≠ s.mode.mode)
    (free : m = .preopen → s.mode.mode = .night) : ownSetModeHall mode target s = (changeMode m s, answer .ok) := by
  simp only [ownSetModeHall, known, if_neg (not_not.2 hall), if_neg new,
    if_neg fun barred : m = .preopen ∧ s.mode.mode ≠ .night => barred.2 (free barred.1)]

end

/-- Settles O25: the refusals in order, then the change record by record. -/
theorem setModeChangesTheHall : Obligations.SetModeChangesTheHall := by
  intro p mode target s served
  refine ⟨fun bad => exec_setModeHall served (ownSetModeHall_bad bad), fun m known hall =>
    ⟨fun same => exec_setModeHall served (ownSetModeHall_same known hall same), fun preopen other notNight =>
      exec_setModeHall served (ownSetModeHall_refused known hall (preopen ▸ other.symm) ⟨preopen, notNight⟩),
      fun new free => ?_⟩⟩
  have coverKept : (modePosted m s).cover = s.cover := by simp [modePosted]
  refine ⟨changeMode m s, exec_setModeHall served (ownSetModeHall_changes known hall new free), ?_,
    changeMode_heaters m s, ?_, ?_, ?_, ?_, ?_, ?_, ?_⟩
  · have touches := changeMode_touches m s
    rw [changeMode_mode, changeMode_seq, changeMode_ports] at touches
    exact touches
  · rw [changeMode_light, lightModeEvent_layers]
    exact dropLayers_rejected_safety ..
  · intro k beside
    rw [changeMode_light, lightModeEvent_layers, releasedLayers,
      getLayer_dropLayers_rejected _ _ beside]
    cases getLayer s.light.layers k with
    | none => rfl
    | some st => simp only [Option.filter_some, Bool.not_not]
  · intro kept
    rw [changeMode_light, lightModeEvent_light, if_pos (releasedLayers_eq_nil_iff.2 kept)]
  · intro emptied
    rw [changeMode_light]
    exact lightModeEvent_retargetedBy (mt releasedLayers_eq_nil_iff.1 emptied)
  · rintro rfl night
    rw [changeMode_cover, coverModeEvent_begins (by rw [coverKept]; exact night), coverKept]
  · intro cancel
    rw [changeMode_cover, coverModeEvent_cancels (by rw [coverKept]; exact cancel), coverKept]
    rfl
  · intro notBegun notCancelled
    rw [changeMode_cover, coverModeEvent_keeps (by rw [coverKept]; exact notBegun)
      (by rw [coverKept]; exact notCancelled), coverKept]

end Sys2Proof.Machine
end

section
/-! The requests on the allowance, the draws and the energy counts (R60, R62, R83). -/

namespace Sys2Proof.Machine

/-- Settles O15: the allowance is a setting behind two refusals; clearing the counters is refused by nothing. -/
theorem allowanceWriteAndClearCounters : Obligations.AllowanceWriteAndClearCounters := by
  refine ⟨fun p n v s served => congrArg _ (requestStep_of_setting served rfl),
    fun p s served => ⟨_, congrArg _ (requestStep_of_answer served rfl), fun k => ?_⟩⟩
  exact Vector.getElem_map ..

/-! ## The CONSUMER write (R62) -/

theorem exec_writeItemConsumer {p : PortId} {n : Byte} {ds : List Half} {s t : State} {r : Result}
    (h : Served s p (.writeItemConsumer p n ds)) (own : ownWriteConsumer n ds s = (t, answer r)) :
    exec (.writeItemConsumer p n ds) s = .next (reply p 3 r t) :=
  congrArg _ (requestStep_of_answer h own)

theorem fanOrdered_iff (a b c d : Nat) : fanOrdered a b c d = true ↔ a ≤ b ∧ b ≤ c ∧ c ≤ d := by
  simp [fanOrdered, and_assoc]

theorem setIfInBounds_fin {n : Nat} (ds : Vector Nat n) (k : Fin n) (x : Nat) :
    ds.setIfInBounds k x = ds.set k x :=
  Vector.ext fun i h => by rw [Vector.getElem_setIfInBounds, Vector.getElem_set]

section
variable {n : Byte} {s : State}

theorem ownWriteConsumer_of_index (ds : List Half) (beyond : 7 ≤ n.toNat) :
    ownWriteConsumer n ds s = (s, answer .badItem) := by
  rw [ownWriteConsumer, if_pos (by omega)]; rfl

theorem ownWriteConsumer_of_busy (ds : List Half) (known : n.toNat < 7) (busy : s.store.busy = true) :
    ownWriteConsumer n ds s = (s, answer .busy) := by
  rw [ownWriteConsumer, if_neg (by omega), if_pos busy]; rfl

/-- R62: the four draws of FAN, each clamped: refused out of order, stored in order. -/
theorem ownWriteConsumer_fan (idle : s.store.busy = false) (a b c d : Half) :
    ownWriteConsumer 0 [a, b, c, d] s =
      if fanOrdered (min a.toNat 5000) (min b.toNat 5000) (min c.toNat 5000) (min d.toNat 5000) = false then
        (s, answer .badValue)
      else
        ({ s with alloc := { s.alloc with draws := { s.alloc.draws with
            fan := #v[min a.toNat 5000, min b.toNat 5000, min c.toNat 5000, min d.toNat 5000] } } },
         answer (if a.toNat ≤ 5000 ∧ b.toNat ≤ 5000 ∧ c.toNat ≤ 5000 ∧ d.toNat ≤ 5000 then .ok else .clamped)) := by
  rw [ownWriteConsumer, if_neg (by decide), if_neg (by simp [idle]), ← okOrClamped_eq
    ([min a.toNat 5000, min b.toNat 5000, min c.toNat 5000, min d.toNat 5000] != [a.toNat, b.toNat, c.toNat, d.toNat])
    _ (by simp)]
  rfl

/-- R62: the draw of one item, clamped. -/
theorem ownWriteConsumer_item (idle : s.store.busy = false) {k : Fin 6} (index : n.toNat = k.val + 1) (a : Half) :
    ownWriteConsumer n [a] s =
      ({ s with alloc := { s.alloc with
          draws := { s.alloc.draws with items := s.alloc.draws.items.set k (min a.toNat 5000) } } },
       answer (if a.toNat ≤ 5000 then .ok else .clamped)) := by
  rw [ownWriteConsumer, if_neg (by omega), if_neg (by simp [idle]),
    ← okOrClamped_eq ([min a.toNat 5000] != [a.toNat]) _ (by simp)]
  simp only [index, List.map_cons, List.map_nil, modAlloc, setIfInBounds_fin]

end

/-- Settles O19: two refusals, then FAN's draws by their order, or the draw of one item. -/
theorem consumerDrawWrite : Obligations.ConsumerDrawWrite := by
  refine ⟨fun p n ds s served => ⟨fun beyond => exec_writeItemConsumer served (ownWriteConsumer_of_index ds beyond),
    fun known busy => exec_writeItemConsumer served (ownWriteConsumer_of_busy ds known busy)⟩,
    fun p a b c d s served idle => ⟨fun disordered => exec_writeItemConsumer served ?_,
      fun xy yz zw => exec_writeItemConsumer served ?_⟩,
    fun p n a k s served index idle => exec_writeItemConsumer served (ownWriteConsumer_item idle index a)⟩
  · rw [ownWriteConsumer_fan idle]
    exact if_pos (eq_false_of_ne_true (mt (fanOrdered_iff ..).1 disordered))
  · rw [ownWriteConsumer_fan idle]
    exact if_neg (by simp [(fanOrdered_iff ..).2 ⟨xy, yz, zw⟩])

end Sys2Proof.Machine
end

section
/-! Events that reach the compressors one after the other: start tests and limits that move (R81, R90 to R92). -/

namespace Sys2Proof.Machine

/-! ## An event of one compressor -/

/-- From `s` to `t` compressor i alone may change, and the notices `ns` are posted. -/
structure CompEvent (i : CompId) (ns : List (Code × Nat × Int)) (s t : State) : Prop where
  pt : t.pt = s.pt
  tick : t.tick = s.tick
  alloc : t.alloc = s.alloc
  seq : ∃ d, t.seq = { s.seq with comps := s.seq.comps.set i d }
  ports : t.ports = (postAll ns s).ports

section
variable {i : CompId} {s t u : State} {ns ms : List (Code × Nat × Int)}

theorem CompEvent.other (h : CompEvent i ns s t) {j : CompId} (other : j ≠ i) : t.seq.comps[j] = s.seq.comps[j] := by
  obtain ⟨d, seq⟩ := h.seq
  have apart : i.val ≠ j.val := fun e => other (Fin.ext e.symm)
  simp [seq, apart]

theorem CompEvent.seq_eq (h : CompEvent i ns s t) : t.seq = { s.seq with comps := t.seq.comps } := by
  obtain ⟨d, seq⟩ := h.seq
  rw [seq]

theorem CompEvent.mayStart (h : CompEvent i ns s t) :
    mayStart t.seq t.seq.fanLevel = mayStart s.seq s.seq.fanLevel := by
  rw [h.seq_eq]; rfl

theorem CompEvent.trans (h : CompEvent i ns s t) (k : CompEvent i ms t u) : CompEvent i (ns ++ ms) s u where
  pt := k.pt.trans h.pt
  tick := k.tick.trans h.tick
  alloc := k.alloc.trans h.alloc
  seq := by
    obtain ⟨c, hc⟩ := h.seq
    obtain ⟨d, hd⟩ := k.seq
    exact ⟨d, by rw [hd, hc]; simp⟩
  ports := by
    rw [k.ports, postAll_append]
    exact postAll_ports_congr (by simp [h.pt]) (by simp [h.tick]) h.ports ms

end

theorem setComp_event (i : CompId) (c : Compressor) (s : State) : CompEvent i [] s (setComp i c s) :=
  ⟨rfl, rfl, rfl, ⟨c, rfl⟩, rfl⟩

/-! ## An event of C1 and one of C2 (log 27) -/

/-- From `s` the event of C1 leads to `t` and the event of C2 to `u`. -/
structure CompEvents (ns : List (Code × Nat × Int)) (s t u : State) : Prop where
  first : u.seq.comps[(0 : CompId)] = t.seq.comps[(0 : CompId)]
  second : t.seq.comps[(1 : CompId)] = s.seq.comps[(1 : CompId)]
  seq : u.seq = { s.seq with comps := u.seq.comps }
  ports : u.ports = (postAll ns s).ports

theorem CompEvent.followedBy {s t u : State} {ns ms : List (Code × Nat × Int)} (h : CompEvent 0 ns s t)
    (k : CompEvent 1 ms t u) : CompEvents (ns ++ ms) s t u where
  first := k.other (by decide)
  second := h.other (by decide)
  seq := by rw [k.seq_eq, h.seq_eq]
  ports := by
    rw [k.ports, postAll_append]
    exact postAll_ports_congr (by simp [h.pt]) (by simp [h.tick]) h.ports ms

/-! ## The start test (R91) -/

theorem blockComp_seq (i : CompId) (h : List Word) (s : State) :
    ∃ d, (blockComp i h s).seq = { s.seq with comps := s.seq.comps.set i d } := by
  by_cases blocked : s.seq.comps[i].blocked = true
  · exact ⟨{ s.seq.comps[i] with history := h }, by simp only [blockComp, if_pos blocked]; rfl⟩
  · cases h with
    | nil =>
      exact ⟨{ s.seq.comps[i] with
        history := [], blocked := true, nextStart := Config.nextStartOfNone s.freeSeq }, by
          simp only [blockComp, if_neg blocked]; rfl⟩
    | cons e es =>
      exact ⟨{ s.seq.comps[i] with history := e :: es, blocked := true, nextStart := e + 3600 }, by
        simp only [blockComp, if_neg blocked]; rfl⟩

/-- A start test writes its compressor and leaves the other and the rest of the Sequencer. -/
theorem startTest_seq (i : CompId) (s : State) :
    ∃ d, (startTest i s).seq = { s.seq with comps := s.seq.comps.set i d } := by
  rcases startTest_cases i s with same | ⟨-, -, pruned | ⟨-, blocked⟩ | ⟨-, -, started⟩⟩
  · exact ⟨s.seq.comps[i], by rw [same]; simp⟩
  · exact ⟨_, by rw [pruned]; rfl⟩
  · rw [blocked]; exact blockComp_seq ..
  · exact ⟨_, by rw [started]; rfl⟩

theorem startTest_event (i : CompId) (s : State) :
    CompEvent i (startNotices i s.seq.comps[i] (startTest i s).seq.comps[i]) s (startTest i s) where
  pt := by simp
  tick := by simp
  alloc := by simp
  seq := startTest_seq i s
  ports := (startTest_spec i s).2

/-- R91, R92: what the start tests of one event post that have taken the compressors from `cs` to `ds`. -/
def bothStartNotices (cs ds : Vector Compressor 2) : List (Code × Nat × Int) :=
  startNotices 0 cs[(0 : CompId)] ds[(0 : CompId)] ++ startNotices 1 cs[(1 : CompId)] ds[(1 : CompId)]

theorem startTests_events (s : State) : CompEvents (bothStartNotices s.seq.comps (startTests s).seq.comps) s
    (startTest 0 s) (startTests s) := by
  have both := (startTest_event 0 s).followedBy (startTest_event 1 (startTest 0 s))
  rw [both.second, ← both.first] at both
  exact both

/-- R91: the start tests of one event, each with the compressors as they stood before it. -/
theorem startTests_tested (s : State) (i : CompId) :
    StartTested s.pt (startLimit s.alloc s.seq.comps[i]) (mayStart s.seq s.seq.fanLevel) s.seq.comps[i]
      (startTests s).seq.comps[i] := by
  have both := startTests_events s
  match i with
  | 0 => rw [both.first]; exact (startTest_spec 0 s).1
  | 1 =>
    have tested := (startTest_spec 1 (startTest 0 s)).1
    rw [both.second, (startTest_event 0 s).mayStart, (startTest_event 0 s).alloc, (startTest_event 0 s).pt] at tested
    exact tested

/-! ## What a start test can do to a compressor -/

section
variable {pt : Word} {limit old new : Nat} {free : Prop} {c d : Compressor}

/-- R91: a start test leaves its compressor, prunes the history, blocks, or starts. -/
theorem StartTested.cases (h : StartTested pt limit free c d) : d = c ∨ (c.state = .offReady ∧ c.grant = true ∧
    ((∃ blocked next, d = { c with history := prune pt c.history, blocked := blocked, nextStart := next }) ∨
      ((prune pt c.history).length < limit ∧ d = { c with
        state := .runMin, history := prune pt c.history ++ [pt], offTimer := none
        onTimer := some (100 * c.cfg.minOn), blocked := false }))) := by
  obtain ⟨untested, starts, waits, blocks⟩ := h
  by_cases tested : c.state = .offReady ∧ c.grant = true
  · refine .inr ⟨tested.1, tested.2, ?_⟩
    by_cases full : limit ≤ (prune pt c.history).length
    · exact .inl ⟨true, d.nextStart, (blocks tested full).1⟩
    · by_cases run : free
      · exact .inr ⟨Nat.lt_of_not_le full, starts tested (Nat.lt_of_not_le full) run⟩
      · exact .inl ⟨c.blocked, c.nextStart, waits tested (Nat.lt_of_not_le full) run⟩
  · exact .inl (untested tested)

/-- A start test keeps settings, run seconds and the stored grant. -/
theorem StartTested.keeps (h : StartTested pt limit free c d) :
    d.cfg = c.cfg ∧ d.runSeconds = c.runSeconds ∧ d.grant = c.grant := by
  rcases h.cases with rfl | ⟨-, -, ⟨_, _, rfl⟩ | ⟨-, rfl⟩⟩ <;> exact ⟨rfl, rfl, rfl⟩

theorem StartTested.eq_of_state (h : StartTested pt limit free c d) (state : c.state ≠ .offReady) : d = c :=
  h.1 fun tested => state tested.1

/-- R90, R91: a start test does not fill a history beyond the limit in force. -/
theorem StartTested.history_le (h : StartTested pt limit free c d) (within : c.history.length ≤ limit) :
    d.history.length ≤ limit := by
  rcases h.cases with rfl | ⟨-, -, ⟨_, _, rfl⟩ | ⟨below, rfl⟩⟩
  · exact within
  · exact (prune_length_le ..).trans within
  · simpa using below

/-! ## A limit that moves (R81, R90) -/

/-- R90: the history is shortened to the limit in force. -/
def shortened (n : Nat) (c : Compressor) : Compressor := { c with history := c.history.drop (c.history.length - n) }

theorem shortened_history_le (n : Nat) (c : Compressor) : (shortened n c).history.length ≤ n := by
  simp only [shortened, List.length_drop]; omega

theorem startNotices_shortened (i : CompId) (n : Nat) (c d : Compressor) :
    startNotices i (shortened n c) d = startNotices i c d := rfl

theorem startNotices_self (i : CompId) (c : Compressor) : startNotices i c c = [] := by
  cases state : c.state <;> simp [startNotices, state]

/-- R90, R91: a limit that has moved shortens the history, and a raise tests the compressor. -/
theorem LimitMoved.iff : LimitMoved pt old new free c d ↔
    (new ≤ old → d = shortened new c) ∧ (old < new → StartTested pt new free (shortened new c) d) := .rfl

theorem LimitMoved.cases (h : LimitMoved pt old new free c d) :
    d = shortened new c ∨ StartTested pt new free (shortened new c) d := by
  rcases le_or_gt new old with lowered | raised
  · exact .inl (h.1 lowered)
  · exact .inr (h.2 raised)

theorem LimitMoved.keeps (h : LimitMoved pt old new free c d) :
    d.cfg = c.cfg ∧ d.runSeconds = c.runSeconds ∧ d.grant = c.grant := by
  rcases h.cases with rfl | tested
  · exact ⟨rfl, rfl, rfl⟩
  · exact tested.keeps

theorem LimitMoved.state (h : LimitMoved pt old new free c d) (state : c.state ≠ .offReady) : d.state = c.state := by
  rcases h.cases with rfl | tested
  · rfl
  · rw [tested.eq_of_state state]; rfl

theorem StartTested.run_iff (h : StartTested pt limit free c d) : d.state = .run ↔ c.state = .run := by
  rcases h.cases with rfl | ⟨off, -, ⟨_, _, rfl⟩ | ⟨-, rfl⟩⟩
  · rfl
  · rfl
  · simp [off]

/-- A limit that moves neither starts nor stops a run whose minimum on time has passed. -/
theorem LimitMoved.run_iff (h : LimitMoved pt old new free c d) : d.state = .run ↔ c.state = .run := by
  rcases h.cases with rfl | tested
  · rfl
  · exact tested.run_iff

theorem LimitMoved.history_le (h : LimitMoved pt old new free c d) : d.history.length ≤ new := by
  rcases h.cases with rfl | tested
  · exact shortened_history_le ..
  · exact tested.history_le (shortened_history_le ..)

end

/-! ## The limits refreshed -/

theorem refreshLimit_eq (i : CompId) (old : Nat) (s : State) : refreshLimit i old s =
    let n := startLimit s.alloc s.seq.comps[i]
    let s1 := setComp i (shortened n s.seq.comps[i]) s
    if old < n then startTest i s1 else s1 := rfl

/-- R81, R90, R91: what a refreshed limit does to its compressor. -/
theorem refreshLimit_moved (i : CompId) (old : Nat) (s : State) :
    LimitMoved s.pt old (startLimit s.alloc s.seq.comps[i]) (mayStart s.seq s.seq.fanLevel) s.seq.comps[i]
      (refreshLimit i old s).seq.comps[i] := by
  rw [LimitMoved.iff, refreshLimit_eq]
  refine ⟨fun lowered => ?_, fun raised => ?_⟩
  · rw [if_neg (not_lt.2 lowered), setComp_self]
  · have tested := (startTest_spec i (setComp i (shortened (startLimit s.alloc s.seq.comps[i]) s.seq.comps[i]) s)).1
    rw [setComp_self] at tested
    rw [if_pos raised]
    exact tested

theorem refreshLimit_event (i : CompId) (old : Nat) (s : State) :
    CompEvent i (startNotices i s.seq.comps[i] (refreshLimit i old s).seq.comps[i]) s (refreshLimit i old s) := by
  have cut := setComp_event i (shortened (startLimit s.alloc s.seq.comps[i]) s.seq.comps[i]) s
  rw [refreshLimit_eq]
  simp only
  split
  · have tested := cut.trans (startTest_event i _)
    rw [setComp_self] at tested
    exact tested
  · rw [setComp_self, ← startNotices_shortened i (startLimit s.alloc s.seq.comps[i]), startNotices_self]
    exact cut

theorem refreshLimits_eq (before s : State) : refreshLimits before s =
    refreshLimit 1 (startLimit before.alloc before.seq.comps[(1 : CompId)])
      (refreshLimit 0 (startLimit before.alloc before.seq.comps[(0 : CompId)]) s) := rfl

theorem refreshLimits_events (before s : State) :
    CompEvents (bothStartNotices s.seq.comps (refreshLimits before s).seq.comps) s
      (refreshLimit 0 (startLimit before.alloc before.seq.comps[(0 : CompId)]) s) (refreshLimits before s) := by
  have both := (refreshLimit_event 0 (startLimit before.alloc before.seq.comps[(0 : CompId)]) s).followedBy
    (refreshLimit_event 1 (startLimit before.alloc before.seq.comps[(1 : CompId)]) _)
  rw [← refreshLimits_eq, both.second, ← both.first] at both
  exact both

/-- R81, R90, R91: both start limits refreshed against those of the state before the event. -/
theorem refreshLimits_moved (before s : State) (i : CompId) :
    LimitMoved s.pt (startLimit before.alloc before.seq.comps[i]) (startLimit s.alloc s.seq.comps[i])
      (mayStart s.seq s.seq.fanLevel) s.seq.comps[i] (refreshLimits before s).seq.comps[i] := by
  have both := refreshLimits_events before s
  match i with
  | 0 => rw [both.first]; exact refreshLimit_moved 0 _ s
  | 1 =>
    have first := refreshLimit_event 0 (startLimit before.alloc before.seq.comps[(0 : CompId)]) s
    have moved := refreshLimit_moved 1 (startLimit before.alloc before.seq.comps[(1 : CompId)])
      (refreshLimit 0 (startLimit before.alloc before.seq.comps[(0 : CompId)]) s)
    rw [both.second, first.mayStart, first.alloc, first.pt] at moved
    exact moved

/-- R81: refreshed limits touch the compressors, the notices and the free value counter. -/
theorem refreshLimits_touches (before s : State) : refreshLimits before s =
    { s with
      seq := { s.seq with comps := (refreshLimits before s).seq.comps }
      ports := (refreshLimits before s).ports, freeSeq := (refreshLimits before s).freeSeq } := by
  rw [← (refreshLimits_events before s).seq]
  have frame := refreshLimits_frame before s
  generalize refreshLimits before s = t at frame
  cases t
  simpa using frame

end Sys2Proof.Machine
end

section
/-! The LIMITS write (R80, R81, R90 to R92). -/

namespace Sys2Proof.Machine

theorem exec_writeItemLimits {p : PortId} {n : Byte} {a b c d : Half} {s t : State} {r : Result}
    (h : Served s p (.writeItemLimits p n a b c d)) (own : ownWriteLimits n a b c d s = (t, answer r)) :
    exec (.writeItemLimits p n a b c d) s = .next (reply p 3 r t) :=
  congrArg _ (requestStep_of_answer h own)

/-- R80: four fields as they are stored, each clamped into its range. -/
def clampedLimits (a b c d : Half) : Vector Half 4 :=
  #v[BitVec.ofInt 16 (max 150 (min a.toInt 400)), BitVec.ofNat 16 (max 1 (min b.toNat 12)),
    BitVec.ofNat 16 (max 60 (min c.toNat 900)), BitVec.ofNat 16 (max 60 (min d.toNat 3600))]

/-- R80: the limits record with four values, each with its complement, in force and without fault. -/
def withLimits (v : Vector Half 4) (s : State) : State :=
  { s with alloc := { s.alloc with limits := v.map soundPair, limitsFault := false, inForce := v } }

theorem ownWriteLimits_of_index {n : Byte} (beyond : n ≠ 0) (a b c d : Half) (s : State) :
    ownWriteLimits n a b c d s = (s, answer .badItem) := if_pos beyond

theorem ownWriteLimits_of_busy {s : State} (busy : s.store.busy = true) (a b c d : Half) :
    ownWriteLimits 0 a b c d s = (s, answer .busy) := by
  rw [ownWriteLimits, if_neg (not_not.2 rfl), if_pos busy]; rfl

/-- R80: a taken write stores the clamped values and refreshes the start limits; it is CLAMPED where a value is not in
its range. -/
theorem ownWriteLimits_taken {s : State} (idle : s.store.busy = false) (a b c d : Half) :
    ownWriteLimits 0 a b c d s = (refreshLimits s (withLimits (clampedLimits a b c d) s),
      answer (if 150 ≤ a.toInt ∧ a.toInt ≤ 400 ∧ 1 ≤ b.toNat ∧ b.toNat ≤ 12 ∧ 60 ≤ c.toNat ∧ c.toNat ≤ 900 ∧
        60 ≤ d.toNat ∧ d.toNat ≤ 3600 then .ok else .clamped)) := by
  have written (v0 v1 v2 v3 : Half) : modAlloc (fun x => { x with
      limits := #v[soundPair v0, soundPair v1, soundPair v2, soundPair v3], limitsFault := false
      inForce := #v[v0, v1, v2, v3] }) s = withLimits #v[v0, v1, v2, v3] s := by
    simp [modAlloc, withLimits]
  rw [ownWriteLimits, if_neg (not_not.2 rfl), if_neg (by simp [idle])]
  simp only [written]
  simp (disch := omega) only [clampNat_eq, clampInt_eq]
  rw [okOrClamped_eq _ (150 ≤ a.toInt ∧ a.toInt ≤ 400 ∧ 1 ≤ b.toNat ∧ b.toNat ≤ 12 ∧ 60 ≤ c.toNat ∧ c.toNat ≤ 900 ∧
        60 ≤ d.toNat ∧ d.toNat ≤ 3600)]
  · rfl
  · simp (disch := omega) only [ne_eq, ofNat_eq_half_iff, ofInt_eq_half_iff, Bool.or_eq_true, decide_eq_true_eq]
    omega

section
variable (a b c d : Half) (s : State)

theorem withLimits_limits (v : Vector Half 4) (k : Fin 4) :
    ((withLimits v s).alloc.limits[k]).complement = ~~~((withLimits v s).alloc.limits[k]).value ∧
      (withLimits v s).alloc.inForce[k] = ((withLimits v s).alloc.limits[k]).value := by
  simp [withLimits, soundPair]

theorem sHiCap_clampedLimits : sHiCap (withLimits (clampedLimits a b c d) s) = max 150 (min a.toInt 400) :=
  ((ofInt_eq_half_iff (by omega) (by omega) _).1 rfl).symm

theorem startCap_clampedLimits : startCap (withLimits (clampedLimits a b c d) s).alloc = max 1 (min b.toNat 12) :=
  ((ofNat_eq_half_iff (by omega) _).1 rfl).symm

theorem minOffFloor_clampedLimits : minOffFloor (withLimits (clampedLimits a b c d) s) = max 60 (min c.toNat 900) :=
  ((ofNat_eq_half_iff (by omega) _).1 rfl).symm

theorem purgeFloor_clampedLimits : purgeFloor (withLimits (clampedLimits a b c d) s) = max 60 (min d.toNat 3600) :=
  ((ofNat_eq_half_iff (by omega) _).1 rfl).symm

end

/-- A start limit is that of the settings and of the limits in force, which a start test does not touch. -/
theorem startLimit_congr {c d : Compressor} (h : d.cfg = c.cfg) (a : Allocator) : startLimit a d = startLimit a c := by
  rw [startLimit, startLimit, h]

/-- Settles O21: the refusals; the record as `withLimits` writes it; the compressors by the refreshed limits. -/
theorem limitsWriteClearsTheFault : Obligations.LimitsWriteClearsTheFault := by
  intro p n a b c d s served
  refine ⟨fun beyond => exec_writeItemLimits served (ownWriteLimits_of_index beyond ..), ?_, ?_⟩
  · rintro rfl busy
    exact exec_writeItemLimits served (ownWriteLimits_of_busy busy ..)
  rintro rfl idle
  have written := exec_writeItemLimits served (ownWriteLimits_taken idle ..)
  have moved := refreshLimits_moved s (withLimits (clampedLimits a b c d) s)
  have touches := refreshLimits_touches s (withLimits (clampedLimits a b c d) s)
  have notices := (refreshLimits_events s (withLimits (clampedLimits a b c d) s)).ports.trans
    (postAll_ports_congr (s := s) (t := withLimits (clampedLimits a b c d) s) rfl rfl rfl _)
  have record : (refreshLimits s (withLimits (clampedLimits a b c d) s)).alloc =
    (withLimits (clampedLimits a b c d) s).alloc := by simp
  generalize refreshLimits s (withLimits (clampedLimits a b c d) s) = t at *
  refine ⟨t, written, ?_, fun k => ?_, ?_, ?_, ?_, ?_, fun i => ⟨?_, ?_⟩⟩
  · rw [notices] at touches
    rw [record]
    exact touches
  · rw [record]; exact withLimits_limits ..
  · rw [sHiCap, record]; exact sHiCap_clampedLimits ..
  · rw [record]; exact startCap_clampedLimits ..
  · rw [minOffFloor, record]; exact minOffFloor_clampedLimits ..
  · rw [purgeFloor, record]; exact purgeFloor_clampedLimits ..
  · rw [startLimit_congr (moved i).keeps.1, record]
    exact (moved i).history_le
  · rw [record]
    exact moved i

end Sys2Proof.Machine
end

section
/-! The walk of the allowance (R74 to R76) over the consumer records it leaves. -/

namespace Sys2Proof.Machine

/-! ## A walk over a list of consumers -/

/-- A walk from `left` to `last`: each consumer k meets what those before it leave, and takes `amount k` of it. -/
def Walked (meets : Fin 8 → Nat → Prop) (amount : Fin 8 → Nat) : List (Fin 8) → Nat → Nat → Prop
  | [], left, last => last = left
  | k :: ks, left, last => meets k left ∧ amount k ≤ left ∧ Walked meets amount ks (left - amount k) last

section
variable {meets : Fin 8 → Nat → Prop} {amount : Fin 8 → Nat} {ks js : List (Fin 8)} {left mid last : Nat}

theorem Walked.append (h : Walked meets amount ks left mid) (k : Walked meets amount js mid last) :
    Walked meets amount (ks ++ js) left last := by
  induction ks generalizing left with
  | nil => exact h ▸ k
  | cons i ks ih =>
    obtain ⟨meet, fit, rest⟩ := h
    exact ⟨meet, fit, ih rest⟩

/-- Nothing is lost or made: what is taken and what is left make what there was. -/
theorem Walked.sum_add (h : Walked meets amount ks left last) : (ks.map amount).sum + last = left := by
  induction ks generalizing left with
  | nil => simpa [Walked] using h
  | cons i ks ih =>
    obtain ⟨-, fit, rest⟩ := h
    have tail := ih rest
    simp only [List.map_cons, List.sum_cons]
    omega

/-- Each consumer meets what those before it in the list leave. -/
theorem Walked.meets_of_mem (h : Walked meets amount ks left last) {k : Fin 8} (mem : k ∈ ks) :
    meets k (left - ((ks.takeWhile fun j => decide (j ≠ k)).map amount).sum) := by
  induction ks generalizing left with
  | nil => simp at mem
  | cons i ks ih =>
    obtain ⟨meet, -, rest⟩ := h
    by_cases found : i = k
    · subst found; simpa using meet
    · have tail := ih rest ((List.mem_cons.1 mem).resolve_left (Ne.symm found))
      rw [Nat.sub_sub] at tail
      simpa [found] using tail

end

/-! ## What a consumer record says of its turn -/

/-- R74: consumer k has met `left`: LT has what fits of its request, another whole item that is requested and not
committed is granted exactly where its draw fits. -/
def MeetsLeft (d : Draws) (cs : Vector Consumer 8) (k : Fin 8) (left : Nat) : Prop :=
  if k = 7 then cs[k].granted = min cs[k].requested left
  else cs[k].requested = 1 → cs[k].cls ≠ .committed → (cs[k].granted = 1 ↔ d.items.toList.getD (k.val - 1) 0 ≤ left)

/-- The record of consumer k stands for an item of a draw that is walked where `want` holds, and granted where `on`
holds. -/
structure WalkedItem (d : Draws) (cs : Vector Consumer 8) (k : Fin 8) (draw : Nat) (want on : Bool) : Prop where
  item : k ≠ 7
  draw_eq : d.items.toList.getD (k.val - 1) 0 = draw
  requested : cs[k].requested = 1 → cs[k].cls ≠ .committed → want = true
  granted : cs[k].granted = 1 ∧ cs[k].cls ≠ .committed ↔ on = true

section
variable {s : State} {cs : Vector Consumer 8} {k : Fin 8} {draw left : Nat} {want on : Bool}

theorem WalkedItem.walkDraw_eq (h : WalkedItem s.alloc.draws cs k draw want on) :
    walkDraw s cs k = if on then draw else 0 := by
  rw [walkDraw, if_neg h.item, h.draw_eq]
  exact if_congr h.granted rfl rfl

/-- A whole item takes its turn. -/
theorem WalkedItem.walked (h : WalkedItem s.alloc.draws cs k draw want on) (fit : on = fits want draw left) :
    Walked (MeetsLeft s.alloc.draws cs) (walkDraw s cs) [k] left (spend on draw left) := by
  refine ⟨?_, ?_, ?_⟩
  · rw [MeetsLeft, if_neg h.item, h.draw_eq]
    intro requested uncommitted
    have granted := h.granted
    rw [fit, fits, h.requested requested uncommitted, and_iff_left uncommitted] at granted
    simpa using granted
  · rw [h.walkDraw_eq]
    split
    · rename_i granted
      rw [fit, fits] at granted
      simp only [Bool.and_eq_true, decide_eq_true_eq] at granted
      exact granted.2
    · exact Nat.zero_le _
  · rw [h.walkDraw_eq, spend]
    cases on <;> rfl

theorem walked_lt (h : cs[7].granted = min cs[7].requested left) :
    Walked (MeetsLeft s.alloc.draws cs) (walkDraw s cs) [7] left (left - min cs[7].requested left) := by
  have draw : walkDraw s cs 7 = min cs[7].requested left := by rw [← h]; rfl
  refine ⟨h, ?_, ?_⟩
  · rw [draw]; omega
  · rw [draw]; rfl

end

/-! ## The levels of FAN (R75) -/

/-- The highest level that fits: it fits, and no higher one in range does. -/
theorem highestFan_spec (d : Draws) (low left n : Nat) :
    let f := highestFan d low left n
    low ≤ f ∧ f ≤ low + n ∧ fanDraw d f - fanDraw d low ≤ left ∧
      ∀ k, f < k → k ≤ low + n → left < fanDraw d k - fanDraw d low := by
  induction n with
  | zero => exact ⟨le_rfl, le_rfl, by simp [highestFan], fun k above within => absurd within (Nat.not_le.2 above)⟩
  | succ n ih =>
    rw [highestFan]
    split
    · rename_i fit
      exact ⟨by omega, by omega, fit, fun k above within => absurd within (Nat.not_le.2 above)⟩
    · rename_i exceeds
      obtain ⟨above, within, fit, higher⟩ := ih
      refine ⟨above, by omega, fit, fun k hk top => ?_⟩
      rcases Nat.lt_or_ge (low + n) k with last | inner
      · rw [show k = low + n + 1 by omega]; omega
      · exact higher k hk inner

/-! ## The walk in its parts -/

theorem walkPair_none (d : Draws) (lead : CompId) (left : Nat) :
    walkPair d lead false false left = ⟨false, false, left⟩ := by
  simp [walkPair, fits, spend]

/-- R74: the grants of PF, the heater stages and LT, which stand between the two turns of the compressors. -/
structure MiddleGrant where
  pf : Bool
  heaters : Vector Bool 3
  lt : Nat
  left : Nat

/-- R74: the turns of PF, H1, H2, H3 and LT. -/
def walkMiddle (d : Draws) (rq : Requests) (wantPf : Bool) (l1 : Nat) : MiddleGrant :=
  let pf := fits wantPf (pfDraw d) l1
  let l2 := spend pf (pfDraw d) l1
  let h1 := fits rq.heaters[0] (heaterDraw d 0) l2
  let l3 := spend h1 (heaterDraw d 0) l2
  let h2 := fits rq.heaters[1] (heaterDraw d 1) l3
  let l4 := spend h2 (heaterDraw d 1) l3
  let h3 := fits rq.heaters[2] (heaterDraw d 2) l4
  let l5 := spend h3 (heaterDraw d 2) l4
  ⟨pf, #v[h1, h2, h3], min rq.lt l5, l5 - min rq.lt l5⟩

/-- The walk of classes 2 to 6 put together of its parts, given the turn of the compressors and that of the middle. -/
def joinedWalk (d : Draws) (rq : Requests) (fan2 : Nat) (p : PairGrant) (m : MiddleGrant) (last : Nat) : Walk :=
  let fan := if rq.fanClass2 < rq.fan then highestFan d fan2 last (rq.fan - fan2) else fan2
  { fan2 := fan2, fan := fan, leadOn := p.lead, lagOn := p.lag, pf := m.pf, heaters := m.heaters, lt := m.lt
    left := last - (fanDraw d fan - fanDraw d fan2) }

section
variable (d : Draws) (rq : Requests) (lead : CompId) (wantLead wantLag wantPf : Bool) (left0 : Nat)

/-- Under the protective flag the compressors are walked in class 2. -/
theorem walk_protective :
    let fan2 := highestFan d 0 left0 rq.fanClass2
    let p := walkPair d lead wantLead wantLag (left0 - fanDraw d fan2)
    let m := walkMiddle d rq wantPf p.left
    walk d rq lead true wantLead wantLag wantPf left0 = joinedWalk d rq fan2 p m m.left := by
  simp only [walk, Bool.and_true, Bool.not_true, Bool.and_false, walkPair_none, Bool.or_false]
  rfl

/-- Without it they are walked in class 5. -/
theorem walk_comfort :
    let fan2 := highestFan d 0 left0 rq.fanClass2
    let m := walkMiddle d rq wantPf (left0 - fanDraw d fan2)
    let p := walkPair d lead wantLead wantLag m.left
    walk d rq lead false wantLead wantLag wantPf left0 = joinedWalk d rq fan2 p m p.left := by
  simp only [walk, Bool.and_true, Bool.not_false, Bool.and_false, walkPair_none, Bool.false_or]
  rfl

end

end Sys2Proof.Machine
end

section
/-! The records of a pass (R61, R74 to R78) and the walk they come from. -/

namespace Sys2Proof.Machine

/-! ## The pass in its parts -/

/-- The state of a pass once the limits check is done (R73, R77, R81). -/
def limitsChecked (s : State) : State :=
  let p := planPass s
  checkLimits (postSheds (shedTable s p) (postOverCommit s p (recordPass s p)))

theorem allocate_eq (s : State) : allocate s =
    takeLtGrant (planPass s).walk.lt (grantEvent (planPass s).grants (energyPass (limitsChecked s))) := rfl

@[simp] theorem limitsChecked_alloc (s : State) :
    (limitsChecked s).alloc = bringInForce (recordPass s (planPass s)).alloc := by
  simp [limitsChecked, checkLimits_alloc]

/-- After the energy a pass leaves the allowance record. -/
theorem allocate_alloc_eq (s : State) : (allocate s).alloc = (energyPass (limitsChecked s)).alloc := by
  simp [allocate_eq]

/-- The allowance record of a pass is the one recorded, with the limits in force and the energy counted. -/
theorem allocate_alloc (s : State) : (allocate s).alloc =
    { bringInForce (recordPass s (planPass s)).alloc with consumers := (allocate s).alloc.consumers } := by
  rw [allocate_alloc_eq, energyPass, modAlloc_alloc, limitsChecked_alloc]

theorem allocate_consumer (s : State) (k : Fin 8) : (allocate s).alloc.consumers[k] =
    countEnergy (appliedDraw (limitsChecked s) k) (consumersAfter s (planPass s))[k] := by
  rw [allocate_alloc_eq, energyPass, modAlloc_alloc, limitsChecked_alloc]
  exact Vector.getElem_mapFinIdx ..

/-! ## The consumer records -/

/-- The fields of a consumer record that a pass writes. -/
structure Recorded (c : Consumer) (requested granted : Nat) (cls : ConsumerClass) (class2 : Nat) (held : Bool) :
    Prop where
  requested : c.requested = requested
  granted : c.granted = granted
  cls : c.cls = cls
  class2 : c.class2 = class2
  held : c.held = held

/-- The record of a whole item. -/
abbrev RecordedItem (c : Consumer) (requested granted : Bool) (cls : ConsumerClass) : Prop :=
  Recorded c requested.toNat granted.toNat cls 0 (requested && !granted)

theorem recorded_of_eq {c old : Consumer} {draw requested granted class2 : Nat} {cls : ConsumerClass} {held : Bool}
    (h : c = countEnergy draw (setConsumer old requested granted cls class2 held)) :
    Recorded c requested granted cls class2 held := by
  subst h; exact ⟨rfl, rfl, rfl, rfl, rfl⟩

/-- The place of a compressor in the consumer table (R61). -/
def compConsumer (i : CompId) : Fin 8 := ⟨i.val + 1, by omega⟩

/-- The place of a heater stage in the consumer table (R61). -/
def heaterConsumer (j : Fin 3) : Fin 8 := ⟨j.val + 3, by omega⟩

theorem compConsumer_ne_lt : ∀ i : CompId, compConsumer i ≠ 7 := by decide

theorem heaterConsumer_ne_lt : ∀ j : Fin 3, heaterConsumer j ≠ 7 := by decide

/-- What a plan writes into the consumer table. -/
structure PassRecords (s : State) (p : Plan) (cs : Vector Consumer 8) : Prop where
  fan : Recorded cs[(0 : Fin 8)] p.requests.fan p.walk.fan (if 0 < p.requests.fanClass2 then .protective else .none)
    p.requests.fanClass2 (p.walk.fan < p.requests.fan)
  comp : ∀ i : CompId,
    RecordedItem cs[compConsumer i] p.comps[i] (compGranted s p.lead p.comps p.walk i) (compClass s p.comps[i] i)
  heater : ∀ j : Fin 3, RecordedItem cs[heaterConsumer j] p.requests.heaters[j] p.walk.heaters[j]
    (if p.requests.heaters[j] then .heating else .none)
  pf : RecordedItem cs[(6 : Fin 8)] p.requests.pf (pfCommitted s p.requests.pf || p.walk.pf)
    (if pfCommitted s p.requests.pf then .committed else if p.requests.pf then .protective else .none)
  lt : Recorded cs[(7 : Fin 8)] p.requests.lt p.walk.lt (if 0 < p.requests.lt then .lighting else .none) 0
    (0 < p.requests.lt && p.walk.lt = 0)

theorem allocate_records (s : State) : PassRecords s (planPass s) (allocate s).alloc.consumers where
  fan := recorded_of_eq (allocate_consumer s 0)
  comp i := match i with
    | 0 => recorded_of_eq (allocate_consumer s 1)
    | 1 => recorded_of_eq (allocate_consumer s 2)
  heater j := match j with
    | 0 => recorded_of_eq (allocate_consumer s 3)
    | 1 => recorded_of_eq (allocate_consumer s 4)
    | 2 => recorded_of_eq (allocate_consumer s 5)
  pf := recorded_of_eq (allocate_consumer s 6)
  lt := recorded_of_eq (allocate_consumer s 7)

/-! ## The items of the walk -/

theorem fits_eq_true {want : Bool} {draw left : Nat} : fits want draw left = true ↔ want = true ∧ draw ≤ left := by
  simp [fits]

section
variable (d : Draws) (rq : Requests) (lead : CompId) (protective wantLead wantLag wantPf : Bool) (left0 : Nat)

theorem walk_leadOn (on : (walk d rq lead protective wantLead wantLag wantPf left0).leadOn = true) :
    wantLead = true := by
  cases protective
  · rw [walk_comfort] at on; exact (fits_eq_true.1 on).1
  · rw [walk_protective] at on; exact (fits_eq_true.1 on).1

theorem walk_lagOn (on : (walk d rq lead protective wantLead wantLag wantPf left0).lagOn = true) :
    wantLag = true := by
  cases protective
  · rw [walk_comfort] at on; exact (fits_eq_true.1 on).1
  · rw [walk_protective] at on; exact (fits_eq_true.1 on).1

theorem walk_pf (on : (walk d rq lead protective wantLead wantLag wantPf left0).pf = true) : wantPf = true := by
  cases protective
  · rw [walk_comfort] at on; exact (fits_eq_true.1 on).1
  · rw [walk_protective] at on; exact (fits_eq_true.1 on).1

end

/-- A compressor that the walk of a pass reaches (R71, R74). -/
def wantedComp (s : State) (i : CompId) : Bool := (planPass s).comps[i] && !inRunMin s i

/-- The walk's grant of a compressor. -/
def walkedComp (s : State) (i : CompId) : Bool :=
  if i = (planPass s).lead then (planPass s).walk.leadOn else (planPass s).walk.lagOn

theorem planPass_walk (s : State) : (planPass s).walk =
    walk s.alloc.draws (planPass s).requests (planPass s).lead s.climate.protective (wantedComp s (planPass s).lead)
      (wantedComp s (otherComp (planPass s).lead))
      ((planPass s).requests.pf && !pfCommitted s (planPass s).requests.pf)
      (s.alloc.allowance - (planPass s).committed) := rfl

theorem eq_otherComp {i lead : CompId} (h : i ≠ lead) : i = otherComp lead := by
  revert i lead; decide

theorem wantedComp_of_walkedComp {s : State} {i : CompId} (h : walkedComp s i = true) : wantedComp s i = true := by
  unfold walkedComp at h
  rw [planPass_walk] at h
  split at h
  · rename_i lead; rw [lead]; exact walk_leadOn _ _ _ _ _ _ _ _ h
  · rename_i lag; rw [eq_otherComp lag]; exact walk_lagOn _ _ _ _ _ _ _ _ h

section
variable {s : State} {cs : Vector Consumer 8}

/-- R71: a compressor's class is committed exactly in RUN_MIN. -/
theorem compClass_eq_committed (s : State) (requested : Bool) (i : CompId) :
    compClass s requested i = .committed ↔ inRunMin s i = true := by
  unfold compClass
  cases inRunMin s i <;> cases requested <;> cases s.climate.protective <;> simp

theorem toList_getD_eq {n k : Nat} (ds : Vector Nat n) (h : k < n) : ds.toList.getD k 0 = ds[k] := by
  simp [h]

theorem PassRecords.compItem (h : PassRecords s (planPass s) cs) (i : CompId) :
    WalkedItem s.alloc.draws cs (compConsumer i) (compDraw s.alloc.draws i) (wantedComp s i) (walkedComp s i) := by
  have record := h.comp i
  have committed := compClass_eq_committed s (planPass s).comps[i] i
  rw [← record.cls] at committed
  refine ⟨compConsumer_ne_lt i, toList_getD_eq _ (show i.val < 6 by omega), fun requested uncommitted => ?_, ?_⟩
  · have asked := record.requested.symm.trans requested
    simp only [Bool.toNat_eq_one] at asked
    simpa [wantedComp, asked] using mt committed.2 uncommitted
  · rw [record.granted, Bool.toNat_eq_one, ne_eq, committed, compGranted]
    have wanted := wantedComp_of_walkedComp (s := s) (i := i)
    by_cases run : inRunMin s i = true
    · have off : walkedComp s i ≠ true := fun on => by simpa [wantedComp, run] using wanted on
      simp [run, off]
    · simp [run, walkedComp]

theorem PassRecords.heaterItem (h : PassRecords s (planPass s) cs) (j : Fin 3) :
    WalkedItem s.alloc.draws cs (heaterConsumer j) (heaterDraw s.alloc.draws j) (planPass s).requests.heaters[j]
      (planPass s).walk.heaters[j] := by
  have record := h.heater j
  have uncommitted : cs[heaterConsumer j].cls ≠ .committed := by
    rw [record.cls]; split <;> decide
  refine ⟨heaterConsumer_ne_lt j, toList_getD_eq _ (show j.val + 2 < 6 by omega), fun requested _ => ?_, ?_⟩
  · simpa using record.requested.symm.trans requested
  · rw [record.granted, Bool.toNat_eq_one, and_iff_left uncommitted]

/-- R71: PF's class is committed exactly where its draw is. -/
theorem PassRecords.pf_committed {p : Plan} (h : PassRecords s p cs) :
    cs[(6 : Fin 8)].cls = .committed ↔ pfCommitted s p.requests.pf = true := by
  rw [h.pf.cls]
  cases pfCommitted s p.requests.pf <;> cases p.requests.pf <;> decide

theorem PassRecords.pfItem (h : PassRecords s (planPass s) cs) :
    WalkedItem s.alloc.draws cs 6 (pfDraw s.alloc.draws)
      ((planPass s).requests.pf && !pfCommitted s (planPass s).requests.pf) (planPass s).walk.pf := by
  have record := h.pf
  have committed := h.pf_committed
  refine ⟨by decide, by simp [pfDraw], fun requested uncommitted => ?_, ?_⟩
  · have asked := record.requested.symm.trans requested
    simp only [Bool.toNat_eq_one] at asked
    simpa [asked] using mt committed.2 uncommitted
  · rw [record.granted, Bool.toNat_eq_one, ne_eq, committed]
    by_cases run : pfCommitted s (planPass s).requests.pf = true
    · have off : (planPass s).walk.pf ≠ true := fun on => by
        rw [planPass_walk] at on
        simpa [run] using walk_pf _ _ _ _ _ _ _ _ on
      simp [run, off]
    · simp [run]

/-! ## The walk over the records -/

/-- R74: the turn of the compressors, lead first. -/
theorem walked_pair {lead : CompId} {a b : Bool} {left : Nat} {g : PairGrant}
    (grant : g = walkPair s.alloc.draws lead a b left)
    (first : WalkedItem s.alloc.draws cs (compConsumer lead) (compDraw s.alloc.draws lead) a g.lead)
    (second : WalkedItem s.alloc.draws cs (compConsumer (otherComp lead)) (compDraw s.alloc.draws (otherComp lead)) b
      g.lag) :
    Walked (MeetsLeft s.alloc.draws cs) (walkDraw s cs) [compConsumer lead, compConsumer (otherComp lead)] left
      g.left := by
  subst grant
  exact (first.walked rfl).append (second.walked rfl)

/-- R74: the turns of PF, the heater stages and LT. -/
theorem walked_middle {rq : Requests} {wantPf : Bool} {left : Nat} {m : MiddleGrant}
    (grant : m = walkMiddle s.alloc.draws rq wantPf left)
    (pf : WalkedItem s.alloc.draws cs 6 (pfDraw s.alloc.draws) wantPf m.pf)
    (heater : ∀ j : Fin 3, WalkedItem s.alloc.draws cs (heaterConsumer j) (heaterDraw s.alloc.draws j) rq.heaters[j]
      m.heaters[j])
    (requested : cs[7].requested = rq.lt) (granted : cs[7].granted = m.lt) :
    Walked (MeetsLeft s.alloc.draws cs) (walkDraw s cs) [6, 3, 4, 5, 7] left m.left := by
  subst grant
  refine (pf.walked rfl).append (((heater 0).walked rfl).append (((heater 1).walked rfl).append
    (((heater 2).walked rfl).append ?_)))
  have lt := walked_lt (s := s) (granted.trans (congrArg (min · _) requested.symm))
  rw [requested] at lt
  exact lt

theorem walkOrder_true (lead : CompId) :
    walkOrder true lead = [compConsumer lead, compConsumer (otherComp lead)] ++ [6, 3, 4, 5, 7] := by
  revert lead; decide

theorem walkOrder_false (lead : CompId) :
    walkOrder false lead = [6, 3, 4, 5, 7] ++ [compConsumer lead, compConsumer (otherComp lead)] := by
  revert lead; decide

theorem walkedComp_lead (s : State) : walkedComp s (planPass s).lead = (planPass s).walk.leadOn := if_pos rfl

theorem walkedComp_other (s : State) : walkedComp s (otherComp (planPass s).lead) = (planPass s).walk.lagOn :=
  if_neg (by generalize (planPass s).lead = i; revert i; decide)

/-- R75: the highest level of FAN in class 6 over its class-2 level, given what the classes before it leave. -/
def topFan (d : Draws) (rq : Requests) (fan2 last : Nat) : Nat :=
  if rq.fanClass2 < rq.fan then highestFan d fan2 last (rq.fan - fan2) else fan2

/-- R74 to R76: the walk of a pass, read off its records: FAN to its class-2 level, the order of classes 2 to 5, and FAN
above it. -/
theorem PassRecords.walked (h : PassRecords s (planPass s) cs) :
    let d := s.alloc.draws
    let p := planPass s
    let w := p.walk
    let start := s.alloc.allowance - p.committed
    w.fan2 = highestFan d 0 start p.requests.fanClass2 ∧ ∃ last,
      Walked (MeetsLeft d cs) (walkDraw s cs) (walkOrder s.climate.protective p.lead) (start - fanDraw d w.fan2) last ∧
      w.fan = topFan d p.requests w.fan2 last ∧ w.left = last - (fanDraw d w.fan - fanDraw d w.fan2) := by
  have lead := h.compItem (planPass s).lead
  have lag := h.compItem (otherComp (planPass s).lead)
  rw [walkedComp_lead] at lead
  rw [walkedComp_other] at lag
  have pf := h.pfItem
  have heater := h.heaterItem
  have lt := h.lt.granted
  have plan := planPass_walk s
  cases protective : s.climate.protective
  · rw [protective, walk_comfort] at plan
    simp only
    rw [plan] at lead lag pf heater lt ⊢
    rw [walkOrder_false]
    exact ⟨rfl, _, (walked_middle rfl pf heater h.lt.requested lt).append (walked_pair rfl lead lag), rfl, rfl⟩
  · rw [protective, walk_protective] at plan
    simp only
    rw [plan] at lead lag pf heater lt ⊢
    rw [walkOrder_true]
    exact ⟨rfl, _, (walked_pair rfl lead lag).append (walked_middle rfl pf heater h.lt.requested lt), rfl, rfl⟩

/-- R60: the granted draw is the sum of what FAN and the items of the walk take. -/
theorem PassRecords.grantedDraw_eq (h : PassRecords s (planPass s) cs) :
    let d := s.alloc.draws
    let w := (planPass s).walk
    grantedDraw d (planPass s).lead w = fanDraw d w.fan2 + (fanDraw d w.fan - fanDraw d w.fan2) +
      ((walkOrder s.climate.protective (planPass s).lead).map (walkDraw s cs)).sum := by
  have lead := (h.compItem (planPass s).lead).walkDraw_eq
  have lag := (h.compItem (otherComp (planPass s).lead)).walkDraw_eq
  rw [walkedComp_lead] at lead
  rw [walkedComp_other] at lag
  have pf := h.pfItem.walkDraw_eq
  have h1 : walkDraw s cs 3 = if (planPass s).walk.heaters[0] then heaterDraw s.alloc.draws 0 else 0 :=
    (h.heaterItem 0).walkDraw_eq
  have h2 : walkDraw s cs 4 = if (planPass s).walk.heaters[1] then heaterDraw s.alloc.draws 1 else 0 :=
    (h.heaterItem 1).walkDraw_eq
  have h3 : walkDraw s cs 5 = if (planPass s).walk.heaters[2] then heaterDraw s.alloc.draws 2 else 0 :=
    (h.heaterItem 2).walkDraw_eq
  have lt : walkDraw s cs 7 = (planPass s).walk.lt := h.lt.granted
  have order : ((walkOrder s.climate.protective (planPass s).lead).map (walkDraw s cs)).sum =
      walkDraw s cs (compConsumer (planPass s).lead) + walkDraw s cs (compConsumer (otherComp (planPass s).lead)) +
        ([6, 3, 4, 5, 7].map (walkDraw s cs)).sum := by
    cases s.climate.protective
    · rw [walkOrder_false, List.map_append, List.sum_append, Nat.add_comm]; rfl
    · rw [walkOrder_true, List.map_append, List.sum_append]; rfl
  simp only [order, lead, lag, grantedDraw, List.map_cons, List.map_nil, List.sum_cons, List.sum_nil, pf, h1, h2, h3,
    lt]
  ring

end

end Sys2Proof.Machine
end

section
/-! The grant event (R89): grants stored, ungranted compressors stopped, lines driven, start tests. -/

namespace Sys2Proof.Machine

/-! ## The stops of step 1 (R89, R94) -/

/-- R92: a compressor with a new stored grant; a grant of 0 ends a blocked episode. -/
def regranted (g : Bool) (c : Compressor) : Compressor := { c with grant := g, blocked := c.blocked && g }

theorem withGrant_eq (g : Bool) (floor : Nat) (c : Compressor) :
    withGrant g floor c = if c.state = .run ∧ g = false then stopped floor (regranted g c) else regranted g c := rfl

theorem withGrant_cfg (g : Bool) (floor : Nat) (c : Compressor) : (withGrant g floor c).cfg = c.cfg := by
  rw [withGrant_eq]; split <;> rfl

/-- What the stops of step 1 post of compressor i. -/
def stopNotice (i : CompId) (c : Compressor) : List (Code × Nat × Int) :=
  if c.state = .run ∧ c.grant = false then [(.compStop, i.val, 0)] else []

theorem stopUngranted_event (i : CompId) (s : State) :
    CompEvent i (stopNotice i s.seq.comps[i]) s (stopUngranted i s) := by
  unfold stopUngranted stopNotice
  simp only
  split
  · exact ⟨rfl, rfl, rfl, ⟨_, rfl⟩, rfl⟩
  · exact ⟨rfl, rfl, rfl, ⟨s.seq.comps[i], by simp⟩, rfl⟩

theorem stopUngranted_comp (i : CompId) (s : State) : (stopUngranted i s).seq.comps[i] =
    if s.seq.comps[i].state = .run ∧ s.seq.comps[i].grant = false then stopped (minOffFloor s) s.seq.comps[i]
    else s.seq.comps[i] := by
  unfold stopUngranted
  simp only
  split
  · simp [stopComp, stopped, Config.ticksPerSecond, Nat.mul_comm]
  · rfl

/-- The state of a grant event after its step 1 (R89). -/
def grantsStored (g : Grants) (s : State) : State := stopUngranted 1 (stopUngranted 0 (modSeq (storeGrants g) s))

theorem storeGrants_comps (g : Grants) (q : Sequencer) (i : CompId) :
    (storeGrants g q).comps[i] = regranted g.comps[i] q.comps[i] := Vector.getElem_mapFinIdx ..

/-- What the stops of a grant event post, C1 first (log 27). -/
def bothStopNotices (g : Grants) (cs : Vector Compressor 2) : List (Code × Nat × Int) :=
  stopNotice 0 (regranted g.comps[(0 : CompId)] cs[(0 : CompId)]) ++
    stopNotice 1 (regranted g.comps[(1 : CompId)] cs[(1 : CompId)])

theorem grantsStored_events (g : Grants) (s : State) : CompEvents (bothStopNotices g s.seq.comps)
    (modSeq (storeGrants g) s) (stopUngranted 0 (modSeq (storeGrants g) s)) (grantsStored g s) := by
  have both := (stopUngranted_event 0 (modSeq (storeGrants g) s)).followedBy (stopUngranted_event 1 _)
  rw [both.second] at both
  simp only [modSeq_seq, storeGrants_comps] at both
  exact both

theorem grantsStored_comp (g : Grants) (s : State) (i : CompId) :
    (grantsStored g s).seq.comps[i] = withGrant g.comps[i] (minOffFloor s) s.seq.comps[i] := by
  have both := grantsStored_events g s
  have stored (j : CompId) : (modSeq (storeGrants g) s).seq.comps[j] = regranted g.comps[j] s.seq.comps[j] :=
    storeGrants_comps ..
  match i with
  | 0 => rw [both.first, stopUngranted_comp, stored, withGrant_eq]; rfl
  | 1 =>
    have floor : minOffFloor (stopUngranted 0 (modSeq (storeGrants g) s)) = minOffFloor s :=
      congrArg (fun a => (limitInForce a 2).toNat) (stopUngranted_event 0 _).alloc
    rw [grantsStored, stopUngranted_comp, both.second, stored, withGrant_eq, floor]
    rfl

/-! ## The lines of steps 2 to 4 (R98 to R101) -/

theorem setLines_seq (s : State) : (setLines s).seq =
    { s.seq with
      heaters := s.seq.heaters.map fun h =>
        { h with line := h.grant && !s.seq.interlock.active && (h.line || heaterConditions s) }
      fanLevel := if s.seq.interlock.active then 0 else s.seq.fanGrant
      failTimer := (driveFan (if s.seq.interlock.active then 0 else s.seq.fanGrant) s.seq).failTimer
      pfLine := s.seq.pfGrant && !s.seq.interlock.active } := rfl

/-! ## The whole event -/

theorem grantEvent_eq (g : Grants) (s : State) : grantEvent g s = startTests (setLines (grantsStored g s)) := rfl

section
variable (g : Grants) (s : State)

/-- R98: the heater stages after a grant event. -/
def heatersAfter : Vector Heater 3 :=
  (storeGrants g s.seq).heaters.map fun h =>
    { h with line := h.grant && !s.seq.interlock.active && (h.line || heaterConditions s) }

theorem heatersAfter_getElem (j : Fin 3) : (heatersAfter g s)[j] =
    ⟨g.heaters[j] && !s.seq.interlock.active && (s.seq.heaters[j].line || heaterConditions s), g.heaters[j]⟩ := by
  simp [heatersAfter, storeGrants]

theorem heaterConditions_grantsStored : heaterConditions (grantsStored g s) = heaterConditions s := by
  have mode : (grantsStored g s).mode = s.mode := by simp [grantsStored]
  rw [heaterConditions, (grantsStored_events g s).seq, mode]
  rfl

/-- R89: the Sequencer after the lines of a grant event are set. -/
theorem setLines_grantsStored_seq : (setLines (grantsStored g s)).seq =
    { s.seq with
      comps := (grantsStored g s).seq.comps
      heaters := heatersAfter g s
      fanLevel := if s.seq.interlock.active then 0 else g.fan
      fanGrant := g.fan
      failTimer := (driveFan (if s.seq.interlock.active then 0 else g.fan) s.seq).failTimer
      pfLine := g.pf && !s.seq.interlock.active
      pfGrant := g.pf } := by
  rw [setLines_seq, heaterConditions_grantsStored, (grantsStored_events g s).seq]
  rfl

/-- R89: the Sequencer after a grant event. -/
theorem grantEvent_seq : (grantEvent g s).seq =
    { s.seq with
      comps := (grantEvent g s).seq.comps
      heaters := heatersAfter g s
      fanLevel := if s.seq.interlock.active then 0 else g.fan
      fanGrant := g.fan
      failTimer := (driveFan (if s.seq.interlock.active then 0 else g.fan) s.seq).failTimer
      pfLine := g.pf && !s.seq.interlock.active
      pfGrant := g.pf } := by
  have tests := (startTests_events (setLines (grantsStored g s))).seq
  rw [← grantEvent_eq] at tests
  refine tests.trans ?_
  rw [setLines_grantsStored_seq]

/-- R91, R94: a compressor at a grant event. -/
theorem grantEvent_tested (i : CompId) :
    StartTested s.pt (startLimit s.alloc s.seq.comps[i]) (mayStart s.seq (grantEvent g s).seq.fanLevel)
      (withGrant g.comps[i] (minOffFloor s) s.seq.comps[i]) (grantEvent g s).seq.comps[i] := by
  have tested := startTests_tested (setLines (grantsStored g s)) i
  have comps : (setLines (grantsStored g s)).seq.comps = (grantsStored g s).seq.comps := by
    rw [setLines_grantsStored_seq]
  have limit : startLimit (setLines (grantsStored g s)).alloc (withGrant g.comps[i] (minOffFloor s) s.seq.comps[i]) =
      startLimit s.alloc s.seq.comps[i] := by
    rw [show (setLines (grantsStored g s)).alloc = s.alloc by simp [grantsStored]]
    exact startLimit_congr (withGrant_cfg ..) _
  have free : mayStart (setLines (grantsStored g s)).seq (setLines (grantsStored g s)).seq.fanLevel =
      mayStart s.seq (grantEvent g s).seq.fanLevel := by
    rw [setLines_grantsStored_seq, grantEvent_seq]; rfl
  rw [← grantEvent_eq, comps, grantsStored_comp, limit, free] at tested
  rw [show s.pt = (setLines (grantsStored g s)).pt by simp [grantsStored]]
  exact tested

/-- R89, R95: the notices of a grant event. -/
theorem grantEvent_ports : (grantEvent g s).ports = (postAll (bothStopNotices g s.seq.comps ++
    bothStartNotices (grantsStored g s).seq.comps (grantEvent g s).seq.comps) s).ports := by
  have stops := (grantsStored_events g s).ports
  have tests := (startTests_events (setLines (grantsStored g s))).ports
  have comps : (setLines (grantsStored g s)).seq.comps = (grantsStored g s).seq.comps := by
    rw [setLines_grantsStored_seq]
  rw [← grantEvent_eq, comps] at tests
  rw [tests, postAll_append]
  refine postAll_ports_congr (by simp [grantsStored]) (by simp [grantsStored]) ?_ _
  rw [show (setLines (grantsStored g s)).ports = (grantsStored g s).ports by simp, stops]
  exact postAll_ports_congr (s := s) (t := modSeq (storeGrants g) s) rfl rfl rfl _

end

end Sys2Proof.Machine
end

section
/-! The notices of a pass (R73, R77, R81, R89 to R92) and the compressors it leaves. -/

namespace Sys2Proof.Machine

/-! ## OVER_COMMIT, SHED and LIMITS_FAULT -/

theorem postIf_eq_postAll (b : Bool) (c : Code) (n : Nat) (v : Int) (s : State) :
    postIf b c n v s = postAll (if b then [(c, n, v)] else []) s := by
  cases b <;> rfl

/-- R77: the notices of a table of consumers that may be shed. -/
def shedNotices (rows : List (Nat × Bool × Bool × Bool)) : List (Code × Nat × Int) :=
  (rows.filter fun r => r.2.1 && !r.2.2.2).map fun r => (.shed, r.1, if r.2.2.1 then 1 else 0)

theorem postSheds_eq_postAll (rows : List (Nat × Bool × Bool × Bool)) (s : State) :
    postSheds rows s = postAll (shedNotices rows) s := by
  induction rows generalizing s with
  | nil => rfl
  | cons r rows ih =>
    rw [postSheds, List.foldl_cons]
    cases shed : r.2.1 && !r.2.2.2
    · rw [shedNotices, List.filter_cons_of_neg (by simp [shed])]
      exact ih s
    · rw [shedNotices, List.filter_cons_of_pos (by exact shed)]
      exact ih _

theorem badLimit_eq_lowestBad (a : Allocator) : badLimit a = lowestBad a := by
  unfold badLimit lowestBad pairGood
  congr 1
  funext k
  simp

/-- R81: the notice of a limits check. -/
def faultNotices (a : Allocator) : List (Code × Nat × Int) :=
  match lowestBad a with
  | none => []
  | some k => if a.limitsFault then [] else [(.limitsFault, k.val, (a.limits[k].value.toNat : Int))]

theorem postLimitsFault_eq_postAll (a : Allocator) (s : State) : postLimitsFault a s = postAll (faultNotices a) s := by
  unfold postLimitsFault faultNotices
  rw [badLimit_eq_lowestBad]
  cases lowestBad a with
  | none => rfl
  | some k => cases a.limitsFault <;> rfl

theorem runs_fan (s : State) : (consumerRuns s 0 && decide (0 < s.seq.fanLevel)) = mayShed s 0 := Bool.and_comm ..

theorem running_and_run (c : Compressor) : (running c && decide (c.state = .run)) = decide (c.state = .run) := by
  unfold running; cases c.state <;> rfl

theorem applied_and_line (line : Bool) (draw : Nat) :
    (decide (0 < if line then draw else 0) && line) = (line && decide (0 < draw)) := by
  cases line <;> simp

section
variable {s : State} {cs : Vector Consumer 8} (h : PassRecords s (planPass s) cs)

/-- The row of the shed table that a consumer record gives (R63, R77). -/
def shedRow (s : State) (cs : Vector Consumer 8) (k : Fin 8) : Nat × Bool × Bool × Bool :=
  (k.val, mayShed s k, decide (0 < cs[k].requested), decide (0 < cs[k].granted))

theorem RecordedItem.shedRow_eq {k : Fin 8} {requested granted : Bool} {cls : ConsumerClass}
    (record : RecordedItem cs[k] requested granted cls) :
    shedRow s cs k = (k.val, mayShed s k, requested, granted) := by
  rw [shedRow, record.requested, record.granted]
  cases requested <;> cases granted <;> rfl

include h in
/-- R63, R77: the rows of the shed table, from the consumer records after the pass. -/
theorem PassRecords.shedTable_eq :
    shedTable s (planPass s) = ([0, 1, 2, 3, 4, 5, 6] : List (Fin 8)).map (shedRow s cs) := by
  have fan : shedRow s cs 0 = (0, mayShed s 0, decide (0 < (planPass s).requests.fan),
      decide (0 < (planPass s).walk.fan)) := by
    rw [← h.fan.requested, ← h.fan.granted]; rfl
  have c1 := RecordedItem.shedRow_eq (s := s) (k := 1) (h.comp 0)
  have c2 := RecordedItem.shedRow_eq (s := s) (k := 2) (h.comp 1)
  have h1 := RecordedItem.shedRow_eq (s := s) (k := 3) (h.heater 0)
  have h2 := RecordedItem.shedRow_eq (s := s) (k := 4) (h.heater 1)
  have h3 := RecordedItem.shedRow_eq (s := s) (k := 5) (h.heater 2)
  have pf := RecordedItem.shedRow_eq (s := s) (k := 6) h.pf
  simp only [List.map_cons, List.map_nil, fan, c1, c2, h1, h2, h3, pf, ← runs_fan]
  rw [show mayShed s 1 = _ from (running_and_run _).symm, show mayShed s 2 = _ from (running_and_run _).symm,
    show mayShed s 3 = _ from (applied_and_line _ _).symm, show mayShed s 4 = _ from (applied_and_line _ _).symm,
    show mayShed s 5 = _ from (applied_and_line _ _).symm, show mayShed s 6 = _ from (applied_and_line _ _).symm]
  rfl

include h in
/-- R77: the SHED notices of a pass, as the statement lists them. -/
theorem PassRecords.shedNotices_eq : shedNotices (shedTable s (planPass s)) =
    ((List.finRange 8).filter fun k => mayShed s k && cs[k].granted = 0).map
      (fun k => (.shed, k.val, if 0 < cs[k].requested then 1 else 0)) := by
  have consumers : List.finRange 8 = [0, 1, 2, 3, 4, 5, 6] ++ [7] := by decide
  have lt : ([7] : List (Fin 8)).filter (fun k => mayShed s k && cs[k].granted = 0) = [] := rfl
  rw [h.shedTable_eq, shedNotices, List.filter_map, List.map_map, consumers, List.filter_append, lt,
    List.append_nil]
  congr 1
  · funext k; simp [shedRow]
  · congr 1; funext k; simp [shedRow, Nat.pos_iff_ne_zero]

end

/-- R73: the notice of an over-commitment that begins. -/
def overNotices (s : State) (committed : Nat) : List (Code × Nat × Int) :=
  if s.alloc.overCommit = false ∧ s.alloc.allowance < committed then
    [(.overCommit, 0, ((min (committed - s.alloc.allowance) 32767 : Nat) : Int))] else []

theorem postOverCommit_eq_postAll (s : State) (p : Plan) (t : State) :
    postOverCommit s p t = postAll (overNotices s p.committed) t := by
  rw [postOverCommit, postIf_eq_postAll, overNotices]
  congr 1
  simp

theorem allocate_committed (s : State) : (allocate s).alloc.committed = (planPass s).committed := by
  rw [allocate_alloc]; rfl

/-- R73, R77, R81: what a pass posts before the Sequencer's notices. -/
theorem passNotices_allocate (s : State) : passNotices s (allocate s) =
    overNotices s (planPass s).committed ++ shedNotices (shedTable s (planPass s)) ++ faultNotices s.alloc := by
  rw [passNotices, (allocate_records s).shedNotices_eq, allocate_committed]
  rfl

/-! ## The limits check of a pass (R81) -/

/-- The state of a pass before its limits check, with the notices of R73 and R77 posted. -/
def passRecorded (s : State) : State :=
  postSheds (shedTable s (planPass s)) (postOverCommit s (planPass s) (recordPass s (planPass s)))

/-- The state whose start limits the limits check refreshes. -/
def limitsBrought (s : State) : State :=
  postLimitsFault (passRecorded s).alloc (modAlloc bringInForce (passRecorded s))

theorem limitsChecked_eq (s : State) : limitsChecked s = refreshLimits (passRecorded s) (limitsBrought s) := rfl

theorem passRecorded_alloc (s : State) : (passRecorded s).alloc = (recordPass s (planPass s)).alloc := by
  simp [passRecorded]

@[simp] theorem passRecorded_pt (s : State) : (passRecorded s).pt = s.pt := by simp [passRecorded]

@[simp] theorem passRecorded_tick (s : State) : (passRecorded s).tick = s.tick := by simp [passRecorded]

@[simp] theorem passRecorded_seq (s : State) : (passRecorded s).seq = s.seq := by simp [passRecorded]

@[simp] theorem limitsBrought_pt (s : State) : (limitsBrought s).pt = s.pt := by simp [limitsBrought]

@[simp] theorem limitsBrought_tick (s : State) : (limitsBrought s).tick = s.tick := by simp [limitsBrought]

@[simp] theorem limitsBrought_seq (s : State) : (limitsBrought s).seq = s.seq := by simp [limitsBrought]

/-- A start limit in force after the pass is that after its limits check. -/
theorem startLimit_allocate (s : State) (c : Compressor) :
    startLimit (allocate s).alloc c = startLimit (limitsChecked s).alloc c := by
  have inForce : (allocate s).alloc.inForce = (limitsChecked s).alloc.inForce := by
    rw [allocate_alloc, limitsChecked_alloc]
  rw [startLimit, startLimit, startCap, startCap, limitInForce, limitInForce, inForce]

theorem limitsChecked_seq (s : State) :
    (limitsChecked s).seq = { s.seq with comps := (limitsChecked s).seq.comps } := by
  have both := (refreshLimits_events (passRecorded s) (limitsBrought s)).seq
  rw [← limitsChecked_eq, limitsBrought_seq] at both
  exact both

/-- R81, R90, R91: a compressor at the limits check of a pass. -/
theorem limitsChecked_moved (s : State) (i : CompId) :
    LimitMoved s.pt (startLimit s.alloc s.seq.comps[i]) (startLimit (allocate s).alloc s.seq.comps[i])
      (mayStart s.seq s.seq.fanLevel) s.seq.comps[i] (limitsChecked s).seq.comps[i] := by
  have moved := refreshLimits_moved (passRecorded s) (limitsBrought s) i
  have before : startLimit (passRecorded s).alloc (passRecorded s).seq.comps[i] =
      startLimit s.alloc s.seq.comps[i] := by
    rw [passRecorded_alloc, passRecorded_seq]; rfl
  have after : startLimit (limitsBrought s).alloc s.seq.comps[i] = startLimit (allocate s).alloc s.seq.comps[i] := by
    rw [startLimit_allocate, limitsChecked_eq]; simp
  rw [← limitsChecked_eq, before, limitsBrought_seq, after, limitsBrought_pt] at moved
  exact moved

/-- R73, R77, R81, R91, R92: the notices of a pass as far as its limits check. -/
theorem limitsChecked_ports (s : State) : (limitsChecked s).ports = (postAll (passNotices s (allocate s) ++
    bothStartNotices s.seq.comps (limitsChecked s).seq.comps) s).ports := by
  have both := (refreshLimits_events (passRecorded s) (limitsBrought s)).ports
  rw [← limitsChecked_eq, limitsBrought_seq] at both
  rw [both, passNotices_allocate, postAll_append]
  refine postAll_ports_congr (by simp) (by simp) ?_ _
  have fault : faultNotices (passRecorded s).alloc = faultNotices s.alloc := by rw [passRecorded_alloc]; rfl
  rw [limitsBrought, postLimitsFault_eq_postAll, fault, postAll_append]
  refine postAll_ports_congr (by simp) (by simp) ?_ _
  rw [show (modAlloc bringInForce (passRecorded s)).ports = (passRecorded s).ports from rfl, passRecorded,
    postSheds_eq_postAll, postOverCommit_eq_postAll, ← postAll_append]
  exact postAll_ports_congr (by simp) (by simp) (by simp) _

end Sys2Proof.Machine
end

section
/-! The pass as a whole (R72): its Sequencer, its notices, its lighting, and the moment it is due. -/

namespace Sys2Proof.Machine

/-! ## The Sequencer, the notices and the lighting of a pass -/

/-- The state of a pass at its grant event. -/
def energyCounted (s : State) : State := energyPass (limitsChecked s)

theorem energyCounted_seq (s : State) :
    (energyCounted s).seq = { s.seq with comps := (limitsChecked s).seq.comps } := by
  rw [← limitsChecked_seq]; simp [energyCounted]

theorem allocate_seq_eq (s : State) : (allocate s).seq = (grantEvent (planPass s).grants (energyCounted s)).seq := by
  simp [allocate_eq, energyCounted]

theorem allocate_ports_eq (s : State) :
    (allocate s).ports = (grantEvent (planPass s).grants (energyCounted s)).ports := by
  simp [allocate_eq, energyCounted]

theorem energyCounted_alloc (s : State) : (energyCounted s).alloc = (allocate s).alloc := (allocate_alloc_eq s).symm

/-- R89, R98 to R101: the Sequencer after a pass. -/
theorem allocate_seq (s : State) : (allocate s).seq =
    let fan := if s.seq.interlock.active then 0 else (planPass s).grants.fan
    { s.seq with
      comps := (allocate s).seq.comps
      heaters := (allocate s).seq.heaters
      fanLevel := fan
      fanGrant := (planPass s).grants.fan
      failTimer := (driveFan fan s.seq).failTimer
      pfLine := (planPass s).grants.pf && !s.seq.interlock.active
      pfGrant := (planPass s).grants.pf } := by
  have counted := energyCounted_seq s
  generalize (limitsChecked s).seq.comps = cs at counted
  rw [allocate_seq_eq]
  generalize (planPass s).grants = g
  generalize energyCounted s = v at *
  refine (grantEvent_seq g v).trans ?_
  have heaters : (grantEvent g v).seq.heaters = heatersAfter g v := by rw [grantEvent_seq]
  rw [heaters, counted]
  rfl

/-- R98: a heater stage after a pass. -/
theorem allocate_heater (s : State) (j : Fin 3) : (allocate s).seq.heaters[j] =
    ⟨(planPass s).grants.heaters[j] && !s.seq.interlock.active && (s.seq.heaters[j].line || heaterConditions s),
      (planPass s).grants.heaters[j]⟩ := by
  have conditions : heaterConditions (energyCounted s) = heaterConditions s := by
    have mode : (energyCounted s).mode = s.mode := by simp [energyCounted, limitsChecked]
    rw [heaterConditions, energyCounted_seq, mode, heaterConditions]
  have heaters : (allocate s).seq.heaters = heatersAfter (planPass s).grants (energyCounted s) := by
    rw [allocate_seq_eq, grantEvent_seq]
  rw [heaters, heatersAfter_getElem, conditions, energyCounted_seq]

/-- R89, R92, R94: a compressor of a pass with its new grant stored, before its start test. -/
def passGranted (s : State) (i : CompId) : Compressor :=
  withGrant (planPass s).grants.comps[i] (minOffFloor (allocate s)) (limitsChecked s).seq.comps[i]

theorem minOffFloor_energyCounted (s : State) : minOffFloor (energyCounted s) = minOffFloor (allocate s) := by
  rw [minOffFloor, minOffFloor, energyCounted_alloc]

/-- R91: a compressor at the start tests of a pass. -/
theorem allocate_tested (s : State) (i : CompId) :
    StartTested s.pt (startLimit (allocate s).alloc s.seq.comps[i]) (mayStart s.seq (allocate s).seq.fanLevel)
      (passGranted s i) (allocate s).seq.comps[i] := by
  have tested := grantEvent_tested (planPass s).grants (energyCounted s) i
  have pt : (energyCounted s).pt = s.pt := by simp [energyCounted, limitsChecked]
  have free (n : Nat) : mayStart (energyCounted s).seq n = mayStart s.seq n := by
    simp only [mayStart, energyCounted_seq]
  have mid : (energyCounted s).seq.comps[i] = (limitsChecked s).seq.comps[i] := by rw [energyCounted_seq]
  rw [free, ← allocate_seq_eq, energyCounted_alloc, pt, minOffFloor_energyCounted, mid,
    startLimit_congr (limitsChecked_moved s i).keeps.1] at tested
  exact tested

theorem grantsStored_energyCounted (s : State) (i : CompId) :
    (grantsStored (planPass s).grants (energyCounted s)).seq.comps[i] = passGranted s i := by
  rw [grantsStored_comp, minOffFloor_energyCounted, energyCounted_seq, passGranted]

/-- R73, R77, R81, R89 to R95: the notices of a pass in their order (log 27). -/
theorem allocate_ports (s : State) : (allocate s).ports = (postAll (passNotices s (allocate s) ++
    bothStartNotices s.seq.comps (limitsChecked s).seq.comps ++
    bothStopNotices (planPass s).grants (limitsChecked s).seq.comps ++
    startNotices 0 (passGranted s 0) (allocate s).seq.comps[(0 : CompId)] ++
    startNotices 1 (passGranted s 1) (allocate s).seq.comps[(1 : CompId)]) s).ports := by
  have event := grantEvent_ports (planPass s).grants (energyCounted s)
  have comps : (energyCounted s).seq.comps = (limitsChecked s).seq.comps := by rw [energyCounted_seq]
  rw [comps, ← allocate_seq_eq, ← allocate_ports_eq, bothStartNotices, grantsStored_energyCounted,
    grantsStored_energyCounted] at event
  rw [event, List.append_assoc, List.append_assoc, postAll_append (passNotices s (allocate s) ++ _)]
  refine postAll_ports_congr ?_ ?_ ?_ _
  · simp [energyCounted, limitsChecked]
  · simp [energyCounted, limitsChecked]
  · rw [← limitsChecked_ports]; simp [energyCounted]

theorem allocate_light (s : State) : (allocate s).light = evalCap { s.light with grant := (planPass s).walk.lt } := by
  simp [allocate_eq, takeLtGrant, limitsChecked]

/-- Posting touches the notice store of a port alone (R160). -/
theorem postAll_port (ns : List (Code × Nat × Int)) (s : State) (q : PortId) :
    (postAll ns s).ports[q] = { s.ports[q] with notices := (postAll ns s).ports[q].notices } := by
  induction ns generalizing s with
  | nil => rfl
  | cons n ns ih =>
    refine (ih (post n.1 n.2.1 n.2.2 s)).trans ?_
    rw [post_ports]
    rfl

/-- A pass touches the allocator, the Sequencer, the lighting, the notices and the free value counter. -/
theorem allocate_touches (s : State) : allocate s =
    { s with
      alloc := (allocate s).alloc, seq := (allocate s).seq, light := (allocate s).light, ports := (allocate s).ports
      freeSeq := (allocate s).freeSeq } := by
  have frame := allocate_frame s
  generalize allocate s = t at frame
  cases t
  simpa using frame

/-! ## The moment of the pass (log 2) -/

/-- The state in which a pass is made when it is due. -/
def atPass (s : State) : State :=
  { elapse s.timers.pass s with timers := { (elapse s.timers.pass s).timers with pass := 200 } }

theorem exec_allocationPass (s : State) : exec .allocationPass s = .next (allocate (atPass s)) := rfl

section
variable (s : State) (i : CompId)

@[simp] theorem atPass_watches : (atPass s).watches = s.watches := by simp [atPass]

@[simp] theorem atPass_climate : (atPass s).climate = s.climate := by simp [atPass]

@[simp] theorem atPass_mode : (atPass s).mode = s.mode := by simp [atPass]

@[simp] theorem atPass_alloc : (atPass s).alloc = s.alloc := by simp [atPass]

@[simp] theorem atPass_cover : (atPass s).cover = s.cover := by simp [atPass]

@[simp] theorem atPass_light : (atPass s).light = s.light := by simp [atPass]

@[simp] theorem atPass_heaters : (atPass s).seq.heaters = s.seq.heaters := by simp [atPass]

@[simp] theorem atPass_fanLevel : (atPass s).seq.fanLevel = s.seq.fanLevel := by simp [atPass]

@[simp] theorem atPass_pfLine : (atPass s).seq.pfLine = s.seq.pfLine := by simp [atPass]

@[simp] theorem atPass_interlock : (atPass s).seq.interlock = s.seq.interlock := by simp [atPass]

@[simp] theorem atPass_fanProof : (atPass s).seq.fanProof = s.seq.fanProof := by simp [atPass]

@[simp] theorem atPass_proof : (atPass s).seq.proof = s.seq.proof := by simp [atPass]

/-- Part time leaves of a compressor all but its timers. -/
theorem atPass_comp : (atPass s).seq.comps[i] = { s.seq.comps[i] with
    offTimer := (atPass s).seq.comps[i].offTimer, onTimer := (atPass s).seq.comps[i].onTimer } := by
  have comps : (atPass s).seq.comps[i] = (elapse s.timers.pass s).seq.comps[i] := rfl
  rw [comps, elapse_comps]
  split <;> rfl

theorem atPass_cfg : (atPass s).seq.comps[i].cfg = s.seq.comps[i].cfg := by rw [atPass_comp]

theorem atPass_state : (atPass s).seq.comps[i].state = s.seq.comps[i].state := by rw [atPass_comp]

theorem atPass_history : (atPass s).seq.comps[i].history = s.seq.comps[i].history := by rw [atPass_comp]

theorem atPass_runSeconds : (atPass s).seq.comps[i].runSeconds = s.seq.comps[i].runSeconds := by rw [atPass_comp]

theorem running_atPass : running (atPass s).seq.comps[i] = running s.seq.comps[i] := by
  rw [running, running, atPass_state]

theorem startLimit_atPass (a : Allocator) : startLimit a (atPass s).seq.comps[i] = startLimit a s.seq.comps[i] :=
  startLimit_congr (atPass_cfg s i) a

theorem inRunMin_atPass : inRunMin (atPass s) i = inRunMin s i := by
  rw [inRunMin, inRunMin, atPass_state]

end

theorem formRequests_atPass (s : State) : formRequests (atPass s) = formRequests s := by
  simp [formRequests, withdrawn]

theorem pfCommitted_atPass (s : State) (wanted : Bool) : pfCommitted (atPass s) wanted = pfCommitted s wanted := by
  simp [pfCommitted, alertTripped]

theorem committedDraw_atPass (s : State) (rq : Requests) : committedDraw (atPass s) rq = committedDraw s rq := by
  simp [committedDraw, inRunMin_atPass, pfCommitted_atPass]

theorem nextLead_eq (s : State) : nextLead s =
    if running s.seq.comps[(0 : CompId)] then
      if running s.seq.comps[(1 : CompId)] then s.alloc.lead else 0
    else if running s.seq.comps[(1 : CompId)] then 1
    else if s.seq.comps[(1 : CompId)].runSeconds < s.seq.comps[(0 : CompId)].runSeconds then 1 else 0 := by
  unfold nextLead
  split <;> simp_all

theorem nextLead_atPass (s : State) : nextLead (atPass s) = nextLead s := by
  simp only [nextLead_eq, running_atPass, atPass_runSeconds, atPass_alloc]

theorem walkDraw_atPass (s : State) : walkDraw (atPass s) = walkDraw s := by
  funext cs k
  simp [walkDraw]

theorem leftBefore_atPass (s : State) : leftBefore (atPass s) = leftBefore s := by
  funext cs order left k
  simp [leftBefore, walkDraw_atPass]

end Sys2Proof.Machine
end

section
/-! The walk of a pass against its records: nothing lost or made, what fits is granted (R73 to R79). -/

namespace Sys2Proof.Machine

/-! ## The allowance record of a pass -/

/-- What a plan writes into the allowance record. -/
structure PassAllowance (s : State) (p : Plan) (a : Allocator) : Prop where
  allowance : a.allowance = s.alloc.allowance
  draws : a.draws = s.alloc.draws
  committed : a.committed = p.committed
  remaining : a.remaining = p.walk.left
  granted : a.granted = grantedDraw s.alloc.draws p.lead p.walk
  overCommit : a.overCommit = decide (s.alloc.allowance < p.committed)
  heatHeld : a.heatHeld = heatHeldOf p
  dehumHeld : a.dehumHeld = dehumHeldOf p
  lead : a.lead = p.lead
  count : a.count = p.requests.count
  heaterReq : a.heaterReq = p.requests.heaters
  limits : a.limits = s.alloc.limits
  limitsFault : a.limitsFault = nextFault s.alloc
  inForce : a.inForce = if nextFault s.alloc then builtinLimits else s.alloc.limits.map LimitPair.value
  ltDraw : a.ltDraw = floorDraw s.light

theorem allocate_allowance (s : State) : PassAllowance s (planPass s) (allocate s).alloc := by
  rw [allocate_alloc]
  exact ⟨rfl, rfl, rfl, rfl, rfl, rfl, rfl, rfl, rfl, rfl, rfl, rfl, rfl, rfl, rfl⟩

theorem planPass_requests (s : State) : (planPass (atPass s)).requests = formRequests s := formRequests_atPass s

theorem planPass_committed (s : State) : (planPass (atPass s)).committed = committedDraw s (formRequests s) := by
  rw [← planPass_requests, ← committedDraw_atPass]; rfl

/-! ## The records of whole items -/

theorem RecordedItem.levels {c : Consumer} {r g : Bool} {cls : ConsumerClass} (h : RecordedItem c r g cls)
    (asked : g = true → r = true) :
    c.granted ≤ 1 ∧ (c.requested = 0 → c.granted = 0) ∧ (c.held = true ↔ c.requested = 1 ∧ c.granted = 0) := by
  rw [h.requested, h.granted, h.held]
  cases g
  · cases r <;> decide
  · rw [asked rfl]; decide

/-- The consumers that are whole items. -/
theorem consumer_cases : ∀ k : Fin 8, k ≠ 0 → k ≠ 7 →
    (∃ i, k = compConsumer i) ∨ (∃ j, k = heaterConsumer j) ∨ k = 6 := by decide

theorem compGranted_asked {s : State} {i : CompId}
    (on : compGranted s (planPass s).lead (planPass s).comps (planPass s).walk i = true) :
    (planPass s).comps[i] = true := by
  rw [compGranted] at on
  split at on
  · exact on
  · have wanted := wantedComp_of_walkedComp (s := s) (i := i) on
    rw [wantedComp, Bool.and_eq_true] at wanted
    exact wanted.1

theorem walk_heater (d : Draws) (rq : Requests) (lead : CompId) (protective wantLead wantLag wantPf : Bool)
    (left0 : Nat) (j : Fin 3) (on : (walk d rq lead protective wantLead wantLag wantPf left0).heaters[j] = true) :
    rq.heaters[j] = true := by
  match j with
  | 0 => exact (fits_eq_true.1 on).1
  | 1 => exact (fits_eq_true.1 on).1
  | 2 => exact (fits_eq_true.1 on).1

theorem grants_pf (s : State) : (planPass s).grants.pf =
    (pfCommitted s (planPass s).requests.pf || (planPass s).walk.pf) := rfl

theorem pfGrant_asked {s : State} (on : (planPass s).grants.pf = true) : (planPass s).requests.pf = true := by
  rw [grants_pf] at on
  rcases Bool.or_eq_true_iff.1 on with committed | walked
  · exact (Bool.and_eq_true_iff.1 committed).1
  · rw [planPass_walk] at walked
    exact (Bool.and_eq_true_iff.1 (walk_pf _ _ _ _ _ _ _ _ walked)).1

/-- R74: a whole item is granted at most once, not unasked, and held where it is refused. -/
theorem PassRecords.levels {s : State} {cs : Vector Consumer 8} (h : PassRecords s (planPass s) cs) {k : Fin 8}
    (fan : k ≠ 0) (lt : k ≠ 7) :
    cs[k].granted ≤ 1 ∧ (cs[k].requested = 0 → cs[k].granted = 0) ∧
      (cs[k].held = true ↔ cs[k].requested = 1 ∧ cs[k].granted = 0) := by
  rcases consumer_cases k fan lt with ⟨i, rfl⟩ | ⟨j, rfl⟩ | rfl
  · exact (h.comp i).levels compGranted_asked
  · exact (h.heater j).levels fun on => walk_heater _ _ _ _ _ _ _ _ _ (planPass_walk s ▸ on)
  · exact h.pf.levels pfGrant_asked

/-! ## FAN (R75) -/

theorem topFan_of_le {d : Draws} {rq : Requests} {fan2 last : Nat} (low : rq.fan ≤ rq.fanClass2) :
    topFan d rq fan2 last = fan2 := if_neg (Nat.not_lt.2 low)

/-- R75: above its class-2 level FAN has the highest level that fits. -/
theorem topFan_spec {d : Draws} {rq : Requests} {fan2 last : Nat} (base : fan2 ≤ rq.fanClass2)
    (above : rq.fanClass2 < rq.fan) :
    let f := topFan d rq fan2 last
    fan2 ≤ f ∧ f ≤ rq.fan ∧ fanDraw d f - fanDraw d fan2 ≤ last ∧
      ∀ k, f < k → k ≤ rq.fan → last < fanDraw d k - fanDraw d fan2 := by
  have spec := highestFan_spec d fan2 last (rq.fan - fan2)
  rw [Nat.add_sub_cancel' (by omega)] at spec
  rw [topFan, if_pos above]
  exact spec

theorem topFan_fits (d : Draws) (rq : Requests) (fan2 last : Nat) (base : fan2 ≤ rq.fanClass2) :
    fanDraw d (topFan d rq fan2 last) - fanDraw d fan2 ≤ last := by
  rcases Nat.lt_or_ge rq.fanClass2 rq.fan with above | low
  · obtain ⟨-, -, fits, -⟩ := topFan_spec (d := d) (last := last) base above
    exact fits
  · rw [topFan_of_le low]; omega

/-- R75: up to its class-2 level FAN has the highest level that fits. -/
theorem lowFan_spec (d : Draws) (start low : Nat) :
    let f := highestFan d 0 start low
    f ≤ low ∧ fanDraw d f ≤ start ∧ ∀ k, f < k → k ≤ low → start < fanDraw d k := by
  have spec := highestFan_spec d 0 start low
  simp only [Nat.zero_add, show fanDraw d 0 = 0 from rfl, Nat.sub_zero] at spec
  exact spec.2

/-! ## Nothing lost or made (R60) -/

theorem PassRecords.granted_add_left {s : State} {cs : Vector Consumer 8} (h : PassRecords s (planPass s) cs) :
    grantedDraw s.alloc.draws (planPass s).lead (planPass s).walk + (planPass s).walk.left =
      s.alloc.allowance - (planPass s).committed := by
  obtain ⟨fan2, last, walked, fan, left⟩ := h.walked
  obtain ⟨base, fit, -⟩ := lowFan_spec s.alloc.draws (s.alloc.allowance - (planPass s).committed)
    (planPass s).requests.fanClass2
  rw [← fan2] at base fit
  have extra := topFan_fits s.alloc.draws (planPass s).requests _ last base
  rw [← fan] at extra
  have total := walked.sum_add
  rw [h.grantedDraw_eq, left]
  omega

/-- R73: the committed draw, read off the records. -/
theorem PassRecords.committed_eq {s : State} {cs : Vector Consumer 8} (h : PassRecords s (planPass s) cs) :
    (planPass s).committed = floorDraw s.light +
      (if s.seq.comps[(0 : CompId)].state = .runMin then s.alloc.draws.items[0] else 0) +
      (if s.seq.comps[(1 : CompId)].state = .runMin then s.alloc.draws.items[1] else 0) +
      (if cs[6].cls = .committed then s.alloc.draws.items[5] else 0) := by
  have pf : cs[6].cls = .committed ↔ pfCommitted s (planPass s).requests.pf = true := h.pf_committed
  have committed : (planPass s).committed = committedDraw s (planPass s).requests := rfl
  simp only [committed, committedDraw, inRunMin, decide_eq_true_eq, pf]
  rfl

theorem mem_walkOrder : ∀ (protective : Bool) (lead : CompId) (k : Fin 8), k ≠ 0 → k ∈ walkOrder protective lead := by
  decide

/-- R74: consumer k of the walk has met what those before it leave. -/
theorem PassRecords.meets {s : State} {cs : Vector Consumer 8} {left last : Nat}
    (walked : Walked (MeetsLeft s.alloc.draws cs) (walkDraw s cs) (walkOrder s.climate.protective (planPass s).lead)
      left last) {k : Fin 8} (fan : k ≠ 0) :
    MeetsLeft s.alloc.draws cs k
      (leftBefore s cs (walkOrder s.climate.protective (planPass s).lead) left k) :=
  walked.meets_of_mem (mem_walkOrder _ _ k fan)

/-- R74, R75: what FAN, the whole items and LT have taken of a start of the walk, as the statement says it. -/
theorem PassRecords.walk_clause {s : State} {cs : Vector Consumer 8} (h : PassRecords s (planPass s) cs) :
    let d := s.alloc.draws
    let order := walkOrder s.climate.protective (planPass s).lead
    let low := cs[0].class2
    let start := s.alloc.allowance - (planPass s).committed
    ∃ f : Nat, f ≤ low ∧
      let left := start - fanDraw d f
      let last := left - (order.map (walkDraw s cs)).sum
      fanDraw d f ≤ start ∧ (∀ k, f < k → k ≤ low → start < fanDraw d k) ∧
      (∀ k : Fin 8, k ≠ 0 → k ≠ 7 → cs[k].requested = 1 → cs[k].cls ≠ .committed →
        (cs[k].granted = 1 ↔ d.items.toList.getD (k.val - 1) 0 ≤ leftBefore s cs order left k)) ∧
      cs[7].granted = min cs[7].requested (leftBefore s cs order left 7) ∧
      (cs[0].requested ≤ low → cs[0].granted = f) ∧
      (low < cs[0].requested → f ≤ cs[0].granted ∧ cs[0].granted ≤ cs[0].requested ∧
        fanDraw d cs[0].granted - fanDraw d f ≤ last ∧
        ∀ k, cs[0].granted < k → k ≤ cs[0].requested → last < fanDraw d k - fanDraw d f) ∧
      (planPass s).walk.left = last - (fanDraw d cs[0].granted - fanDraw d f) ∧
      grantedDraw d (planPass s).lead (planPass s).walk =
        fanDraw d f + (fanDraw d cs[0].granted - fanDraw d f) + (order.map (walkDraw s cs)).sum := by
  intro d order low start
  obtain ⟨fan2, last, walked, fan, left⟩ := h.walked
  obtain ⟨base, fit, higher⟩ := lowFan_spec d start (planPass s).requests.fanClass2
  rw [← fan2] at base fit higher
  have class2 : low = (planPass s).requests.fanClass2 := h.fan.class2
  have requested : cs[0].requested = (planPass s).requests.fan := h.fan.requested
  have granted : cs[0].granted = (planPass s).walk.fan := h.fan.granted
  have lasts : start - fanDraw d (planPass s).walk.fan2 - (order.map (walkDraw s cs)).sum = last :=
    Nat.sub_eq_of_eq_add' walked.sum_add.symm
  refine ⟨(planPass s).walk.fan2, class2 ▸ base, fit, class2 ▸ higher, fun k notFan notLt => ?_, ?_, fun whole => ?_,
    fun above => ?_, ?_, ?_⟩
  · have met := PassRecords.meets walked notFan
    rwa [MeetsLeft, if_neg notLt] at met
  · exact PassRecords.meets walked (k := 7) (by decide)
  · rw [granted, fan, topFan_of_le (by omega)]
  · rw [lasts, granted, requested, fan]
    exact topFan_spec base (by omega)
  · rw [lasts, granted, left]
  · rw [granted, h.grantedDraw_eq]

theorem PassRecords.fan_held {s : State} {p : Plan} {cs : Vector Consumer 8} (h : PassRecords s p cs) :
    cs[(0 : Fin 8)].held = true ↔ cs[(0 : Fin 8)].granted < cs[(0 : Fin 8)].requested := by
  rw [h.fan.held, h.fan.granted, h.fan.requested, decide_eq_true_eq]

theorem PassRecords.lt_held {s : State} {p : Plan} {cs : Vector Consumer 8} (h : PassRecords s p cs) :
    cs[(7 : Fin 8)].held = true ↔ 0 < cs[(7 : Fin 8)].requested ∧ cs[(7 : Fin 8)].granted = 0 := by
  rw [h.lt.held, h.lt.granted, h.lt.requested, Bool.and_eq_true, decide_eq_true_eq, decide_eq_true_eq]

/-- R78: HEAT_HELD, read off the records. -/
theorem PassRecords.heatHeld_iff {s : State} {cs : Vector Consumer 8} (h : PassRecords s (planPass s) cs) :
    heatHeldOf (planPass s) = true ↔ cs[3].held = true ∨ cs[4].held = true ∨ cs[5].held = true := by
  have h1 : cs[3].held = _ := (h.heater 0).held
  have h2 : cs[4].held = _ := (h.heater 1).held
  have h3 : cs[5].held = _ := (h.heater 2).held
  rw [h1, h2, h3, ← or_assoc, ← Bool.or_eq_true, ← Bool.or_eq_true]
  rfl

/-- R78: DEHUM_HELD, read off the records. -/
theorem PassRecords.dehumHeld_iff {s : State} {cs : Vector Consumer 8} (h : PassRecords s (planPass s) cs) :
    dehumHeldOf (planPass s) = true ↔ cs[1].held = true ∨ cs[2].held = true := by
  have h1 : cs[1].held = _ := (h.comp 0).held
  have h2 : cs[2].held = _ := (h.comp 1).held
  rw [h1, h2, ← Bool.or_eq_true]
  rfl

/-- Settles O42: the walk read off the records of the pass. -/
theorem allowanceIsNeverOverspent : Obligations.AllowanceIsNeverOverspent := by
  intro s
  have a := allocate_allowance (atPass s)
  have h := allocate_records (atPass s)
  have committed := h.committed_eq
  have walk := h.walk_clause
  simp only [leftBefore_atPass, walkDraw_atPass, atPass_climate, atPass_alloc, atPass_light, atPass_state]
    at committed walk
  refine ⟨allocate (atPass s), exec_allocationPass s, ?_, ?_, ?_, ?_, ?_, ?_, ?_,
    ⟨allocate_touches (atPass s), fun q => ?_⟩, ⟨?_, ?_, ?_, ?_, fun g => ?_⟩,
    ?_, fun i run => ?_, fun cls => ?_, ?_, fun k fan lt => h.levels fan lt, h.fan_held, h.lt_held, ?_, ?_⟩
  -- The allowance record and the lighting grant.
  · rw [a.allowance, atPass_alloc]
  · rw [a.draws, atPass_alloc]
  · rw [a.committed, planPass_committed]
  · rw [a.granted, a.remaining, a.committed, h.granted_add_left, atPass_alloc]
  · rw [a.overCommit, a.committed, atPass_alloc, decide_eq_true_eq]
  · rw [a.granted, allocate_light]; exact Nat.le_add_left ..
  · rw [allocate_light]; exact h.lt.granted.symm
  -- What the pass touches.
  · rw [allocate_ports]
    exact postAll_port _ _ q
  · rw [allocate_light]; exact evalCap_sound _
  · rw [allocate_light, ← atPass_light s]; rfl
  · rw [allocate_light, ← atPass_light s]; rfl
  · rw [allocate_light, ← atPass_light s]; rfl
  · rw [allocate_light, ← atPass_light s]
    exact (evalCap_groups _ g).trans (by rw [evalCap_groups])
  -- The committed draws, the walk and the held flags.
  · rw [a.committed]; exact committed
  · have kept : inRunMin (atPass s) i = true := by rw [inRunMin_atPass]; exact decide_eq_true run
    exact (h.comp i).granted.trans ((congrArg Bool.toNat (if_pos kept)).trans (h.comp i).requested.symm)
  · exact h.pf.granted.trans (by rw [h.pf_committed.1 cls]; rfl)
  · rw [a.committed, a.remaining, a.granted, a.lead, atPass_alloc]; exact walk
  · rw [a.heatHeld]; exact h.heatHeld_iff
  · rw [a.dehumHeld]; exact h.dehumHeld_iff

end Sys2Proof.Machine
end

section
/-! The requests of a pass, its lead and the place of its count (R64 to R71). -/

namespace Sys2Proof.Machine

/-! ## The requests (R64 to R68) -/

theorem withdrawn_iff (s : State) :
    withdrawn s = true ↔ s.mode.mode = .service ∨ s.seq.interlock.active = true := by
  simp [withdrawn]

/-- R64: the count with its hysteresis; a count above 2 is read as 2. -/
theorem nextCount_eq (old dd : Nat) : nextCount old dd =
    if 700 ≤ dd ∨ (600 ≤ dd ∧ 2 ≤ old) then 2 else if 300 ≤ dd ∨ (200 ≤ dd ∧ 1 ≤ old) then 1 else 0 := by
  match old with
  | 0 => simp [nextCount]
  | 1 =>
    have start : 300 ≤ dd ∨ 200 ≤ dd ↔ 200 ≤ dd := by omega
    simp [nextCount, start]
  | n + 2 =>
    have two : 700 ≤ dd ∨ 600 ≤ dd ↔ 600 ≤ dd := by omega
    have one : 300 ≤ dd ∨ 200 ≤ dd ↔ 200 ≤ dd := by omega
    simp [nextCount, two, one]

/-- R65: a stage's request with its hysteresis. -/
theorem nextHeater_iff {on off : Nat} (band : off ≤ on) (was : Bool) (dh : Nat) :
    nextHeater on off was dh = true ↔ on ≤ dh ∨ (off ≤ dh ∧ was = true) := by
  cases was
  · simp [nextHeater]
  · simp only [nextHeater, if_true, decide_eq_true_eq, and_true]; omega

/-- R53: the fan's minimum level. -/
theorem fanMinimum_eq (m : Mode) : fanMinimum m = if m = .hallOpen ∨ m = .preopen then 2 else 1 := by
  cases m <;> rfl

theorem pfWanted_iff (p : Prog) :
    pfWanted p = true ↔ p = .purge ∨ p = .preopen ∨ p = .alert ∨ p = .disagree := by
  cases p <;> simp [pfWanted]

section
variable (s : State)

theorem formRequests_count : (formRequests s).count =
    if withdrawn s then 0 else nextCount s.alloc.count s.climate.dd := rfl

theorem formRequests_heater (j : Fin 3) : (formRequests s).heaters[j] =
    (!withdrawn s && (nextHeaters s.alloc.heaterReq s.climate.dh)[j]) := by
  rw [formRequests]
  cases withdrawn s
  · rfl
  · match j with
    | 0 => rfl
    | 1 => rfl
    | 2 => rfl

/-- R65, R68: a stage is requested by its hysteresis, unless the requests are withdrawn. -/
theorem formRequests_heater_iff (j : Fin 3) {on off : Nat} (band : off ≤ on)
    (stage : (nextHeaters s.alloc.heaterReq s.climate.dh)[j] = nextHeater on off s.alloc.heaterReq[j] s.climate.dh) :
    (formRequests s).heaters[j] = true ↔ ¬(s.mode.mode = .service ∨ s.seq.interlock.active = true) ∧
      (on ≤ s.climate.dh ∨ (off ≤ s.climate.dh ∧ s.alloc.heaterReq[j] = true)) := by
  rw [formRequests_heater, stage, Bool.and_eq_true, nextHeater_iff band, ← withdrawn_iff, Bool.not_eq_true,
    Bool.not_eq_true']

/-- R66, R67: the class-2 level of FAN: the minimum of the mode and the airflow of a requested compressor. -/
theorem formRequests_class2 : (formRequests s).fanClass2 = if s.seq.interlock.active = true then 0 else
    max (if s.mode.mode = .hallOpen ∨ s.mode.mode = .preopen then 2 else 1)
      (if 0 < (formRequests s).count then 2 else 0) := by
  rw [← fanMinimum_eq]; rfl

/-- R66: the level of FAN: its class-2 level or that of the larger demand. -/
theorem formRequests_fan : (formRequests s).fan = if s.seq.interlock.active = true then 0 else
    max (max (if s.mode.mode = .hallOpen ∨ s.mode.mode = .preopen then 2 else 1)
      (if 0 < (formRequests s).count then 2 else 0)) (fanDemand (max s.climate.dh s.climate.dd)) := by
  rw [← fanMinimum_eq]; rfl

theorem formRequests_pf_iff : (formRequests s).pf = true ↔ s.seq.interlock.active = false ∧
    (s.cover.prog = .purge ∨ s.cover.prog = .preopen ∨ s.cover.prog = .alert ∨ s.cover.prog = .disagree) := by
  rw [← pfWanted_iff, and_comm]
  simp [formRequests]

theorem pfCommitted_iff (wanted : Bool) : pfCommitted s wanted = true ↔
    wanted = true ∧ (s.cover.prog = .alert ∨ (s.cover.prog = .preopen ∧ alertTripped s = true)) := by
  simp [pfCommitted]

end

/-! ## The lead and the place of the count (R69, R70) -/

section
variable {s : State} {a b : Bool} (first : running s.seq.comps[(0 : CompId)] = a)
  (second : running s.seq.comps[(1 : CompId)] = b)
include first second

theorem nextLead_of_running : nextLead s = match a, b with
    | true, true => s.alloc.lead
    | true, false => 0
    | false, true => 1
    | false, false => if s.seq.comps[(1 : CompId)].runSeconds < s.seq.comps[(0 : CompId)].runSeconds then 1 else 0 := by
  rw [nextLead_eq, first, second]
  cases a <;> cases b <;> rfl

end

section
variable (s : State) (lead : CompId)

theorem placeCount_zero (i : CompId) : (placeCount 0 lead s)[i] = false := by
  match i with
  | 0 => rfl
  | 1 => rfl

theorem placeCount_two (i : CompId) : (placeCount 2 lead s)[i] = true := by
  match i with
  | 0 => rfl
  | 1 => rfl

/-- R70: a count of 1 requests one compressor. -/
theorem placeCount_one (i : CompId) : (placeCount 1 lead s)[i] = decide (requestedOne lead s = i) := by
  match i with
  | 0 => rfl
  | 1 => rfl

/-- R70: the lead is passed over where it is off and cannot start and the other can. -/
theorem requestedOne_eq : requestedOne lead s =
    if cannotStart s s.seq.comps[lead] = true ∧ canStart s s.seq.comps[otherComp lead] = true then otherComp lead
    else lead := by
  simp [requestedOne]

end

end Sys2Proof.Machine
end

section
/-! The pass as the statement lists it: requests, lead, classes, limits, energy, grants and lines (R61 to R101). -/

namespace Sys2Proof.Machine

/-! ## What the moment of the pass does not move -/

theorem mayShed_atPass (s : State) : mayShed (atPass s) = mayShed s := by
  funext k
  match k with
  | 1 => exact congrArg (fun x => decide (x = CompState.run)) (atPass_state s 0)
  | 2 => exact congrArg (fun x => decide (x = CompState.run)) (atPass_state s 1)
  | 0 | 3 | 4 | 5 | 6 | 7 => simp [mayShed]

theorem passNotices_atPass (s t : State) : passNotices (atPass s) t = passNotices s t := by
  simp only [passNotices, mayShed_atPass, atPass_alloc]

theorem mayStart_atPass (s : State) (level : Nat) : mayStart (atPass s).seq level = mayStart s.seq level := by
  simp [mayStart]

theorem heaterConditions_atPass (s : State) : heaterConditions (atPass s) = heaterConditions s := by
  simp [heaterConditions]

/-! ## The count placed (R70) -/

theorem cannotStart_iff (s : State) (c : Compressor) : cannotStart s c = true ↔
    c.state = .offLocked ∨ (c.state = .offReady ∧ atStartLimit s c = true) := by
  simp [cannotStart]

theorem canStart_iff (s : State) (c : Compressor) : canStart s c = true ↔
    c.state = .offReady ∧ ¬atStartLimit s c = true := by
  simp [canStart]

/-- R70: a compressor is at its start limit when the pass is due. -/
theorem atStartLimit_atPass_iff (s : State) (i : CompId) :
    atStartLimit (atPass s) (atPass s).seq.comps[i] = true ↔ startLimit s.alloc s.seq.comps[i] ≤
      ((s.seq.comps[i]).history.filter fun e => ((elapse s.timers.pass s).pt - e).toNat < 3600).length := by
  rw [atStartLimit, decide_eq_true_eq, startLimit_atPass, atPass_history, atPass_alloc]
  rfl

/-- R70: the requests of the compressors, read off their records. -/
theorem PassRecords.placed {s : State} {cs : Vector Consumer 8} (h : PassRecords s (planPass s) cs) {i j : CompId}
    (lead : i = (planPass s).lead) (other : j ≠ i) :
    let n := (planPass s).requests.count
    let pass := cannotStart s s.seq.comps[i] = true ∧ canStart s s.seq.comps[j] = true
    (n = 0 → cs[compConsumer i].requested = 0 ∧ cs[compConsumer j].requested = 0) ∧
    (n = 2 → cs[compConsumer i].requested = 1 ∧ cs[compConsumer j].requested = 1) ∧
    (n = 1 → pass → cs[compConsumer i].requested = 0 ∧ cs[compConsumer j].requested = 1) ∧
    (n = 1 → ¬pass → cs[compConsumer i].requested = 1 ∧ cs[compConsumer j].requested = 0) := by
  have place (k : CompId) : cs[compConsumer k].requested =
      ((placeCount (planPass s).requests.count (planPass s).lead s)[k]).toNat := (h.comp k).requested
  obtain rfl := eq_otherComp other
  simp only [place, ← lead]
  refine ⟨fun n => ?_, fun n => ?_, fun n pass => ?_, fun n stay => ?_⟩
  · rw [n, placeCount_zero, placeCount_zero]; exact ⟨rfl, rfl⟩
  · rw [n, placeCount_two, placeCount_two]; exact ⟨rfl, rfl⟩
  · rw [n, placeCount_one, placeCount_one, requestedOne_eq, if_pos pass]; simp [other]
  · rw [n, placeCount_one, placeCount_one, requestedOne_eq, if_neg stay]; simp [other.symm]

/-! ## Limits and energy (R81, R82) -/

/-- R81: LIMITS_FAULT after a pass. -/
theorem nextFault_iff (a : Allocator) : nextFault a = true ↔
    a.limitsFault = true ∨ ∃ k : Fin 4, a.limits[k].complement ≠ ~~~a.limits[k].value := by
  simp [nextFault, badLimit_eq_lowestBad, lowestBad]

/-- R63: an applied draw depends on the draws, the compressors, the lines and the lighting alone. -/
theorem appliedDraw_congr {s t : State} (draws : t.alloc.draws = s.alloc.draws) (fan : t.seq.fanLevel = s.seq.fanLevel)
    (comps : t.seq.comps = s.seq.comps) (heaters : t.seq.heaters = s.seq.heaters) (pf : t.seq.pfLine = s.seq.pfLine)
    (light : t.light = s.light) : appliedDraw t = appliedDraw s := by
  funext k
  simp only [appliedDraw, draws, fan, comps, heaters, pf, light]

theorem consumersAfter_energy (s : State) (p : Plan) (k : Fin 8) :
    (consumersAfter s p)[k].energyAcc = s.alloc.consumers[k].energyAcc ∧
    (consumersAfter s p)[k].energyCount = s.alloc.consumers[k].energyCount := by
  match k with
  | 0 | 1 | 2 | 3 | 4 | 5 | 6 | 7 => exact ⟨rfl, rfl⟩

/-- R82: the energy of a consumer after a pass. -/
theorem allocate_energy (s : State) (k : Fin 8) :
    let acc := s.alloc.consumers[k].energyAcc + 2 * appliedDraw (limitsChecked s) k
    (allocate s).alloc.consumers[k].energyAcc = acc % 3600 ∧
    (allocate s).alloc.consumers[k].energyCount = min (s.alloc.consumers[k].energyCount + acc / 3600) 4294967295 := by
  obtain ⟨acc, count⟩ := consumersAfter_energy s (planPass s) k
  rw [allocate_consumer, ← acc, ← count]
  exact ⟨rfl, rfl⟩

theorem appliedDraw_limitsChecked (s : State) : appliedDraw (limitsChecked (atPass s)) =
    appliedDraw { s with seq := { s.seq with comps := (limitsChecked (atPass s)).seq.comps } } := by
  have seq := limitsChecked_seq (atPass s)
  generalize hmid : (limitsChecked (atPass s)).seq.comps = mid at seq ⊢
  refine appliedDraw_congr ?_ ?_ hmid ?_ ?_ ?_
  · rw [limitsChecked_alloc]
    show (atPass s).alloc.draws = s.alloc.draws
    rw [atPass_alloc]
  · rw [seq]; exact atPass_fanLevel s
  · rw [seq]; exact atPass_heaters s
  · rw [seq]; exact atPass_pfLine s
  · simp [limitsChecked]

/-! ## The Sequencer (R89, R98 to R101) -/

/-- R89: FAN and PF, their lines and their stored grants, after a pass. -/
theorem allocate_lines (s : State) :
    (allocate s).seq.fanLevel = (if s.seq.interlock.active then 0 else (planPass s).grants.fan) ∧
    (allocate s).seq.fanGrant = (planPass s).grants.fan ∧
    (allocate s).seq.pfLine = ((planPass s).grants.pf && !s.seq.interlock.active) ∧
    (allocate s).seq.pfGrant = (planPass s).grants.pf := by
  rw [allocate_seq]
  exact ⟨rfl, rfl, rfl, rfl⟩

theorem PassRecords.pf_grant {s : State} {cs : Vector Consumer 8} (h : PassRecords s (planPass s) cs) :
    (planPass s).grants.pf = decide (cs[6].granted = 1) := by
  have granted : cs[6].granted = ((planPass s).grants.pf).toNat := h.pf.granted
  rw [granted]; simp

/-- R74, R89: the stored grant of a compressor is that of its record. -/
theorem PassRecords.comp_granted {s : State} {cs : Vector Consumer 8} (h : PassRecords s (planPass s) cs) (i : CompId) :
    cs[compConsumer i].granted = ((planPass s).grants.comps[i]).toNat := by
  match i with
  | 0 => exact (h.comp 0).granted
  | 1 => exact (h.comp 1).granted

theorem PassRecords.comp_grant {s : State} {cs : Vector Consumer 8} (h : PassRecords s (planPass s) cs) (i : CompId) :
    (planPass s).grants.comps[i] = decide (cs[compConsumer i].granted = 1) := by
  rw [h.comp_granted]; simp

theorem PassRecords.fan_grant {s : State} {cs : Vector Consumer 8} (h : PassRecords s (planPass s) cs) :
    (planPass s).grants.fan = cs[0].granted := h.fan.granted.symm

theorem PassRecords.heater_grant {s : State} {cs : Vector Consumer 8} (h : PassRecords s (planPass s) cs) (j : Fin 3) :
    (planPass s).grants.heaters[j] = decide (cs[heaterConsumer j].granted = 1) := by
  have grants : (planPass s).grants.heaters = (planPass s).walk.heaters := rfl
  rw [(h.heater j).granted, grants]; simp

/-- R98: the line of a stage after a grant event. -/
theorem heaterLine_iff (grant : Bool) (s : State) (h : Heater) :
    (grant && !s.seq.interlock.active && (h.line || heaterConditions s)) = true ↔
      grant = true ∧ s.seq.interlock.active = false ∧
        (h.line = true ∨ (s.mode.mode ≠ .service ∧ s.seq.proof = .proven)) := by
  cases off : s.seq.interlock.active <;> simp [heaterConditions, off]

/-- R98: a heater stage after a pass that is due. -/
theorem PassRecords.heater_after {s : State} {cs : Vector Consumer 8}
    (h : PassRecords (atPass s) (planPass (atPass s)) cs) (j : Fin 3) :
    (allocate (atPass s)).seq.heaters[j].grant = decide (cs[heaterConsumer j].granted = 1) ∧
      ((allocate (atPass s)).seq.heaters[j].line = true ↔ cs[heaterConsumer j].granted = 1 ∧
        s.seq.interlock.active = false ∧
        (s.seq.heaters[j].line = true ∨ (s.mode.mode ≠ .service ∧ s.seq.proof = .proven))) := by
  have line := heaterLine_iff (decide (cs[heaterConsumer j].granted = 1)) s s.seq.heaters[j]
  rw [decide_eq_true_eq] at line
  rw [allocate_heater, atPass_interlock, atPass_heaters, heaterConditions_atPass, h.heater_grant]
  exact ⟨rfl, line⟩

theorem withGrant_keeps (g : Bool) (floor : Nat) (c : Compressor) :
    (withGrant g floor c).cfg = c.cfg ∧ (withGrant g floor c).runSeconds = c.runSeconds ∧
      (withGrant g floor c).grant = g := by
  rw [withGrant_eq]
  split <;> exact ⟨rfl, rfl, rfl⟩

/-- R89, R94, R95: what a pass leaves of a compressor and of its run. -/
theorem allocate_comp (s : State) (i : CompId) :
    let c := s.seq.comps[i]
    let d := (allocate s).seq.comps[i]
    let g := (planPass s).grants.comps[i]
    d.cfg = c.cfg ∧ d.runSeconds = c.runSeconds ∧ d.grant = g ∧
    (c.state = .run → g = false → d.state = .offLocked ∧
      d.offTimer = some (100 * max c.cfg.minOff (minOffFloor (allocate s)))) ∧
    (c.state = .run → g = true → d.state = .run) ∧
    (c.state = .runMin ∨ c.state = .offLocked → d.state = c.state) := by
  have moved := limitsChecked_moved s i
  have tested := allocate_tested s i
  rw [passGranted] at tested
  generalize (limitsChecked s).seq.comps[i] = mid at moved tested
  generalize (planPass s).grants.comps[i] = g at tested ⊢
  have stored := withGrant_eq g (minOffFloor (allocate s)) mid
  have run_iff := moved.run_iff
  obtain ⟨midCfg, midSeconds, -⟩ := moved.keeps
  obtain ⟨storedCfg, storedSeconds, storedGrant⟩ := withGrant_keeps g (minOffFloor (allocate s)) mid
  obtain ⟨cfg, seconds, grant⟩ := tested.keeps
  refine ⟨cfg.trans (storedCfg.trans midCfg), seconds.trans (storedSeconds.trans midSeconds), grant.trans storedGrant,
    fun run shut => ?_, fun run on => ?_, fun held => ?_⟩
  · rw [if_pos ⟨run_iff.2 run, shut⟩] at stored
    rw [stored] at tested
    rw [tested.eq_of_state (show CompState.offLocked ≠ .offReady by decide), ← midCfg]
    exact ⟨rfl, rfl⟩
  · rw [if_neg (by simp [on])] at stored
    have state : (regranted g mid).state = .run := run_iff.2 run
    rw [stored] at tested
    rw [tested.eq_of_state (by rw [state]; decide), state]
  · have beside : s.seq.comps[i].state ≠ .offReady ∧ s.seq.comps[i].state ≠ .run := by
      rcases held with h | h <;> rw [h] <;> decide
    rw [if_neg fun stop => beside.2 (run_iff.1 stop.1)] at stored
    have state : (regranted g mid).state = s.seq.comps[i].state := moved.state beside.1
    rw [stored] at tested
    rw [tested.eq_of_state (by rw [state]; exact beside.1), state]

/-- R94, R95: the stops of a pass, as the statement lists them. -/
theorem PassRecords.stopNotices_eq {s : State} {cs : Vector Consumer 8} (h : PassRecords s (planPass s) cs)
    {old mid : Vector Compressor 2} (run : ∀ i : CompId, mid[i].state = .run ↔ old[i].state = .run) :
    bothStopNotices (planPass s).grants mid =
      ((List.finRange 2).filter fun i : CompId => old[i].state = .run && cs[compConsumer i].granted = 0).map
        (fun i => (.compStop, i.val, (0 : Int))) := by
  have stop (i : CompId) : stopNotice i (regranted (planPass s).grants.comps[i] mid[i]) =
      ([i].filter fun i : CompId => old[i].state = .run && cs[compConsumer i].granted = 0).map
        (fun i => (.compStop, i.val, (0 : Int))) := by
    have stops : (regranted (planPass s).grants.comps[i] mid[i]).state = .run ∧
        (regranted (planPass s).grants.comps[i] mid[i]).grant = false ↔
        (old[i].state = .run && cs[compConsumer i].granted = 0) = true := by
      rw [Bool.and_eq_true, decide_eq_true_eq, decide_eq_true_eq, ← run, h.comp_granted, Bool.toNat_eq_zero]
      rfl
    rw [stopNotice]
    split
    · rename_i shut
      rw [List.filter_cons_of_pos (by exact stops.1 shut)]; rfl
    · rename_i kept
      rw [List.filter_cons_of_neg (by exact mt stops.2 kept)]; rfl
  rw [bothStopNotices, stop, stop, ← List.map_append, ← List.filter_append]
  rfl

theorem toNat_eq_ite {b : Bool} {p : Prop} [Decidable p] (h : b = true ↔ p) : b.toNat = if p then 1 else 0 := by
  by_cases hp : p
  · rw [if_pos hp, h.2 hp]; rfl
  · rw [if_neg hp, eq_false_of_ne_true (mt h.1 hp)]; rfl

section
variable {s : State} {p : Plan} {cs : Vector Consumer 8} (h : PassRecords s p cs)
include h

theorem PassRecords.fan_cls : cs[(0 : Fin 8)].cls = if 0 < cs[(0 : Fin 8)].class2 then .protective else .none := by
  rw [h.fan.class2]; exact h.fan.cls

/-- R71: the class of PF, from its request and the programme. -/
theorem PassRecords.pf_cls : cs[(6 : Fin 8)].cls = if cs[(6 : Fin 8)].requested = 0 then .none
    else if s.cover.prog = .alert ∨ (s.cover.prog = .preopen ∧ alertTripped s = true) then .committed
    else .protective := by
  have committed := pfCommitted_iff s p.requests.pf
  rw [h.pf.cls, h.pf.requested]
  cases wanted : p.requests.pf
  · rw [wanted] at committed
    rw [if_neg (by rw [committed]; simp)]
    rfl
  · rw [wanted, eq_self, true_and] at committed
    rw [if_neg (by decide : ¬true.toNat = 0)]
    exact if_congr committed rfl rfl

/-- R70, R71: the class of a compressor, from its state and its request. -/
theorem PassRecords.comp_cls (i : CompId) : cs[compConsumer i].cls =
    if s.seq.comps[i].state = .runMin then .committed
    else if cs[compConsumer i].requested = 1 then (if s.climate.protective = true then .protective else .comfort)
    else .none := by
  rw [(h.comp i).cls, (h.comp i).requested, compClass, inRunMin]
  exact if_congr decide_eq_true_iff rfl (if_congr Bool.toNat_eq_one.symm rfl rfl)

end

/-! ## The compressors of a pass that is due, and what it posts -/

section
variable (s : State) (i : CompId)

/-- R81, R90, R91: a compressor at the limits check. -/
theorem pass_moved : LimitMoved (atPass s).pt (startLimit s.alloc s.seq.comps[i])
    (startLimit (allocate (atPass s)).alloc s.seq.comps[i]) (mayStart s.seq s.seq.fanLevel) (atPass s).seq.comps[i]
    (limitsChecked (atPass s)).seq.comps[i] := by
  have moved := limitsChecked_moved (atPass s) i
  rw [startLimit_atPass, startLimit_atPass, mayStart_atPass, atPass_alloc, atPass_fanLevel] at moved
  exact moved

theorem pass_run_iff : (limitsChecked (atPass s)).seq.comps[i].state = .run ↔ s.seq.comps[i].state = .run := by
  rw [(pass_moved s i).run_iff, atPass_state]

end

section
variable {s : State} {cs : Vector Consumer 8} (h : PassRecords (atPass s) (planPass (atPass s)) cs)
include h

/-- R89, R91: a compressor at the start tests. -/
theorem PassRecords.tested (i : CompId) : StartTested (atPass s).pt
    (startLimit (allocate (atPass s)).alloc s.seq.comps[i]) (mayStart s.seq (allocate (atPass s)).seq.fanLevel)
    (withGrant (decide (cs[compConsumer i].granted = 1)) (minOffFloor (allocate (atPass s)))
      (limitsChecked (atPass s)).seq.comps[i])
    (allocate (atPass s)).seq.comps[i] := by
  have tested := allocate_tested (atPass s) i
  rw [startLimit_atPass, mayStart_atPass, passGranted, h.comp_grant] at tested
  exact tested

/-- R89, R94, R95: what the pass leaves of a compressor and of its run. -/
theorem PassRecords.comp_after (i : CompId) :
    let c := s.seq.comps[i]
    let d := (allocate (atPass s)).seq.comps[i]
    d.cfg = c.cfg ∧ d.runSeconds = c.runSeconds ∧ d.grant = decide (cs[compConsumer i].granted = 1) ∧
    (c.state = .run → cs[compConsumer i].granted = 0 → d.state = .offLocked ∧
      d.offTimer = some (100 * max c.cfg.minOff (minOffFloor (allocate (atPass s))))) ∧
    (c.state = .run → cs[compConsumer i].granted = 1 → d.state = .run) ∧
    (c.state = .runMin ∨ c.state = .offLocked → d.state = c.state) := by
  have comp := allocate_comp (atPass s) i
  have level := h.comp_granted i
  simp only [atPass_cfg, atPass_state, atPass_runSeconds] at comp
  obtain ⟨cfg, seconds, grant, stops, stays, waits⟩ := comp
  exact ⟨cfg, seconds, grant.trans (h.comp_grant i),
    fun run shut => stops run (Bool.toNat_eq_zero.1 (level.symm.trans shut)),
    fun run on => stays run (Bool.toNat_eq_one.1 (level.symm.trans on)), waits⟩

end

/-- Settles O43: the requests and classes from the plan, the rest from the grant event. -/
theorem passFormsRequestsAndDrivesLines : Obligations.PassFormsRequestsAndDrivesLines := by
  intro s
  have a := allocate_allowance (atPass s)
  have h := allocate_records (atPass s)
  have rq := planPass_requests s
  have count : (allocate (atPass s)).alloc.count = (formRequests s).count := a.count.trans (by rw [rq])
  have heaterReq : (allocate (atPass s)).alloc.heaterReq = (formRequests s).heaters := a.heaterReq.trans (by rw [rq])
  have lead : (allocate (atPass s)).alloc.lead = nextLead s := a.lead.trans (nextLead_atPass s)
  obtain ⟨fanLevel, fanGrant, pfLine, pfGrant⟩ := allocate_lines (atPass s)
  refine ⟨allocate (atPass s), exec_allocationPass s, ?_⟩
  refine ⟨fun off => ?_, fun on => ?_, ?_, ?_, ?_, fun j => ⟨?_, ?_⟩, ?_, ?_, h.fan_cls, ?_, ?_, ?_, ?_, ?_,
    fun r0 r1 => ?_, fun r0 r1 => ?_, fun r0 r1 => ?_, fun r0 r1 => ?_, fun i j isLead other => ?_, fun i => ?_,
    ⟨?_, ?_, fun fault => ?_, fun sound k => ?_⟩, ⟨(limitsChecked (atPass s)).seq.comps, fun i =>
      ⟨pass_moved s i, h.tested i⟩, fun k => ?_, ?_⟩, ?_, ?_, ?_, ?_, ?_, h.heater_after, h.comp_after⟩
  -- The requests and the classes of FAN, the heater stages, PF and LT.
  · rw [count, formRequests_count, if_pos ((withdrawn_iff s).2 off)]
  · rw [count, formRequests_count, if_neg (mt (withdrawn_iff s).1 on), nextCount_eq]
  · rw [heaterReq]; exact formRequests_heater_iff s 0 (by decide) rfl
  · rw [heaterReq]; exact formRequests_heater_iff s 1 (by decide) rfl
  · rw [heaterReq]; exact formRequests_heater_iff s 2 (by decide) rfl
  · rw [heaterReq, ← rq]; exact (h.heater j).requested
  · rw [heaterReq, ← rq]; exact (h.heater j).cls
  · rw [count]; exact h.fan.requested.trans (by rw [rq, formRequests_fan]; rfl)
  · rw [count]; exact h.fan.class2.trans (by rw [rq, formRequests_class2])
  · exact h.pf.requested.trans (by rw [rq]; exact toNat_eq_ite (formRequests_pf_iff s))
  · have cls := h.pf_cls
    rw [atPass_cover, alertTripped, atPass_watches] at cls
    exact cls
  · exact h.lt.requested.trans (by rw [rq]; rfl)
  · exact a.ltDraw.trans (by rw [atPass_light])
  · exact h.lt.cls.trans (by rw [rq]; rfl)
  -- The lead, the place of the count and the classes of the compressors.
  · rw [lead, nextLead_of_running r0 r1]
  · rw [lead, nextLead_of_running r0 r1]
  · rw [lead, nextLead_of_running r0 r1]
  · rw [lead, nextLead_of_running r0 r1]; rfl
  · have placed := h.placed (isLead.trans a.lead) other
    rw [rq, ← count, cannotStart_iff, canStart_iff, atStartLimit_atPass_iff, atStartLimit_atPass_iff,
      atPass_state, atPass_state] at placed
    obtain ⟨none, both, passed, stays⟩ := placed
    exact ⟨none, both, fun one barred starts => passed one ⟨barred, starts⟩, stays⟩
  · have cls := h.comp_cls i
    rw [atPass_state, atPass_climate] at cls
    exact cls
  -- The limits in force.
  · rw [a.limits, atPass_alloc]
  · rw [a.limitsFault, nextFault_iff, atPass_alloc]
  · rw [a.inForce, if_pos (a.limitsFault ▸ fault)]; rfl
  · rw [a.inForce, if_neg (by rw [← a.limitsFault, sound]; decide), atPass_alloc]
    exact Vector.getElem_map ..
  -- The energy and the notices.
  · have energy := allocate_energy (atPass s) k
    rw [appliedDraw_limitsChecked, atPass_alloc] at energy
    exact energy
  · have ports := allocate_ports (atPass s)
    rw [passNotices_atPass, h.stopNotices_eq (pass_run_iff s), bothStartNotices,
      ← List.append_assoc (passNotices ..), passGranted, passGranted, h.comp_grant, h.comp_grant] at ports
    exact ports.trans (postAll_ports_congr (s := elapse s.timers.pass s) (t := atPass s) rfl rfl rfl _)
  -- The lines and the stored grants.
  · rw [fanLevel, fanGrant, pfLine, pfGrant, ← atPass_fanProof s, ← atPass_fanLevel s]
    exact allocate_seq (atPass s)
  · rw [fanGrant, h.fan_grant]
  · rw [pfGrant, h.pf_grant]
  · rw [fanLevel, h.fan_grant, atPass_interlock]
  · rw [pfLine, h.pf_grant, atPass_interlock]
    simp [and_comm]

end Sys2Proof.Machine
end

section
/-! Forced stops (R95, R96, R102), and what start tests do while the interlock is active (R91). -/

namespace Sys2Proof.Machine

/-! ## A forced stop -/

/-- What a forced stop posts of compressor i. -/
def forcedStopNotice (cause : Nat) (i : CompId) (c : Compressor) : List (Code × Nat × Int) :=
  if running c then [(.compStop, i.val, (cause : Int))] else []

theorem forceStop_event (i : CompId) (cause : Nat) (s : State) :
    CompEvent i (forcedStopNotice cause i s.seq.comps[i]) s (forceStop i cause s) := by
  unfold forceStop forcedStopNotice
  split
  · exact ⟨rfl, rfl, rfl, ⟨_, rfl⟩, rfl⟩
  · exact ⟨rfl, rfl, rfl, ⟨s.seq.comps[i], by simp⟩, rfl⟩

theorem forceStop_comp (i : CompId) (cause : Nat) (s : State) : (forceStop i cause s).seq.comps[i] =
    if running s.seq.comps[i] = true then stopped (minOffFloor s) s.seq.comps[i] else s.seq.comps[i] := by
  unfold forceStop
  split
  · simp [stopComp, stopped, Config.ticksPerSecond, Nat.mul_comm]
  · rfl

/-! ## Both compressors stopped (log 27) -/

/-- The forced stops of one event, C1 first (log 27). -/
def forceStops (cause : Nat) (s : State) : State := forceStop 1 cause (forceStop 0 cause s)

theorem forcedStops_eq (cause : Nat) (q : Sequencer) : forcedStops cause q =
    forcedStopNotice cause 0 q.comps[(0 : CompId)] ++ forcedStopNotice cause 1 q.comps[(1 : CompId)] := by
  have both : List.finRange 2 = [0, 1] := by decide
  simp only [forcedStops, both, forcedStopNotice, List.filter_cons, List.filter_nil]
  cases running q.comps[(0 : CompId)] <;> cases running q.comps[(1 : CompId)] <;> rfl

theorem forceStops_events (cause : Nat) (s : State) :
    CompEvents (forcedStops cause s.seq) s (forceStop 0 cause s) (forceStops cause s) := by
  have both := (forceStop_event 0 cause s).followedBy (forceStop_event 1 cause (forceStop 0 cause s))
  rw [both.second, ← forcedStops_eq] at both
  exact both

/-- R95, R96: a forced stop of both compressors locks each that runs for its minimum off time in force. -/
theorem forceStops_comp (cause : Nat) (s : State) (i : CompId) : (forceStops cause s).seq.comps[i] =
    if running s.seq.comps[i] = true then stopped (minOffFloor s) s.seq.comps[i] else s.seq.comps[i] := by
  have both := forceStops_events cause s
  match i with
  | 0 => rw [both.first, forceStop_comp]
  | 1 =>
    have floor : minOffFloor (forceStop 0 cause s) = minOffFloor s :=
      congrArg (fun a => (limitInForce a 2).toNat) (forceStop_event 0 cause s).alloc
    rw [forceStops, forceStop_comp, both.second, floor]

theorem running_forceStops (cause : Nat) (s : State) (i : CompId) :
    running (forceStops cause s).seq.comps[i] = false := by
  rw [forceStops_comp]
  split
  · rfl
  · rename_i off; exact Bool.eq_false_iff.2 off

theorem forceStop_touches (i : CompId) (cause : Nat) (s : State) : forceStop i cause s =
    { s with seq := (forceStop i cause s).seq, ports := (forceStop i cause s).ports } := by
  unfold forceStop
  split <;> rfl

/-- Forced stops touch the compressors and the notices. -/
theorem forceStops_touches (cause : Nat) (s : State) : forceStops cause s =
    { s with
      seq := { s.seq with comps := (forceStops cause s).seq.comps }
      ports := (postAll (forcedStops cause s.seq) s).ports } := by
  have first := forceStop_touches 0 cause s
  have second : forceStops cause s = _ := forceStop_touches 1 cause (forceStop 0 cause s)
  rw [← (forceStops_events cause s).seq, ← (forceStops_events cause s).ports]
  change forceStops cause s = { forceStop 0 cause s with
    seq := (forceStops cause s).seq, ports := (forceStops cause s).ports } at second
  generalize forceStops cause s = u at *
  generalize forceStop 0 cause s = t at *
  exact second.trans (by rw [first])

/-! ## Compressors that may not start -/

section
variable {pt : Word} {limit old new : Nat} {free : Prop} {c d : Compressor}

/-- R91: a start test starts nothing where a condition of a start beside the history fails. -/
theorem StartTested.running_eq (h : StartTested pt limit free c d) (barred : ¬free) : running d = running c := by
  obtain ⟨untested, -, waits, blocks⟩ := h
  by_cases tested : c.state = .offReady ∧ c.grant = true
  · rcases Nat.lt_or_ge (prune pt c.history).length limit with room | full
    · rw [waits tested room barred]; rfl
    · rw [(blocks tested full).1]; rfl
  · rw [untested tested]

/-- R81, R91: nor does a limit that moves. -/
theorem LimitMoved.running_eq (h : LimitMoved pt old new free c d) (barred : ¬free) : running d = running c := by
  rcases h.cases with rfl | tested
  · rfl
  · exact tested.running_eq barred

theorem running_withGrant (g : Bool) (floor : Nat) (off : running c = false) :
    running (withGrant g floor c) = false := by
  rw [withGrant_eq]
  split
  · rfl
  · exact off

end

theorem not_mayStart_of_interlock {q : Sequencer} (on : q.interlock.active = true) (level : Nat) :
    ¬mayStart q level := by
  rintro ⟨off, -⟩
  rw [on] at off
  cases off

end Sys2Proof.Machine
end

section
/-! What keeps a property of the Sequencer along every step: the events that reach the Sequencer or the limits in
force, listed once. -/

namespace Sys2Proof.Machine

/-- `t` has the Sequencer and the limits in force of `s`. -/
def SamePlant (s t : State) : Prop := t.seq = s.seq ∧ t.alloc.inForce = s.alloc.inForce

/-- R171: a warm restart reaches neither the Sequencer nor the limits in force. -/
theorem restartRecords_samePlant (s : State) : SamePlant s (restartRecords s) := by
  have channels (t : State) : SamePlant t (restartChannels t) := by
    unfold restartChannels
    split <;> simp [SamePlant]
  have cover (t : State) : SamePlant t (restartCover t) := by
    unfold restartCover
    dsimp only
    (repeat' split) <;> simp [SamePlant]
  obtain ⟨seq, limits⟩ := channels { s with ports := s.ports.map restartPort, restartPending := none }
  obtain ⟨seq2, limits2⟩ := cover (restartAllocator (restartClimate (restartWatches (restartChannels
    { s with ports := s.ports.map restartPort, restartPending := none }))))
  exact ⟨seq2.trans seq, limits2.trans limits⟩

/-- P speaks of the Sequencer and the limits in force alone, and each event that reaches them keeps it. -/
structure KeptByPlantEvents (P : State → Prop) : Prop where
  same : ∀ {s t}, P s → SamePlant s t → P t
  elapse : ∀ k {s}, P s → P (elapse k s)
  powerUp : ∀ a b c s, P (powerUp a b c s)
  allocate : ∀ {s}, P s → P (allocate s)
  setValve : ∀ {s}, P s → P (setValve s)
  seqModeEvent : ∀ m {s}, P s → P (seqModeEvent m s)
  seqSecond : ∀ {s}, P s → P (seqSecond s)
  minOffEnd : ∀ i {s}, P s → P (minOffEnd i s)
  minOnEnd : ∀ i {s}, P s → s.seq.comps[i].state = .runMin → P (minOnEnd i s)
  proofLoss : ∀ {s}, P s → P (proofLoss s)
  proofFail : ∀ {s}, P s → P (proofFail s)
  counted : ∀ c n f {s}, P s → P (modSeq (fun q =>
    { q with coverLimit := c, interlock := ⟨q.interlock.active, n⟩, fanProof := f }) s)
  interlockOn : ∀ {s}, P s → P (acceptInterlockOn s)
  interlockOff : ∀ {s}, P s → P (acceptInterlockOff s)
  proofActive : ∀ {s}, P s → P (acceptProofActive s)
  proofInactive : ∀ {s}, P s → P (acceptProofInactive s)
  writeCompressor : ∀ n off on lim {s}, P s → P (ownWriteCompressor n off on lim s).1
  writeLimits : ∀ n a b c d {s}, P s → P (ownWriteLimits n a b c d s).1

namespace KeptByPlantEvents

variable {P : State → Prop} {s : State}

/-! ## Periodic steps and expiries -/

theorem outcomeStep (met : Bool) {t : State} (hs : P s) (ht : P t) : P (outcomeStep met t s) := by
  unfold Machine.outcomeStep
  split <;> assumption

variable (keeps : KeptByPlantEvents P)
include keeps

theorem scanStep (x : Samples) (h : P s) : P (scanStep x s) :=
  keeps.same (keeps.elapse s.timers.scan h) (by simp [SamePlant, Machine.scanStep])

theorem fadeStepAll (h : P s) : P (fadeStepAll s) :=
  keeps.same (keeps.elapse s.timers.fade h) (by simp [SamePlant, Machine.fadeStepAll])

theorem waterStep (h : P s) : P (waterStep s) :=
  keeps.same (keeps.elapse s.timers.water h) (by simp [SamePlant, Machine.waterStep])

theorem cvpStep (h : P s) : P (cvpStep s) :=
  keeps.same (keeps.elapse s.timers.cvp h) (by simp [SamePlant, Machine.cvpStep, atCvpSecond])

theorem sequencerStep (h : P s) : P (sequencerStep s) :=
  keeps.seqSecond (keeps.same (keeps.elapse s.timers.sequencer h) ⟨rfl, rfl⟩)

theorem passStep (h : P s) : P (passStep s) :=
  keeps.allocate (keeps.same (keeps.elapse s.timers.pass h) ⟨rfl, rfl⟩)

theorem computeStep (h : P s) : P (computeStep s) := by
  have due : P (atComputation s) := keeps.same (keeps.elapse s.timers.compute h) ⟨rfl, rfl⟩
  have valve := keeps.setValve (keeps.same due
    (show SamePlant _ { atComputation s with climate := computeClimate (atComputation s) } from ⟨rfl, rfl⟩))
  exact keeps.same valve (by simp [SamePlant, Machine.computeStep, computation])

theorem searchExpiry (above : Bool) (h : P s) : P (searchExpiry above s) := by
  unfold Machine.searchExpiry
  split
  · exact h
  · rename_i r _
    exact keeps.same (keeps.elapse r.stepLeft h) (by simp [SamePlant])

theorem minOffStep (i : CompId) (h : P s) : P (minOffStep i s) := by
  unfold Machine.minOffStep
  split
  · exact h
  · split
    · exact keeps.minOffEnd i (keeps.elapse _ h)
    · exact h

theorem minOnStep (i : CompId) (h : P s) : P (minOnStep i s) := by
  unfold Machine.minOnStep
  split
  · exact h
  · rename_i k _
    split
    · rename_i runMin
      refine keeps.minOnEnd i (keeps.elapse k h) ?_
      rw [elapse_comps]
      split <;> exact runMin
    · exact h

theorem proofLossStep (h : P s) : P (proofLossStep s) := by
  unfold Machine.proofLossStep
  split
  · exact h
  · exact keeps.proofLoss (keeps.elapse _ h)

theorem proofFailStep (h : P s) : P (proofFailStep s) := by
  unfold Machine.proofFailStep
  split
  · exact h
  · exact keeps.proofFail (keeps.elapse _ h)

theorem silenceStep (p : PortId) (h : P s) : P (silenceStep p s) := by
  unfold Machine.silenceStep
  split
  · exact h
  · rename_i k _
    split
    · exact keeps.same (keeps.elapse k h) (by simp [SamePlant])
    · exact h

/-! ## Inputs -/

theorem countCover (d : Debounced) (h : P s) : P (modSeq (fun q => { q with coverLimit := d }) s) :=
  keeps.same (keeps.counted d s.seq.interlock.count s.seq.fanProof h) ⟨rfl, rfl⟩

theorem countInterlock (n : Nat) (h : P s) :
    P (modSeq (fun q => { q with interlock := ⟨q.interlock.active, n⟩ }) s) :=
  keeps.same (keeps.counted s.seq.coverLimit n s.seq.fanProof h) ⟨rfl, rfl⟩

theorem countFanProof (d : Debounced) (h : P s) : P (modSeq (fun q => { q with fanProof := d }) s) :=
  keeps.same (keeps.counted s.seq.coverLimit s.seq.interlock.count d h) ⟨rfl, rfl⟩

theorem acceptCoverLimit (level : Bool) (h : P s) : P (acceptCoverLimit level s) :=
  keeps.same (keeps.countCover ⟨level, 0⟩ h) (by simp [SamePlant, Machine.acceptCoverLimit])

theorem sampleCover (level : Bool) (h : P s) : P (sampleCover level s) := by
  unfold Machine.sampleCover
  split
  · exact keeps.acceptCoverLimit level h
  · exact keeps.countCover _ h

theorem sampleInterlock (level : Bool) (h : P s) : P (sampleInterlock level s) := by
  unfold Machine.sampleInterlock
  split
  · split
    · exact keeps.interlockOn h
    · exact keeps.interlockOff h
  · refine keeps.same (keeps.countInterlock (countSample s.seq.interlock level).count h) ⟨?_, rfl⟩
    simp only [modSeq_seq, countSample]
    split <;> rfl

theorem sampleFanProof (level : Bool) (h : P s) : P (sampleFanProof level s) := by
  unfold Machine.sampleFanProof
  split
  · split
    · exact keeps.proofActive h
    · exact keeps.proofInactive h
  · exact keeps.countFanProof _ h

theorem sampleStep (a b c : Bool) (h : P s) : P (sampleStep a b c s) :=
  keeps.sampleFanProof c (keeps.sampleInterlock b (keeps.sampleCover a
    (keeps.same (keeps.elapse s.timers.sample h) ⟨rfl, rfl⟩)))

/-- The moment of an accepted change, with the level its pin brings. -/
theorem accepted (d : Debounced) (pins : Pins) (h : P s) : P { atAccept d s with pins := pins } :=
  keeps.same (keeps.elapse (ticksToAccept d s) h) ⟨rfl, rfl⟩

theorem interlockOnStep (h : P s) : P (interlockOnStep s) := by
  unfold Machine.interlockOnStep
  split
  · exact h
  · exact keeps.interlockOn (keeps.accepted _ _ h)

theorem interlockOffStep (h : P s) : P (interlockOffStep s) := by
  unfold Machine.interlockOffStep
  split
  · exact keeps.interlockOff (keeps.accepted _ _ h)
  · exact h

theorem coverLimitStep (h : P s) : P (coverLimitStep s) := keeps.acceptCoverLimit _ (keeps.accepted _ _ h)

theorem fanProofOnStep (h : P s) : P (fanProofOnStep s) := by
  unfold Machine.fanProofOnStep
  split
  · exact h
  · exact keeps.proofActive (keeps.accepted _ _ h)

theorem fanProofOffStep (h : P s) : P (fanProofOffStep s) := by
  unfold Machine.fanProofOffStep
  split
  · exact keeps.proofInactive (keeps.accepted _ _ h)
  · exact h

/-! ## Requests -/

theorem changeMode (m : Mode) (h : P s) : P (changeMode m s) :=
  keeps.seqModeEvent m (keeps.same h (by simp [SamePlant]))

theorem ownSetModeHall (mode target : Byte) (h : P s) : P (ownSetModeHall mode target s).1 := by
  unfold Machine.ownSetModeHall
  split
  · exact h
  · split_ifs
    · exact h
    · exact h
    · exact h
    · exact keeps.changeMode _ h

/-- A request that writes the Allocator beside its limits leaves those in force. -/
theorem ownWriteAllowance (n : Byte) (v : Half) (h : P s) : P (ownWriteAllowance n v s).1 := by
  unfold Machine.ownWriteAllowance
  split_ifs
  · exact h
  · exact h
  · exact keeps.same h ⟨rfl, rfl⟩

theorem ownWriteConsumer (n : Byte) (ds : List Half) (h : P s) : P (ownWriteConsumer n ds s).1 := by
  unfold Machine.ownWriteConsumer
  split_ifs
  · exact h
  · exact h
  · dsimp only
    split
    · split_ifs
      · exact h
      · exact keeps.same h ⟨rfl, rfl⟩
    · exact keeps.same h ⟨rfl, rfl⟩
    · exact h

/-- Of the owners only those of COMPRESSOR, LIMITS and the hall mode reach the Sequencer or the limits in force. -/
theorem ownerServe (c : Instr) (h : P s) : P (ownerServe c s).1 := by
  cases c
  case writeItemCompressor p n off on lim => exact keeps.writeCompressor n off on lim h
  case writeItemLimits p n a b c d => exact keeps.writeLimits n a b c d h
  case setModeHall p m t => exact keeps.ownSetModeHall m t h
  case writeItemAllowance p n v => exact keeps.ownWriteAllowance n v h
  case writeItemConsumer p n ds => exact keeps.ownWriteConsumer n ds h
  case clearCounters p => exact keeps.same h ⟨rfl, rfl⟩
  all_goals exact keeps.same h (by simp [SamePlant, Machine.ownerServe])

theorem takeHanded (p : PortId) (c : Instr) (h : P s) : P (takeHanded p c s) :=
  keeps.same (keeps.ownerServe c h) (by simp [SamePlant, Machine.takeHanded])

theorem deliver (p : PortId) (code : Byte) (payload : List Byte) (h : P s) : P (deliver p code payload s) :=
  keeps.same h (by simp [SamePlant])

theorem requestStep (p : PortId) (c : Instr) (h : P s) : P (requestStep p c s) := by
  unfold Machine.requestStep
  split
  · exact keeps.takeHanded p c h
  · split
    · exact h
    · dsimp only
      split
      · exact keeps.takeHanded p c (keeps.deliver _ _ _ h)
      · exact keeps.deliver _ _ _ h

theorem portStep (c : Instr) (h : P s) : P (portStep c s) := by
  unfold Machine.portStep
  split
  · exact h
  · exact keeps.deliver _ _ _ h

/-! ## Restarts -/

theorem answerInService (p : PortId) (h : P s) : P (answerInService p s) := by
  unfold Machine.answerInService
  split
  · exact keeps.takeHanded p _ h
  · exact h

theorem answersInService (l : List PortId) (h : P s) : P (l.foldl (fun acc p => Machine.answerInService p acc) s) := by
  induction l generalizing s with
  | nil => exact h
  | cons p l ih => exact ih (keeps.answerInService p h)

theorem answerAll (h : P s) : P (answerAll s) := by
  unfold Machine.answerAll
  split
  · exact h
  · exact keeps.answerInService _ h
  · exact keeps.answersInService _ (keeps.same h ⟨rfl, rfl⟩)

theorem replyEnd (p : PortId) (h : P s) : P (replyEnd p s) := by
  have ended (q : Port) : P (setPort p q s) := keeps.same h (by simp [SamePlant])
  unfold Machine.replyEnd
  dsimp only
  split_ifs
  · exact h
  · exact keeps.same (keeps.answerAll (ended _)) (restartRecords_samePlant _)
  · exact ended _

/-! ## The step -/

theorem exec {t : State} (i : Instr) (h : P s) (e : exec i s = .next t) : P t := by
  have next {u : State} (hu : P u) (e : (.next u : Host.Outcome State Fault Refusal) = .next t) : P t := by
    injection e with e; exact e ▸ hu
  cases i
  case powerOn a b c => exact next (keeps.powerUp a b c s) e
  case receiveByte p d y x => exact next (keeps.same h (by simp [SamePlant])) e
  case lineQuietExpiry p => exact next (keeps.same h (by simp [SamePlant])) e
  case replySent p => exact next (keeps.replyEnd p h) e
  case unknownRequest p c l => exact next (keeps.portStep _ h) e
  case writeItemReadOnly p k n l => exact next (keeps.portStep _ h) e
  case zeroSearchStep above => exact next (keeps.searchExpiry above h) e
  case storeCompletion d =>
    refine next ?_ e
    split
    · exact keeps.same h (by simp [SamePlant])
    · exact h
  case silenceTimerExpiry p => exact next (keeps.silenceStep p h) e
  case channelScan x => exact next (keeps.scanStep x h) e
  case channelFault n x => exact next (outcomeStep _ h (keeps.scanStep x h)) e
  case channelRecover n x => exact next (outcomeStep _ h (keeps.scanStep x h)) e
  case channelValid n x => exact next (outcomeStep _ h (keeps.scanStep x h)) e
  case climateComputation => exact next (keeps.computeStep h) e
  case heatBlindDemand => exact next (outcomeStep _ h (keeps.computeStep h)) e
  case moistureBlindDemand => exact next (outcomeStep _ h (keeps.computeStep h)) e
  case waterAgeSecond => exact next (keeps.waterStep h) e
  case waterStale => exact next (outcomeStep _ h (keeps.waterStep h)) e
  case allocationPass => exact next (keeps.passStep h) e
  case sequencerSecond => exact next (keeps.sequencerStep h) e
  case minOffExpiry k => exact next (keeps.minOffStep k h) e
  case minOnExpiry k => exact next (keeps.minOnStep k h) e
  case proofLossExpiry => exact next (keeps.proofLossStep h) e
  case proofFailExpiry => exact next (keeps.proofFailStep h) e
  case interlockOn => exact next (keeps.interlockOnStep h) e
  case interlockOff => exact next (keeps.interlockOffStep h) e
  case coverLimitChange => exact next (keeps.coverLimitStep h) e
  case fanProofActive => exact next (keeps.fanProofOnStep h) e
  case fanProofInactive => exact next (keeps.fanProofOffStep h) e
  case cvpSecond => exact next (keeps.cvpStep h) e
  case fadeTick => exact next (keeps.fadeStepAll h) e
  case fadeComplete g => exact next (outcomeStep _ h (keeps.fadeStepAll h)) e
  case inputSample a b c => exact next (keeps.sampleStep a b c h) e
  case mismatchCountExpiry | travelCountExpiry | settleTimeMet | purgeComplete | restTimeMet | alertHoldMet
    | preopenTimeMet | permissionHoldMet | purgeStarved => exact next (outcomeStep _ h (keeps.cvpStep h)) e
  all_goals exact next (keeps.requestStep _ _ h) e

/-- A property that each event of the plant keeps is kept by every step. -/
theorem step {t : State} (h : P s) (e : step s = .next t) : P t := by
  unfold Machine.step at e
  split at e
  · rename_i rest _
    exact keeps.exec (s := { s with pending := rest }) _ (keeps.same h ⟨rfl, rfl⟩) e
  · split at e
    · exact keeps.exec _ h e
    · injection e with e
      exact e ▸ keeps.elapse 1 h

end KeptByPlantEvents

end Sys2Proof.Machine
end

section
/-! The COMPRESSOR write (R88, R90, R91). -/

namespace Sys2Proof.Machine

theorem exec_writeItemCompressor {p : PortId} {n lim : Byte} {off on : Half} {s t : State} {r : Result}
    (h : Served s p (.writeItemCompressor p n off on lim)) (own : ownWriteCompressor n off on lim s = (t, answer r)) :
    exec (.writeItemCompressor p n off on lim) s = .next (reply p 3 r t) :=
  congrArg _ (requestStep_of_answer h own)

theorem ownWriteCompressor_of_index {n : Byte} (beyond : 2 ≤ n.toNat) (off on : Half) (lim : Byte) (s : State) :
    ownWriteCompressor n off on lim s = (s, answer .badItem) := by
  rw [ownWriteCompressor, indexBelow_eq_none beyond]; rfl

theorem ownWriteCompressor_of_busy {n : Byte} {i : CompId} (number : i.val = n.toNat) {s : State}
    (busy : s.store.busy = true) (off on : Half) (lim : Byte) :
    ownWriteCompressor n off on lim s = (s, answer .busy) := by
  rw [ownWriteCompressor, indexBelow_eq_some i number]; exact if_pos busy

/-- R88: the settings that a COMPRESSOR write stores, each clamped into its range. -/
def clampedCompCfg (off on : Half) (lim : Byte) : CompCfg :=
  ⟨max 60 (min off.toNat 900), max 60 (min on.toNat 900), max 1 (min lim.toNat 12)⟩

/-- R81, R88, R90: new settings are stored and the start limit in force is refreshed. -/
def storeCompCfg (i : CompId) (cfg : CompCfg) (s : State) : State :=
  refreshLimit i (startLimit s.alloc s.seq.comps[i]) (setComp i { s.seq.comps[i] with cfg := cfg } s)

/-- R88: a taken write stores the clamped settings; it is CLAMPED where a value is not in its range. -/
theorem ownWriteCompressor_taken {n : Byte} {i : CompId} (number : i.val = n.toNat) {s : State}
    (idle : s.store.busy = false) (off on : Half) (lim : Byte) :
    ownWriteCompressor n off on lim s = (storeCompCfg i (clampedCompCfg off on lim) s,
      answer (if 60 ≤ off.toNat ∧ off.toNat ≤ 900 ∧ 60 ≤ on.toNat ∧ on.toNat ≤ 900 ∧ 1 ≤ lim.toNat ∧
        lim.toNat ≤ 12 then .ok else .clamped)) := by
  rw [ownWriteCompressor, indexBelow_eq_some i number]
  simp (disch := omega) only [idle, Bool.false_eq_true, if_false, clampNat_eq]
  rw [okOrClamped_eq _ (60 ≤ off.toNat ∧ off.toNat ≤ 900 ∧ 60 ≤ on.toNat ∧ on.toNat ≤ 900 ∧ 1 ≤ lim.toNat ∧
        lim.toNat ≤ 12)]
  · rfl
  · simp only [ne_eq, Bool.or_eq_true, decide_eq_true_eq]
    omega

/-- R88: what a COMPRESSOR write can do: nothing, or store new settings. -/
theorem ownWriteCompressor_cases (n : Byte) (off on : Half) (lim : Byte) (s : State) :
    (ownWriteCompressor n off on lim s).1 = s ∨
      ∃ i cfg, (ownWriteCompressor n off on lim s).1 = storeCompCfg i cfg s := by
  rcases Nat.lt_or_ge n.toNat 2 with number | beyond
  · cases busy : s.store.busy with
    | true => exact .inl (by rw [ownWriteCompressor_of_busy (i := ⟨n.toNat, number⟩) rfl busy])
    | false => exact .inr ⟨⟨n.toNat, number⟩, _, by
      rw [ownWriteCompressor_taken (i := ⟨n.toNat, number⟩) rfl busy]⟩
  · exact .inl (by rw [ownWriteCompressor_of_index beyond])

end Sys2Proof.Machine
end

section
/-! What the accepted changes of INTERLOCK and FAN_PROOF leave of the Sequencer (R86, R98, R100, R102). -/

namespace Sys2Proof.Machine

/-! ## Heater stages (R98) -/

theorem heatersOff_getElem (q : Sequencer) (j : Fin 3) : (heatersOff q).heaters[j] = ⟨false, q.heaters[j].grant⟩ :=
  Vector.getElem_map ..

theorem heatersOn_getElem (s : State) (j : Fin 3) : (heatersOn s).seq.heaters[j] =
    ⟨s.seq.heaters[j].line || (s.seq.heaters[j].grant && heaterConditions s), s.seq.heaters[j].grant⟩ :=
  Vector.getElem_map ..

theorem storeGrants_heaters (g : Grants) (q : Sequencer) (j : Fin 3) :
    (storeGrants g q).heaters[j] = ⟨q.heaters[j].line, g.heaters[j]⟩ := Vector.getElem_mapFinIdx ..

/-! ## The onset of the interlock (R102) -/

/-- The state at the onset of the interlock before the stops: INTERLOCK_ON posted, no grant stored. -/
def interlockRaised (s : State) : State :=
  modSeq (storeGrants noGrants) (post .interlockOn 0 (runningCount s)
    (modSeq (fun q => { q with interlock := ⟨true, 0⟩, interlockTicks := 0 }) s))

theorem fillSafety_seq (s : State) : (fillSafety s).seq = s.seq := rfl

theorem acceptInterlockOn_eq (s : State) :
    acceptInterlockOn s = fillSafety (modSeq linesOff (forceStops 2 (interlockRaised s))) := rfl

theorem interlockRaised_comp (s : State) (i : CompId) : (interlockRaised s).seq.comps[i] =
    { s.seq.comps[i] with grant := false, blocked := false } := by
  have grants : noGrants.comps[i] = false := match i with | 0 | 1 => rfl
  refine (storeGrants_comps ..).trans ?_
  rw [grants, regranted, Bool.and_false]
  rfl

theorem linesOff_comps (q : Sequencer) : (linesOff q).comps = q.comps := rfl

theorem noGrants_heaters_off (q : Sequencer) : (heatersOff (storeGrants noGrants q)).heaters =
    #v[⟨false, false⟩, ⟨false, false⟩, ⟨false, false⟩] := by
  refine Vector.ext fun j hj => (heatersOff_getElem (storeGrants noGrants q) ⟨j, hj⟩).trans ?_
  rw [storeGrants_heaters]
  match j, hj with
  | 0, _ | 1, _ | 2, _ => rfl

/-- R102: every line off and no grant stored. -/
theorem linesOff_interlockRaised (s : State) (cs : Vector Compressor 2) :
    linesOff { (interlockRaised s).seq with comps := cs } =
      { s.seq with
        interlock := ⟨true, 0⟩, interlockTicks := 0, comps := cs
        heaters := #v[⟨false, false⟩, ⟨false, false⟩, ⟨false, false⟩]
        fanLevel := 0, fanGrant := 0, pfLine := false, pfGrant := false, valve := 0, failTimer := none } := by
  rw [← noGrants_heaters_off { s.seq with interlock := ⟨true, 0⟩, interlockTicks := 0 }]
  simp only [linesOff, driveFan, or_true, if_true]
  rfl

theorem acceptInterlockOn_seq_eq (s : State) :
    (acceptInterlockOn s).seq = linesOff (forceStops 2 (interlockRaised s)).seq :=
  (fillSafety_seq _).trans rfl

theorem acceptInterlockOn_seq (s : State) : (acceptInterlockOn s).seq =
    { s.seq with
      interlock := ⟨true, 0⟩, interlockTicks := 0, comps := (acceptInterlockOn s).seq.comps
      heaters := #v[⟨false, false⟩, ⟨false, false⟩, ⟨false, false⟩]
      fanLevel := 0, fanGrant := 0, pfLine := false, pfGrant := false, valve := 0, failTimer := none } := by
  have seq := acceptInterlockOn_seq_eq s
  rw [(forceStops_events 2 (interlockRaised s)).seq, linesOff_interlockRaised] at seq
  generalize (forceStops 2 (interlockRaised s)).seq.comps = cs at seq
  rw [seq]

/-- R95, R102: a compressor at the onset of the interlock. -/
theorem acceptInterlockOn_comp (s : State) (i : CompId) : (acceptInterlockOn s).seq.comps[i] =
    if running s.seq.comps[i] = true then
      { stopped (minOffFloor s) s.seq.comps[i] with grant := false, blocked := false }
    else { s.seq.comps[i] with grant := false, blocked := false } := by
  have floor : minOffFloor (interlockRaised s) = minOffFloor s := rfl
  rw [acceptInterlockOn_seq_eq, linesOff_comps, forceStops_comp, interlockRaised_comp, floor]
  rfl

end Sys2Proof.Machine
end

section
/-! The plant under an active interlock (R98, R99, R101, R102). -/

namespace Sys2Proof.Machine

/-! ## Lines and outputs off -/

/-- Every plant line and output of the Sequencer is off. -/
structure PlantOff (q : Sequencer) : Prop where
  fan : q.fanLevel = 0
  pf : q.pfLine = false
  valve : q.valve = 0
  heaters : ∀ j : Fin 3, q.heaters[j].line = false
  comps : ∀ i : CompId, running q.comps[i] = false

theorem plantHeld_iff (s : State) : PlantHeld s ↔ (s.seq.interlock.active = true → PlantOff s.seq) :=
  ⟨fun h on => let ⟨fan, pf, valve, heaters, comps⟩ := h on; ⟨fan, pf, valve, heaters, comps⟩,
    fun h on => let ⟨fan, pf, valve, heaters, comps⟩ := h on; ⟨fan, pf, valve, heaters, comps⟩⟩

section
variable {s t : State}

theorem plantHeld_of_inactive (off : s.seq.interlock.active = false) : PlantHeld s := fun on => by
  rw [off] at on; cases on

/-- The plant stays off through an event that keeps the interlock and switches nothing on under it. -/
theorem PlantHeld.mono (h : PlantHeld s) (interlock : t.seq.interlock.active = s.seq.interlock.active)
    (off : s.seq.interlock.active = true → PlantOff s.seq → PlantOff t.seq) : PlantHeld t :=
  (plantHeld_iff t).2 fun on => off (interlock ▸ on) ((plantHeld_iff s).1 h (interlock ▸ on))

/-- Lines that stay off are not switched on by a change of the compressors that starts none. -/
theorem PlantOff.withComps {q : Sequencer} (h : PlantOff q) {cs : Vector Compressor 2}
    (comps : ∀ i : CompId, running cs[i] = false) : PlantOff { q with comps := cs } :=
  { h with comps := comps }

/-- An event of one compressor that does not start it keeps the plant off. -/
theorem PlantHeld.compEvent {i : CompId} {ns : List (Code × Nat × Int)} (h : PlantHeld s) (event : CompEvent i ns s t)
    (comp : s.seq.interlock.active = true → running s.seq.comps[i] = false → running t.seq.comps[i] = false) :
    PlantHeld t := by
  refine h.mono (by rw [event.seq_eq]) fun on off => ?_
  rw [event.seq_eq]
  refine off.withComps fun j => ?_
  by_cases here : j = i
  · subst here; exact comp on (off.comps j)
  · rw [event.other here]; exact off.comps j

theorem PlantHeld.startTest (h : PlantHeld s) (i : CompId) : PlantHeld (startTest i s) :=
  h.compEvent (startTest_event i s) fun on off =>
    ((startTest_spec i s).1.running_eq (not_mayStart_of_interlock on _)).trans off

theorem PlantHeld.startTests (h : PlantHeld s) : PlantHeld (startTests s) := (h.startTest 0).startTest 1

theorem PlantHeld.refreshLimit (h : PlantHeld s) (i : CompId) (old : Nat) : PlantHeld (refreshLimit i old s) :=
  h.compEvent (refreshLimit_event i old s) fun on off =>
    ((refreshLimit_moved i old s).running_eq (not_mayStart_of_interlock on _)).trans off

theorem PlantHeld.setComp (h : PlantHeld s) (i : CompId) (c : Compressor)
    (comp : s.seq.interlock.active = true → running s.seq.comps[i] = false → running c = false) :
    PlantHeld (setComp i c s) :=
  h.compEvent (setComp_event i c s) fun on off => by rw [setComp_self]; exact comp on off

/-! ## The events of the plant -/

theorem plantHeld_elapse (k : Nat) (h : PlantHeld s) : PlantHeld (elapse k s) := by
  obtain ⟨heaters, fan, -, pf, -, valve, -, interlock, -, -⟩ := elapse_seq_frame k s
  refine h.mono (by rw [interlock]) fun _ off => ⟨fan.trans off.fan, pf.trans off.pf, valve.trans off.valve, ?_, ?_⟩
  · rw [heaters]; exact off.heaters
  · intro i
    rw [elapse_comps]
    split <;> exact off.comps i

theorem powerUp_seq (a b c : BitVec 2) (s : State) : (powerUp a b c s).seq =
    { State.reset.seq with
      comps := (startSettings s.store).comps.map
        (powerOnComp (startSettings s.store).limits[2].value.toNat) } := by
  unfold powerUp
  dsimp only
  split <;> rfl

/-- R81, R89, R98, R99, R102: a pass switches nothing on while the interlock is active. -/
theorem plantHeld_allocate (h : PlantHeld s) : PlantHeld (allocate s) := by
  refine h.mono (by rw [allocate_seq]) fun on off => ⟨?_, ?_, ?_, fun j => ?_, fun i => ?_⟩
  · rw [allocate_seq]; simp only [on, if_true]
  · rw [allocate_seq]; simp only [on, Bool.not_true, Bool.and_false]
  · rw [allocate_seq]; exact off.valve
  · rw [allocate_heater]; simp only [on, Bool.not_true, Bool.and_false, Bool.false_and]
  · have barred := not_mayStart_of_interlock on
    rw [(allocate_tested s i).running_eq (barred _)]
    exact running_withGrant _ _ (((limitsChecked_moved s i).running_eq (barred _)).trans (off.comps i))

theorem plantHeld_setValve (h : PlantHeld s) : PlantHeld (setValve s) :=
  h.mono rfl fun on off => { off with valve := if_pos on }

theorem plantHeld_seqModeEvent (m : Mode) (h : PlantHeld s) : PlantHeld (seqModeEvent m s) := by
  unfold seqModeEvent
  split
  · exact h.mono rfl fun _ off => { off with heaters := fun j => by simp }
  · exact h

theorem running_compSecond (pt : Word) (c : Compressor) : running (compSecond pt c) = running c := rfl

theorem plantHeld_seqSecond (h : PlantHeld s) : PlantHeld (seqSecond s) := by
  refine PlantHeld.startTests (h.mono rfl fun _ off => off.withComps fun i => ?_)
  simpa [running_compSecond] using off.comps i

theorem plantHeld_minOffEnd (i : CompId) (h : PlantHeld s) : PlantHeld (minOffEnd i s) :=
  (h.setComp i _ fun _ _ => rfl).startTest i

theorem stopComp_event (i : CompId) (cause : Nat) (s : State) :
    CompEvent i [(.compStop, i.val, (cause : Int))] s (stopComp i cause s) := ⟨rfl, rfl, rfl, ⟨_, rfl⟩, rfl⟩

/-- R93: a minimum on time that ends belongs to a running compressor, and none runs under an active interlock. -/
theorem plantHeld_minOnEnd (i : CompId) (h : PlantHeld s) (runMin : s.seq.comps[i].state = .runMin) :
    PlantHeld (minOnEnd i s) := by
  have runs : running s.seq.comps[i] = true := by rw [running, runMin]; rfl
  unfold minOnEnd
  dsimp only
  split
  · exact h.setComp i _ fun _ off => absurd (runs.symm.trans off) (by decide)
  · exact h.compEvent (stopComp_event i 1 s) fun _ off => absurd (runs.symm.trans off) (by decide)

theorem plantHeld_forceStops (cause : Nat) (h : PlantHeld s) : PlantHeld (forceStops cause s) := by
  refine h.mono (by rw [(forceStops_events cause s).seq]) fun _ off => ?_
  rw [(forceStops_events cause s).seq]
  exact off.withComps (running_forceStops cause s)

theorem plantHeld_proofLoss (h : PlantHeld s) : PlantHeld (proofLoss s) :=
  (plantHeld_forceStops 3 h).mono rfl fun _ off =>
    { off with heaters := fun j => congrArg Heater.line (heatersOff_getElem _ j) }

theorem plantHeld_proofFail (h : PlantHeld s) : PlantHeld (proofFail s) := by
  unfold proofFail
  dsimp only
  split <;> exact h

/-- R102: the onset of the interlock switches everything off. -/
theorem plantOff_acceptInterlockOn (s : State) : PlantOff (acceptInterlockOn s).seq := by
  rw [acceptInterlockOn_seq]
  refine ⟨rfl, rfl, rfl, fun j => ?_, fun i => ?_⟩
  · match j with
    | 0 | 1 | 2 => rfl
  · rw [acceptInterlockOn_comp]
    split
    · rfl
    · rename_i off; exact Bool.eq_false_iff.2 off

theorem plantHeld_acceptInterlockOff (s : State) : PlantHeld (acceptInterlockOff s) :=
  plantHeld_of_inactive (by simp [acceptInterlockOff])

theorem plantHeld_acceptProofActive (h : PlantHeld s) : PlantHeld (acceptProofActive s) := by
  have proven : PlantHeld (modSeq (fun q =>
      { q with fanProof := ⟨true, 0⟩, proof := .proven, lossTimer := none, failTimer := none }) s) := h
  refine proven.startTests.mono rfl fun on off => { off with heaters := fun j => ?_ }
  refine (congrArg Heater.line (heatersOn_getElem _ j)).trans ?_
  simp only [off.heaters j, heaterConditions, on, Bool.not_true, Bool.and_false, Bool.or_self]

theorem plantHeld_ownWriteCompressor (n : Byte) (off on : Half) (lim : Byte) (h : PlantHeld s) :
    PlantHeld (ownWriteCompressor n off on lim s).1 := by
  rcases ownWriteCompressor_cases n off on lim s with refused | ⟨i, cfg, taken⟩
  · rw [refused]; exact h
  · rw [taken]
    exact PlantHeld.refreshLimit (h.setComp i { s.seq.comps[i] with cfg := cfg } fun _ off => off) i _

theorem plantHeld_ownWriteLimits (n : Byte) (a b c d : Half) (h : PlantHeld s) :
    PlantHeld (ownWriteLimits n a b c d s).1 := by
  unfold ownWriteLimits
  split_ifs
  · exact h
  · exact h
  · exact (PlantHeld.refreshLimit (s := modAlloc _ s) h 0 _).refreshLimit 1 _

end

/-- R102: each event that reaches the Sequencer keeps the plant off under an active interlock. -/
theorem plantHeld_kept : KeptByPlantEvents PlantHeld where
  same h eq := h.mono (by rw [eq.1]) fun _ off => by rw [eq.1]; exact off
  elapse k _ h := plantHeld_elapse k h
  powerUp a b c s := plantHeld_of_inactive (by rw [powerUp_seq]; rfl)
  allocate := plantHeld_allocate
  setValve := plantHeld_setValve
  seqModeEvent m _ h := plantHeld_seqModeEvent m h
  seqSecond := plantHeld_seqSecond
  minOffEnd i _ h := plantHeld_minOffEnd i h
  minOnEnd i _ h := plantHeld_minOnEnd i h
  proofLoss := plantHeld_proofLoss
  proofFail := plantHeld_proofFail
  counted _ _ _ _ h := h
  interlockOn _ := (plantHeld_iff _).2 fun _ => plantOff_acceptInterlockOn _
  interlockOff _ := plantHeld_acceptInterlockOff _
  proofActive := plantHeld_acceptProofActive
  proofInactive h := h
  writeCompressor n off on lim _ h := plantHeld_ownWriteCompressor n off on lim h
  writeLimits n a b c d _ h := plantHeld_ownWriteLimits n a b c d h

/-- Settles O55: every event of the plant keeps it off, so every step does. -/
theorem interlockKeepsThePlantOff : Obligations.InterlockKeepsThePlantOff := fun _ _ h e => plantHeld_kept.step h e

end Sys2Proof.Machine
end

section
/-! The start histories against the start limit in force (R90, R91). -/

namespace Sys2Proof.Machine

/-! ## A start history within its limit -/

/-- R90: the start history of compressor i holds at most as many starts as its start limit in force. -/
def historyHeld (s : State) (i : CompId) : Prop :=
  (s.seq.comps[i]).history.length ≤ startLimit s.alloc s.seq.comps[i]

section
variable {s t : State}

/-- A history that no event has lengthened stays within a limit that no event has moved. -/
theorem historyHeld.mono {i : CompId} (h : historyHeld s i) (limits : t.alloc.inForce = s.alloc.inForce)
    (cfg : t.seq.comps[i].cfg = s.seq.comps[i].cfg)
    (history : (t.seq.comps[i]).history.length ≤ (s.seq.comps[i]).history.length) : historyHeld t i := by
  have limit : startLimit t.alloc t.seq.comps[i] = startLimit s.alloc s.seq.comps[i] := by
    rw [startLimit_congr cfg, startLimit, startLimit, startCap, startCap, limitInForce, limitInForce, limits]
  unfold historyHeld
  rw [limit]
  exact history.trans h

theorem StartsHeld.mono (h : StartsHeld s) (limits : t.alloc.inForce = s.alloc.inForce)
    (comps : ∀ i : CompId, t.seq.comps[i].cfg = s.seq.comps[i].cfg ∧
      (t.seq.comps[i]).history.length ≤ (s.seq.comps[i]).history.length) : StartsHeld t := fun i =>
  historyHeld.mono (h i) limits (comps i).1 (comps i).2

/-- An event of one compressor that leaves its history within the limit keeps both histories within theirs. -/
theorem StartsHeld.compEvent {i : CompId} {ns : List (Code × Nat × Int)} (h : StartsHeld s) (event : CompEvent i ns s t)
    (comp : historyHeld s i → historyHeld t i) : StartsHeld t := fun j => by
  by_cases here : j = i
  · subst here; exact comp (h j)
  · exact historyHeld.mono (h j) (by rw [event.alloc]) (by rw [event.other here]) (by rw [event.other here])

theorem StartsHeld.setComp (h : StartsHeld s) (i : CompId) (c : Compressor) (cfg : c.cfg = s.seq.comps[i].cfg)
    (history : c.history = s.seq.comps[i].history) : StartsHeld (setComp i c s) :=
  h.compEvent (setComp_event i c s) fun held => historyHeld.mono held rfl (by rw [setComp_self, cfg])
    (by rw [setComp_self, history])

/-- R91: a start test starts only where the history has room. -/
theorem StartsHeld.startTest (h : StartsHeld s) (i : CompId) : StartsHeld (startTest i s) :=
  h.compEvent (startTest_event i s) fun held => by
    have tested := (startTest_spec i s).1
    rw [historyHeld, startLimit_congr tested.keeps.1, (startTest_event i s).alloc]
    exact tested.history_le held

theorem StartsHeld.startTests (h : StartsHeld s) : StartsHeld (startTests s) := (h.startTest 0).startTest 1

/-- R90: a limit that moves shortens the history to it, whatever the history was. -/
theorem historyHeld_refreshLimit (i : CompId) (old : Nat) (s : State) : historyHeld (refreshLimit i old s) i := by
  have moved := refreshLimit_moved i old s
  rw [historyHeld, startLimit_congr moved.keeps.1, (refreshLimit_event i old s).alloc]
  exact moved.history_le

theorem StartsHeld.forceStop (h : StartsHeld s) (i : CompId) (cause : Nat) : StartsHeld (forceStop i cause s) :=
  h.compEvent (forceStop_event i cause s) fun held => by
    have comp := forceStop_comp i cause s
    refine historyHeld.mono held (by rw [(forceStop_event i cause s).alloc]) ?_ ?_ <;> rw [comp] <;> split <;> rfl

/-! ## The events of the plant -/

theorem withGrant_history (g : Bool) (floor : Nat) (c : Compressor) : (withGrant g floor c).history = c.history := by
  rw [withGrant_eq]
  split <;> rfl

theorem startsHeld_elapse (k : Nat) (h : StartsHeld s) : StartsHeld (elapse k s) := by
  refine h.mono (by simp) fun i => ?_
  rw [elapse_comps]
  split <;> exact ⟨rfl, le_rfl⟩

theorem startsHeld_powerUp (a b c : BitVec 2) (s : State) : StartsHeld (powerUp a b c s) := fun i => by
  have empty : ((powerUp a b c s).seq.comps[i]).history = [] := by
    rw [powerUp_seq]
    exact congrArg Compressor.history (Vector.getElem_map ..)
  rw [empty]
  exact Nat.zero_le _

/-- R81, R90: the limits check of a pass shortens the histories, and its start tests keep them so. -/
theorem startsHeld_allocate (s : State) : StartsHeld (allocate s) := fun i => by
  obtain ⟨cfg, -⟩ := allocate_comp s i
  rw [startLimit_congr cfg]
  refine (allocate_tested s i).history_le ?_
  rw [passGranted, withGrant_history]
  exact (limitsChecked_moved s i).history_le

theorem startsHeld_seqSecond (h : StartsHeld s) : StartsHeld (seqSecond s) := by
  refine StartsHeld.startTests (h.mono rfl fun i => ?_)
  simp only [modSeq_seq, Fin.getElem_fin, Vector.getElem_map, compSecond]
  exact ⟨trivial, prune_length_le ..⟩

theorem startsHeld_minOffEnd (i : CompId) (h : StartsHeld s) : StartsHeld (minOffEnd i s) :=
  (h.setComp i { s.seq.comps[i] with state := .offReady, offTimer := none } rfl rfl).startTest i

theorem startsHeld_minOnEnd (i : CompId) (h : StartsHeld s) : StartsHeld (minOnEnd i s) := by
  unfold minOnEnd
  dsimp only
  split
  · exact h.setComp i _ rfl rfl
  · exact StartsHeld.setComp h i { s.seq.comps[i] with
      state := .offLocked, onTimer := none
      offTimer := some (max s.seq.comps[i].cfg.minOff (minOffFloor s) * Config.ticksPerSecond) } rfl rfl

theorem startsHeld_proofLoss (h : StartsHeld s) : StartsHeld (proofLoss s) :=
  ((h.forceStop 0 3).forceStop 1 3).mono rfl fun _ => ⟨rfl, le_rfl⟩

theorem startsHeld_proofFail (h : StartsHeld s) : StartsHeld (proofFail s) := by
  unfold proofFail
  dsimp only
  split <;> exact h

theorem startsHeld_seqModeEvent (m : Mode) (h : StartsHeld s) : StartsHeld (seqModeEvent m s) := by
  unfold seqModeEvent
  split <;> exact h

theorem startsHeld_acceptInterlockOn (h : StartsHeld s) : StartsHeld (acceptInterlockOn s) := by
  refine h.mono (by simp) fun i => ?_
  rw [acceptInterlockOn_comp]
  split <;> exact ⟨rfl, le_rfl⟩

theorem startsHeld_acceptInterlockOff (h : StartsHeld s) : StartsHeld (acceptInterlockOff s) :=
  h.mono (by simp) fun i => by simp [acceptInterlockOff]

theorem startsHeld_ownWriteCompressor (n : Byte) (off on : Half) (lim : Byte) (h : StartsHeld s) :
    StartsHeld (ownWriteCompressor n off on lim s).1 := by
  rcases ownWriteCompressor_cases n off on lim s with refused | ⟨i, cfg, taken⟩
  · rw [refused]; exact h
  · rw [taken]
    have event := (setComp_event i { s.seq.comps[i] with cfg := cfg } s).trans
      (refreshLimit_event i (startLimit s.alloc s.seq.comps[i]) _)
    exact h.compEvent event fun _ => historyHeld_refreshLimit ..

/-- R100: the change to PROVEN is a test event; what else it changes reaches no history. -/
theorem startsHeld_acceptProofActive (h : StartsHeld s) : StartsHeld (acceptProofActive s) := by
  have proven : StartsHeld (modSeq (fun q =>
      { q with fanProof := ⟨true, 0⟩, proof := .proven, lossTimer := none, failTimer := none }) s) :=
    h.mono rfl fun _ => ⟨rfl, le_rfl⟩
  exact proven.startTests.mono rfl fun _ => ⟨rfl, le_rfl⟩

/-- R81, R90: a taken LIMITS write refreshes both limits; a refused one changes nothing. -/
theorem startsHeld_ownWriteLimits (n : Byte) (a b c d : Half) (h : StartsHeld s) :
    StartsHeld (ownWriteLimits n a b c d s).1 := by
  by_cases index : n = 0
  · subst index
    cases busy : s.store.busy with
    | true => rw [ownWriteLimits_of_busy busy]; exact h
    | false =>
      rw [ownWriteLimits_taken busy]
      intro i
      have moved := refreshLimits_moved s (withLimits (clampedLimits a b c d) s) i
      rw [startLimit_congr moved.keeps.1, refreshLimits_touches]
      exact moved.history_le
  · rw [ownWriteLimits_of_index index]; exact h

end

/-- R90, R91: each event that reaches the compressors or the limits in force keeps the histories within them. -/
theorem startsHeld_kept : KeptByPlantEvents StartsHeld where
  same h eq := h.mono eq.2 fun i => by rw [eq.1]; exact ⟨rfl, le_rfl⟩
  elapse k _ h := startsHeld_elapse k h
  powerUp := startsHeld_powerUp
  allocate _ := startsHeld_allocate _
  setValve h := h
  seqModeEvent m _ h := startsHeld_seqModeEvent m h
  seqSecond := startsHeld_seqSecond
  minOffEnd i _ h := startsHeld_minOffEnd i h
  minOnEnd i _ h _ := startsHeld_minOnEnd i h
  proofLoss := startsHeld_proofLoss
  proofFail := startsHeld_proofFail
  counted _ _ _ _ h := h
  interlockOn := startsHeld_acceptInterlockOn
  interlockOff := startsHeld_acceptInterlockOff
  proofActive := startsHeld_acceptProofActive
  proofInactive h := h
  writeCompressor n off on lim _ h := startsHeld_ownWriteCompressor n off on lim h
  writeLimits n a b c d _ h := startsHeld_ownWriteLimits n a b c d h

/-- Settles O58: every event of the plant keeps the start histories within their limits, so every step does. -/
theorem startsStayWithinTheLimit : Obligations.StartsStayWithinTheLimit := fun _ _ h e => startsHeld_kept.step h e

end Sys2Proof.Machine
end

section
/-! What start tests touch, and the COMPRESSOR write (R88, R90 to R92). -/

namespace Sys2Proof.Machine

/-! ## What start tests touch -/

/-- A start test touches its compressor, the notices and the free value counter. -/
theorem startTest_touches (i : CompId) (s : State) : startTest i s =
    { s with
      seq := { s.seq with comps := (startTest i s).seq.comps }
      ports := (startTest i s).ports, freeSeq := (startTest i s).freeSeq } := by
  rw [← (startTest_event i s).seq_eq]
  have frame := startTest_frame i s
  generalize startTest i s = t at frame
  cases t
  simpa using frame

theorem startTests_touches (s : State) : startTests s =
    { s with
      seq := { s.seq with comps := (startTests s).seq.comps }
      ports := (startTests s).ports, freeSeq := (startTests s).freeSeq } := by
  rw [← (startTests_events s).seq]
  have frame := startTests_frame s
  generalize startTests s = t at frame
  cases t
  simpa using frame

theorem refreshLimit_touches (i : CompId) (old : Nat) (s : State) : refreshLimit i old s =
    { s with
      seq := { s.seq with comps := (refreshLimit i old s).seq.comps }
      ports := (refreshLimit i old s).ports, freeSeq := (refreshLimit i old s).freeSeq } := by
  rw [← (refreshLimit_event i old s).seq_eq]
  have frame := refreshLimit_frame i old s
  generalize refreshLimit i old s = t at frame
  cases t
  simpa using frame

/-! ## The notices of a start test, outcome by outcome (R91, R92) -/

section
variable {pt : Word} {limit : Nat} {free : Prop} {i : CompId} {c d : Compressor}

theorem startNotices_of_start (off : c.state = .offReady) (runs : d.state = .runMin) :
    startNotices i c d = [(.compStart, i.val, (d.history.length : Int))] := if_pos ⟨off, runs⟩

theorem startNotices_of_block (rests : d.state ≠ .runMin) (clear : c.blocked = false) (blocked : d.blocked = true) :
    startNotices i c d = [(.startLimit, i.val, (d.nextStart.toNat : Int))] := by
  rw [startNotices, if_neg fun starts => rests starts.2, if_pos ⟨clear, blocked⟩]

theorem startNotices_of_same (rests : d.state ≠ .runMin) (same : d.blocked = c.blocked) :
    startNotices i c d = [] := by
  rw [startNotices, if_neg fun starts => rests starts.2, if_neg]
  rintro ⟨clear, blocked⟩
  rw [same, clear] at blocked
  cases blocked

theorem StartTested.posts_start (h : StartTested pt limit free c d) (tested : c.state = .offReady ∧ c.grant = true)
    (room : (prune pt c.history).length < limit) (run : free) :
    startNotices i c d = [(.compStart, i.val, (((prune pt c.history).length + 1 : Nat) : Int))] := by
  rw [h.2.1 tested room run, startNotices_of_start tested.1 rfl, List.length_append]
  rfl

theorem StartTested.posts_wait (h : StartTested pt limit free c d) (tested : c.state = .offReady ∧ c.grant = true)
    (room : (prune pt c.history).length < limit) (barred : ¬free) : startNotices i c d = [] := by
  rw [h.2.2.1 tested room barred]
  exact startNotices_of_same (by rw [tested.1]; decide) rfl

theorem StartTested.blocks (h : StartTested pt limit free c d) (tested : c.state = .offReady ∧ c.grant = true)
    (full : limit ≤ (prune pt c.history).length) : d.state ≠ .runMin ∧ d.blocked = true := by
  obtain ⟨-, -, -, blocks⟩ := h
  rw [(blocks tested full).1, tested.1]
  exact ⟨by decide, rfl⟩

theorem StartTested.posts_block_kept (h : StartTested pt limit free c d)
    (tested : c.state = .offReady ∧ c.grant = true) (full : limit ≤ (prune pt c.history).length)
    (was : c.blocked = true) : startNotices i c d = [] := by
  obtain ⟨rests, blocked⟩ := h.blocks tested full
  exact startNotices_of_same rests (blocked.trans was.symm)

theorem StartTested.posts_block_begun (h : StartTested pt limit free c d)
    (tested : c.state = .offReady ∧ c.grant = true) (full : limit ≤ (prune pt c.history).length)
    (clear : c.blocked = false) : startNotices i c d = [(.startLimit, i.val, (d.nextStart.toNat : Int))] := by
  obtain ⟨rests, blocked⟩ := h.blocks tested full
  exact startNotices_of_block rests clear blocked

end

/-! ## The settings stored -/

section
variable (i : CompId) (cfg : CompCfg) (s : State)

theorem storeCompCfg_touches : storeCompCfg i cfg s =
    { s with
      seq := { s.seq with comps := (storeCompCfg i cfg s).seq.comps }
      ports := (storeCompCfg i cfg s).ports, freeSeq := (storeCompCfg i cfg s).freeSeq } :=
  refreshLimit_touches i (startLimit s.alloc s.seq.comps[i]) (setComp i { s.seq.comps[i] with cfg := cfg } s)

/-- R81, R90: the compressor with new settings, its history shortened to the limit in force. -/
def resettled (cfg : CompCfg) (limit : Nat) (c : Compressor) : Compressor := shortened limit { c with cfg := cfg }

theorem storeCompCfg_event : CompEvent i
    (startNotices i (resettled cfg (min cfg.startLimit (startCap s.alloc)) s.seq.comps[i])
      (storeCompCfg i cfg s).seq.comps[i]) s (storeCompCfg i cfg s) := by
  have event := (setComp_event i { s.seq.comps[i] with cfg := cfg } s).trans
    (refreshLimit_event i (startLimit s.alloc s.seq.comps[i]) _)
  rw [setComp_self] at event
  exact event

/-- R81, R88, R90, R91: new settings may move the start limit in force. -/
theorem storeCompCfg_moved : LimitMoved s.pt (startLimit s.alloc s.seq.comps[i]) (min cfg.startLimit (startCap s.alloc))
    (mayStart s.seq s.seq.fanLevel) { s.seq.comps[i] with cfg := cfg } (storeCompCfg i cfg s).seq.comps[i] := by
  have moved := refreshLimit_moved i (startLimit s.alloc s.seq.comps[i])
    (setComp i { s.seq.comps[i] with cfg := cfg } s)
  rw [setComp_self] at moved
  exact moved

theorem storeCompCfg_ports {ns : List (Code × Nat × Int)}
    (posts : startNotices i (resettled cfg (min cfg.startLimit (startCap s.alloc)) s.seq.comps[i])
      (storeCompCfg i cfg s).seq.comps[i] = ns) : (storeCompCfg i cfg s).ports = (postAll ns s).ports := by
  rw [← posts]
  exact (storeCompCfg_event i cfg s).ports

/-- R90, R91: unless a raise finds the compressor waiting with a grant, settings and history alone change. -/
theorem storeCompCfg_untested (untested : ¬(startLimit s.alloc s.seq.comps[i] < min cfg.startLimit (startCap s.alloc) ∧
      s.seq.comps[i].state = .offReady ∧ s.seq.comps[i].grant = true)) :
    (storeCompCfg i cfg s).seq.comps[i] =
      resettled cfg (min cfg.startLimit (startCap s.alloc)) s.seq.comps[i] := by
  obtain ⟨lowered, raised⟩ := LimitMoved.iff.1 (storeCompCfg_moved i cfg s)
  rcases Nat.lt_or_ge (startLimit s.alloc s.seq.comps[i]) (min cfg.startLimit (startCap s.alloc)) with up | down
  · exact (raised up).1 fun ready => untested ⟨up, ready⟩
  · exact lowered down

end

/-- Settles O20: the refusals; then the stored settings as a limit that may move, a raise as a start test. -/
theorem compressorWriteKeepsTheRun : Obligations.CompressorWriteKeepsTheRun := by
  intro p n off on lim s served
  refine ⟨fun beyond => exec_writeItemCompressor served (ownWriteCompressor_of_index beyond ..), fun i number =>
    ⟨fun busy => exec_writeItemCompressor served (ownWriteCompressor_of_busy number busy ..), fun idle => ?_⟩⟩
  have moved := storeCompCfg_moved i (clampedCompCfg off on lim) s
  have posts {ns} := storeCompCfg_ports i (clampedCompCfg off on lim) s (ns := ns)
  obtain ⟨cfg, seconds, grant⟩ := moved.keeps
  have raised := (LimitMoved.iff.1 moved).2
  refine ⟨storeCompCfg i (clampedCompCfg off on lim) s,
    exec_writeItemCompressor served (ownWriteCompressor_taken number idle off on lim), storeCompCfg_touches .., cfg,
    fun j other => (storeCompCfg_event ..).other other, moved.history_le, grant, seconds,
    fun untested => ?_, fun ⟨up, ready⟩ room free => ?_, fun ⟨up, ready⟩ room barred => ?_, fun ⟨up, ready⟩ full => ?_⟩
  · have short := storeCompCfg_untested i (clampedCompCfg off on lim) s untested
    exact ⟨short, posts (ns := []) (by rw [short]; exact startNotices_self ..)⟩
  · obtain ⟨-, starts, -⟩ := raised up
    exact ⟨starts ready room free, posts ((raised up).posts_start ready room free)⟩
  · obtain ⟨-, -, waits, -⟩ := raised up
    exact ⟨waits ready room barred, posts (ns := []) ((raised up).posts_wait ready room barred)⟩
  · obtain ⟨-, -, -, blocks⟩ := raised up
    obtain ⟨blocked, kept, begun⟩ := blocks ready full
    exact ⟨blocked, fun was => ⟨kept was, posts (ns := []) ((raised up).posts_block_kept ready full was)⟩,
      fun clear => ⟨posts ((raised up).posts_block_begun ready full clear), begun clear⟩⟩

end Sys2Proof.Machine
end

section
/-! Seconds and timer expiries of the Sequencer (R90 to R93, R95, R97). -/

namespace Sys2Proof.Machine

/-! ## Compressors while part time runs -/

/-- Part time moves the timers of a compressor alone. -/
theorem elapse_comp (k : Nat) (s : State) (i : CompId) : (elapse k s).seq.comps[i] =
    { s.seq.comps[i] with
      offTimer := ((elapse k s).seq.comps[i]).offTimer, onTimer := ((elapse k s).seq.comps[i]).onTimer } := by
  rw [elapse_comps]
  split <;> rfl

theorem running_elapse (k : Nat) (s : State) (i : CompId) :
    running (elapse k s).seq.comps[i] = running s.seq.comps[i] := by rw [elapse_comp]; rfl

theorem startLimit_elapse (k : Nat) (s : State) (i : CompId) :
    startLimit (elapse k s).alloc (elapse k s).seq.comps[i] = startLimit s.alloc s.seq.comps[i] := by
  rw [show (elapse k s).alloc = s.alloc by simp, elapse_comp]
  rfl

theorem mayStart_elapse (k : Nat) (s : State) :
    mayStart (elapse k s).seq (elapse k s).seq.fanLevel = mayStart s.seq s.seq.fanLevel := by
  simp [mayStart]

theorem minOffFloor_elapse (k : Nat) (s : State) : minOffFloor (elapse k s) = minOffFloor s := by
  simp [minOffFloor]

/-- What a start test posts depends on run state and blocked flag before it. -/
theorem startNotices_congr {c d : Compressor} (state : d.state = c.state) (blocked : d.blocked = c.blocked)
    (i : CompId) (e : Compressor) : startNotices i d e = startNotices i c e := by
  rw [startNotices, startNotices, state, blocked]

/-! ## The second (R90, R97) -/

theorem prune_prune (pt : Word) (h : List Word) : prune pt (prune pt h) = prune pt h :=
  List.dropWhile_idempotent _ h

/-- R97: a running compressor counts a run second, which stops at its largest value. -/
theorem compSecond_of_running {c : Compressor} (runs : running c = true) (pt : Word) : compSecond pt c =
    { c with history := prune pt c.history, runSeconds := min (c.runSeconds + 1) (max c.runSeconds 4294967295) } := by
  have seconds : (if running c = true ∧ c.runSeconds < Config.maxCount32 then c.runSeconds + 1 else c.runSeconds) =
      min (c.runSeconds + 1) (max c.runSeconds 4294967295) := by
    rw [if_congr (and_iff_right runs) rfl rfl]
    simp only [Config.maxCount32]
    split <;> omega
  rw [compSecond, seconds]

theorem compSecond_of_off {c : Compressor} (off : running c = false) (pt : Word) :
    compSecond pt c = { c with history := prune pt c.history } := by
  rw [compSecond, if_neg (by simp [off])]

/-- The state of a second of the Sequencer before its start tests. -/
def secondCounted (s : State) : State :=
  modSeq (fun q => { q with comps := q.comps.map (compSecond (elapse s.timers.sequencer s).pt) })
    { elapse s.timers.sequencer s with
      timers := { (elapse s.timers.sequencer s).timers with sequencer := Config.secondPeriod } }

theorem exec_sequencerSecond (s : State) : exec .sequencerSecond s = .next (startTests (secondCounted s)) := rfl

theorem secondCounted_comp (s : State) (i : CompId) : (secondCounted s).seq.comps[i] =
    compSecond (elapse s.timers.sequencer s).pt (elapse s.timers.sequencer s).seq.comps[i] := Vector.getElem_map ..

/-- R90, R91, R97: a compressor over a second, its history pruned before the test and so not again by it. -/
theorem secondCounted_tested (s : State) (i : CompId) :
    StartTested (elapse s.timers.sequencer s).pt (startLimit s.alloc s.seq.comps[i])
      (mayStart s.seq s.seq.fanLevel)
      (compSecond (elapse s.timers.sequencer s).pt (elapse s.timers.sequencer s).seq.comps[i])
      (startTests (secondCounted s)).seq.comps[i] := by
  have tested := startTests_tested (secondCounted s) i
  have free : mayStart (secondCounted s).seq (secondCounted s).seq.fanLevel = mayStart s.seq s.seq.fanLevel :=
    mayStart_elapse s.timers.sequencer s
  have limit : startLimit (secondCounted s).alloc
      (compSecond (elapse s.timers.sequencer s).pt (elapse s.timers.sequencer s).seq.comps[i]) =
      startLimit s.alloc s.seq.comps[i] := startLimit_elapse s.timers.sequencer s i
  rw [free, secondCounted_comp, limit] at tested
  exact tested

theorem secondCounted_notices (s : State) (i : CompId) (d : Compressor) :
    startNotices i (secondCounted s).seq.comps[i] d = startNotices i s.seq.comps[i] d := by
  rw [secondCounted_comp, elapse_comp]
  exact startNotices_congr rfl rfl i d

section
variable {pt : Word} {limit : Nat} {free : Prop} {c d : Compressor}

/-- R90, R97: a running compressor is not tested at a second. -/
theorem StartTested.second_running (h : StartTested pt limit free (compSecond pt c) d) (runs : running c = true) :
    d = { c with
      history := prune pt c.history, runSeconds := min (c.runSeconds + 1) (max c.runSeconds 4294967295) } := by
  have state : (compSecond pt c).state ≠ .offReady := fun off => by
    rw [running, show c.state = .offReady from off] at runs
    cases runs
  rw [h.eq_of_state state, compSecond_of_running runs]

/-- R90, R91: at a second a compressor that is off is tested with its history pruned, which a test leaves as it is. -/
theorem StartTested.second_off (h : StartTested pt limit free (compSecond pt c) d) (off : running c = false) :
    StartTested pt limit free { c with history := prune pt c.history } d := by
  rw [compSecond_of_off off] at h
  exact h

theorem running_of_offReady (off : c.state = .offReady) : running c = false := by rw [running, off]; rfl

/-- R90 to R92, R97: what a second makes of compressor c, whose timers part time has moved in u. -/
theorem StartTested.second {u : Compressor} (comp : u = { c with offTimer := u.offTimer, onTimer := u.onTimer })
    (h : StartTested pt limit free (compSecond pt u) d) :
    (running c = true → d = { u with
      history := prune pt c.history, runSeconds := min (c.runSeconds + 1) (max c.runSeconds 4294967295) }) ∧
    (running c = false → ¬(c.state = .offReady ∧ c.grant = true) → d = { u with history := prune pt c.history }) ∧
    (c.state = .offReady ∧ c.grant = true → (prune pt c.history).length < limit → free → d = { u with
      history := prune pt c.history ++ [pt], state := .runMin, offTimer := none
      onTimer := some (100 * c.cfg.minOn), blocked := false }) ∧
    (c.state = .offReady ∧ c.grant = true → ¬(prune pt c.history).length < limit →
      d.state = .offReady ∧ d.blocked = true ∧ d.history = prune pt c.history ∧
        (c.blocked = false → ∀ e rest, prune pt c.history = e :: rest → d.nextStart = e + 3600)) ∧
    (c.state = .offReady ∧ c.grant = true → (prune pt c.history).length < limit → ¬free →
      d = { u with history := prune pt c.history }) := by
  generalize u.offTimer = a at comp
  generalize u.onTimer = b at comp
  subst comp
  refine ⟨fun runs => h.second_running runs, fun off untested => (h.second_off off).1 untested,
    fun ready => ?_, fun ready => ?_, fun ready => ?_⟩ <;>
  obtain ⟨-, starts, waits, blocks⟩ := h.second_off (running_of_offReady ready.1) <;>
  simp only [prune_prune] at starts waits blocks
  · exact starts ready
  · intro full
    obtain ⟨outcome, -, begun⟩ := blocks ready (Nat.not_lt.1 full)
    rw [outcome]
    exact ⟨ready.1, rfl, rfl, fun clear e rest head => begun clear e (by rw [head]; rfl)⟩
  · exact waits ready

end

/-- Settles O44: the compressors as `compSecond` leaves them, then the start tests. -/
theorem sequencerSecondPrunesAndStarts : Obligations.SequencerSecondPrunesAndStarts := by
  intro s
  refine ⟨startTests (secondCounted s), exec_sequencerSecond s, ?_, fun i => ?_⟩
  · have touches := startTests_touches (secondCounted s)
    have ports := (startTests_events (secondCounted s)).ports
    rw [bothStartNotices, secondCounted_notices, secondCounted_notices] at ports
    rw [ports.trans (postAll_ports_congr (s := elapse s.timers.sequencer s) (t := secondCounted s) rfl rfl rfl _)]
      at touches
    exact touches
  obtain ⟨counts, pruned, starts, blocks, waits⟩ := (secondCounted_tested s i).second (elapse_comp ..)
  exact ⟨counts, pruned, fun ready room interlock proof fan => starts ready room ⟨interlock, proof, fan⟩, blocks, waits⟩

/-! ## The minimum off time (R91, R95) -/

theorem setComp_setComp (i : CompId) (c d : Compressor) (s : State) : setComp i c (setComp i d s) = setComp i c s := by
  simp [setComp]

theorem startTest_untested {i : CompId} {s : State}
    (untested : ¬(s.seq.comps[i].state = .offReady ∧ s.seq.comps[i].grant = true)) : startTest i s = s := if_neg untested

/-- R91: a start test that starts. -/
theorem startTest_starts {i : CompId} {s : State}
    (tested : s.seq.comps[i].state = .offReady ∧ s.seq.comps[i].grant = true)
    (room : (prune s.pt s.seq.comps[i].history).length < startLimit s.alloc s.seq.comps[i])
    (free : mayStart s.seq s.seq.fanLevel) :
    startTest i s = startComp i (prune s.pt s.seq.comps[i].history) s :=
  (if_pos tested).trans ((if_neg (Nat.not_le.2 room)).trans (if_pos ((startConditions_iff _).2 free)))

/-- A start test writes its compressor, the notices and the free value counter. -/
theorem startTest_eq (i : CompId) (s : State) : startTest i s =
    { setComp i (startTest i s).seq.comps[i] s with
      ports := (postAll (startNotices i s.seq.comps[i] (startTest i s).seq.comps[i]) s).ports
      freeSeq := (startTest i s).freeSeq } := by
  have comps : (startTest i s).seq.comps = s.seq.comps.set i (startTest i s).seq.comps[i] := by
    obtain ⟨d, seq⟩ := startTest_seq i s
    simp [seq]
  rw [← (startTest_event i s).ports]
  exact (startTest_touches i s).trans (congrArg (fun cs => ({ s with
    seq := { s.seq with comps := cs }
    ports := (startTest i s).ports, freeSeq := (startTest i s).freeSeq } : State)) comps)

section
variable {i : CompId} {k : Nat} {s : State}

/-- R95: the compressor of an expiry of the minimum off timer, before its start test. -/
def offEnded (k : Nat) (i : CompId) (s : State) : Compressor :=
  { (elapse k s).seq.comps[i] with state := .offReady, offTimer := none }

theorem exec_minOffExpiry (locked : s.seq.comps[i].state = .offLocked) (timer : s.seq.comps[i].offTimer = some k) :
    exec (.minOffExpiry i) s = .next (startTest i (setComp i (offEnded k i s) (elapse k s))) := by
  change Host.Outcome.next (minOffStep i s) = _
  rw [minOffStep, timer]
  exact congrArg _ (if_pos locked)

theorem exec_minOnExpiry (runMin : s.seq.comps[i].state = .runMin) (timer : s.seq.comps[i].onTimer = some k) :
    exec (.minOnExpiry i) s = .next (minOnEnd i (elapse k s)) := by
  change Host.Outcome.next (minOnStep i s) = _
  rw [minOnStep, timer]
  exact congrArg _ (if_pos runMin)

end

/-- R95: a stop as the statements write it. -/
theorem stopComp_eq (i : CompId) (cause : Nat) (s : State) : stopComp i cause s =
    post .compStop i cause (setComp i (stopped (minOffFloor s) s.seq.comps[i]) s) := by
  rw [stopComp, stopped, Nat.mul_comm 100]

/-- R91, R95: a granted compressor whose minimum off time ends starts where the conditions of a start hold. -/
theorem startComp_offEnded (h : List Word) (i : CompId) (k : Nat) (s : State) :
    startComp i h (setComp i (offEnded k i s) (elapse k s)) = post .compStart i (h.length + 1 : Nat)
      (setComp i { (elapse k s).seq.comps[i] with
        state := .runMin, history := h ++ [(elapse k s).pt], offTimer := none
        onTimer := some (100 * s.seq.comps[i].cfg.minOn), blocked := false } (elapse k s)) := by
  have cfg : (elapse k s).seq.comps[i].cfg = s.seq.comps[i].cfg := by rw [elapse_comp]
  rw [startComp, setComp_self, setComp_setComp, Nat.mul_comm, offEnded, ← cfg]
  rfl

/-- Settles O45: the expiry of the minimum off time as a start test, that of the minimum on time by the grant. -/
theorem minimumTimersExpire : Obligations.MinimumTimersExpire := by
  intro i k s
  have comp := elapse_comp k s i
  have grant : (elapse k s).seq.comps[i].grant = s.seq.comps[i].grant := by rw [comp]
  have history : (elapse k s).seq.comps[i].history = s.seq.comps[i].history := by rw [comp]
  have ended : (setComp i (offEnded k i s) (elapse k s)).seq.comps[i] = offEnded k i s := setComp_self ..
  have limit : startLimit (setComp i (offEnded k i s) (elapse k s)).alloc (offEnded k i s) =
      startLimit s.alloc s.seq.comps[i] :=
    startLimit_elapse k s i
  have free : mayStart (setComp i (offEnded k i s) (elapse k s)).seq
      (setComp i (offEnded k i s) (elapse k s)).seq.fanLevel = mayStart s.seq s.seq.fanLevel := mayStart_elapse k s
  refine ⟨fun locked timer shut => ?_, fun locked timer on interlock proof fan room => ?_, fun locked timer => ?_,
    fun runMin timer on => ?_, fun runMin timer shut => ?_⟩
  · rw [exec_minOffExpiry locked timer, startTest_untested]
    · rfl
    · rw [ended, offEnded, grant, shut]
      exact fun tested => Bool.noConfusion tested.2
  · have starts := startTest_starts (i := i) (s := setComp i (offEnded k i s) (elapse k s))
    rw [ended, free] at starts
    rw [exec_minOffExpiry locked timer, starts ⟨rfl, grant.trans on⟩ ?_ ⟨interlock, proof, fan⟩, startComp_offEnded,
      offEnded, history]
    · rfl
    · rw [limit, offEnded, history]
      exact room
  · have wrote := startTest_eq i (setComp i (offEnded k i s) (elapse k s))
    have tested := (startTest_spec i (setComp i (offEnded k i s) (elapse k s))).1
    rw [ended, setComp_setComp,
      postAll_ports_congr (s := elapse k s) (t := setComp i (offEnded k i s) (elapse k s)) rfl rfl rfl] at wrote
    rw [ended, free, limit] at tested
    exact ⟨_, exec_minOffExpiry locked timer, wrote, tested⟩
  · rw [exec_minOnExpiry runMin timer]
    exact congrArg _ (if_pos (grant.trans on))
  · have cfg : (elapse k s).seq.comps[i].cfg = s.seq.comps[i].cfg := by rw [comp]
    rw [exec_minOnExpiry runMin timer, ← cfg, ← minOffFloor_elapse k s]
    exact congrArg _ ((if_neg (by rw [grant, shut]; decide)).trans (stopComp_eq i 1 _))

end Sys2Proof.Machine
end

section
/-! FAN_PROOF and its timers (R91, R95, R96, R98, R100). -/

namespace Sys2Proof.Machine

/-! ## The proof timers -/

theorem forcedStops_elapse (cause k : Nat) (s : State) : forcedStops cause (elapse k s).seq = forcedStops cause s.seq := by
  simp only [forcedStops, running_elapse]

theorem exec_proofLossExpiry {k : Nat} {s : State} (timer : s.seq.lossTimer = some k) :
    exec .proofLossExpiry s = .next (proofLoss (elapse k s)) := by
  change Host.Outcome.next (proofLossStep s) = _
  rw [proofLossStep, timer]

theorem exec_proofFailExpiry {k : Nat} {s : State} (timer : s.seq.failTimer = some k) :
    exec .proofFailExpiry s = .next (proofFail (elapse k s)) := by
  change Host.Outcome.next (proofFailStep s) = _
  rw [proofFailStep, timer]

theorem proofLoss_eq (s : State) : proofLoss s =
    modSeq (fun q => { heatersOff q with lossTimer := none }) (forceStops 3 s) := rfl

theorem proofLoss_comps (s : State) : (proofLoss s).seq.comps = (forceStops 3 s).seq.comps := rfl

theorem proofLoss_heaters (s : State) : (proofLoss s).seq.heaters = (heatersOff s.seq).heaters := by
  rw [proofLoss_eq, forceStops_touches]; rfl

/-- R96, R98: the proof-loss expiry touches compressors, heater stages, its timer and the notices. -/
theorem proofLoss_touches (s : State) : proofLoss s =
    { s with
      seq := { s.seq with comps := (proofLoss s).seq.comps, heaters := (proofLoss s).seq.heaters, lossTimer := none }
      ports := (postAll (forcedStops 3 s.seq) s).ports } := by
  rw [proofLoss_heaters, proofLoss_comps, proofLoss_eq]
  conv_lhs => rw [forceStops_touches]
  rfl

/-- R100: the proof fails once. -/
theorem proofFail_eq (s : State) : proofFail s =
    if s.seq.proof = .failed then { s with seq := { s.seq with failTimer := none } }
    else post .fanProofFail 0 s.seq.fanLevel { s with seq := { s.seq with failTimer := none, proof := .failed } } := rfl

/-! ## FAN_PROOF active -/

theorem heatersOn_touches (s : State) : heatersOn s =
    { s with seq := { s.seq with heaters := (heatersOn s).seq.heaters } } := rfl

/-- R100: FAN_PROOF is active and the proof PROVEN, both proof timers stopped. -/
def proven (s : State) : State :=
  modSeq (fun q => { q with fanProof := ⟨true, 0⟩, proof := .proven, lossTimer := none, failTimer := none }) s

theorem acceptProofActive_eq (s : State) : acceptProofActive s = heatersOn (startTests (proven s)) := rfl

theorem acceptProofActive_comps (s : State) : (acceptProofActive s).seq.comps = (startTests (proven s)).seq.comps := rfl

/-- R91, R98, R100: the change to PROVEN touches the proof, its timers, compressors, heater stages and notices. -/
theorem acceptProofActive_touches (s : State) : acceptProofActive s =
    { s with
      seq := { s.seq with
        fanProof := ⟨true, 0⟩, proof := .proven, lossTimer := none, failTimer := none
        comps := (acceptProofActive s).seq.comps, heaters := (acceptProofActive s).seq.heaters }
      ports := (postAll (bothStartNotices s.seq.comps (acceptProofActive s).seq.comps) s).ports
      freeSeq := (acceptProofActive s).freeSeq } := by
  have touches := startTests_touches (proven s)
  have ports : (startTests (proven s)).ports =
      (postAll (bothStartNotices s.seq.comps (startTests (proven s)).seq.comps) s).ports :=
    (startTests_events (proven s)).ports.trans (postAll_ports_congr (s := s) (t := proven s) rfl rfl rfl _)
  have free : (acceptProofActive s).freeSeq = (startTests (proven s)).freeSeq := rfl
  rw [ports] at touches
  rw [acceptProofActive_comps, free, acceptProofActive_eq]
  generalize startTests (proven s) = t at touches ⊢
  have lines := heatersOn_touches t
  generalize (heatersOn t).seq.heaters = hs at lines ⊢
  rw [lines, touches]
  rfl

/-- R91, R100: the start tests at the change to PROVEN, the proof being given. -/
theorem acceptProofActive_tested (s : State) (i : CompId) :
    StartTested s.pt (startLimit s.alloc s.seq.comps[i]) (s.seq.interlock.active = false ∧ 2 ≤ s.seq.fanLevel)
      s.seq.comps[i] (acceptProofActive s).seq.comps[i] := by
  have tested := startTests_tested (proven s) i
  have free : mayStart (proven s).seq (proven s).seq.fanLevel =
      (s.seq.interlock.active = false ∧ 2 ≤ s.seq.fanLevel) := by simp [mayStart, proven]
  rw [free] at tested
  exact tested

/-- R98, R100: a granted stage comes on at the change to PROVEN outside SERVICE and interlock. -/
theorem acceptProofActive_heater (s : State) (j : Fin 3) : (acceptProofActive s).seq.heaters[j] =
    ⟨s.seq.heaters[j].line || (s.seq.heaters[j].grant && decide (s.mode.mode ≠ .service) && !s.seq.interlock.active),
      s.seq.heaters[j].grant⟩ := by
  have conditions : heaterConditions (startTests (proven s)) =
      (decide (s.mode.mode ≠ .service) && !s.seq.interlock.active) := by
    rw [startTests_touches]; simp [heaterConditions, proven]
  have heaters : (startTests (proven s)).seq.heaters = s.seq.heaters := by rw [startTests_touches]; rfl
  rw [acceptProofActive_eq, heatersOn_getElem, conditions, heaters, Bool.and_assoc]

/-! ## The rows -/

theorem exec_fanProofActive {s : State} (inactive : s.seq.fanProof.active = false) : exec .fanProofActive s =
    .next (acceptProofActive { atAccept s.seq.fanProof s with pins := { s.pins with fanProof := true } }) := by
  have pins : (atAccept s.seq.fanProof s).pins = s.pins := by simp [atAccept]
  rw [← pins]
  exact congrArg _ (if_neg (by rw [inactive]; decide))

theorem exec_fanProofInactive {s : State} (active : s.seq.fanProof.active = true) : exec .fanProofInactive s =
    .next (acceptProofInactive { atAccept s.seq.fanProof s with pins := { s.pins with fanProof := false } }) := by
  have pins : (atAccept s.seq.fanProof s).pins = s.pins := by simp [atAccept]
  rw [← pins]
  exact congrArg _ (if_pos active)

/-- What a start test at an accepted change posts, from the compressors as they stood before part time ran. -/
theorem bothStartNotices_elapse (k : Nat) (s : State) (ds : Vector Compressor 2) :
    bothStartNotices (elapse k s).seq.comps ds = bothStartNotices s.seq.comps ds := by
  have same (i : CompId) (d : Compressor) :
      startNotices i (elapse k s).seq.comps[i] d = startNotices i s.seq.comps[i] d := by
    rw [elapse_comp]; exact startNotices_congr rfl rfl i d
  rw [bothStartNotices, bothStartNotices, same, same]

/-- R91, R98, R100: the accepted change of FAN_PROOF to active, from the state in which part time begins to run. -/
theorem fanProofActive_outcome {s : State} (inactive : s.seq.fanProof.active = false) :
    ∃ t, exec .fanProofActive s = .next t ∧
      let v := atAccept s.seq.fanProof s
      t = { v with
        seq := { v.seq with
          fanProof := ⟨true, 0⟩, proof := .proven, lossTimer := none, failTimer := none
          comps := t.seq.comps, heaters := t.seq.heaters }
        ports := (postAll (bothStartNotices s.seq.comps t.seq.comps) v).ports
        freeSeq := t.freeSeq, pins := { s.pins with fanProof := true } } ∧
      (∀ i : CompId, StartTested v.pt (startLimit s.alloc s.seq.comps[i])
        (s.seq.interlock.active = false ∧ 2 ≤ s.seq.fanLevel) v.seq.comps[i] t.seq.comps[i]) ∧
      ∀ j : Fin 3, t.seq.heaters[j] = ⟨s.seq.heaters[j].line ||
        (s.seq.heaters[j].grant && decide (s.mode.mode ≠ .service) && !s.seq.interlock.active),
          s.seq.heaters[j].grant⟩ := by
  have run := exec_fanProofActive inactive
  generalize hv : ({ atAccept s.seq.fanProof s with pins := { s.pins with fanProof := true } } : State) = v at run
  have seq : v.seq = (elapse (ticksToAccept s.seq.fanProof s) s).seq := by rw [← hv]; rfl
  have alloc : v.alloc = s.alloc := by rw [← hv]; simp [atAccept]
  have mode : v.mode = s.mode := by rw [← hv]; simp [atAccept]
  have touches := acceptProofActive_touches v
  refine ⟨_, run, ?_, fun i => ?_, fun j => ?_⟩
  · rw [seq, bothStartNotices_elapse, ← seq,
      postAll_ports_congr (s := atAccept s.seq.fanProof s) (by rw [← hv]) (by rw [← hv]) (by rw [← hv])] at touches
    refine touches.trans ?_
    rw [← hv]
  · have tested := acceptProofActive_tested v i
    have limit : startLimit v.alloc v.seq.comps[i] = startLimit s.alloc s.seq.comps[i] := by
      rw [alloc, seq, elapse_comp]; rfl
    have interlock : v.seq.interlock = s.seq.interlock := by rw [seq]; simp
    have fan : v.seq.fanLevel = s.seq.fanLevel := by rw [seq]; simp
    have pt : v.pt = (atAccept s.seq.fanProof s).pt := by rw [← hv]
    rw [limit, interlock, fan, pt, seq] at tested
    exact tested
  · have heater := acceptProofActive_heater v j
    rw [mode, seq] at heater
    simpa using heater

/-- Settles O46: the expiries, then FAN_PROOF active as a test event, then FAN_PROOF inactive. -/
theorem fanProofGuardsThePlant : Obligations.FanProofGuardsThePlant := by
  refine ⟨fun k s timer => ⟨_, exec_proofLossExpiry timer, ?_, fun i => ⟨?_, ?_⟩, fun j => ?_⟩,
    fun k s timer => ⟨fun sound => ?_, fun failed => ?_⟩, fun s inactive => ?_, fun s active => ?_⟩
  · rw [← forcedStops_elapse 3 k]
    exact proofLoss_touches _
  · rw [proofLoss_comps]
    exact running_forceStops 3 _ i
  · rw [proofLoss_comps, forceStops_comp, running_elapse, minOffFloor_elapse]
  · rw [proofLoss_heaters, heatersOff_getElem]
    simp
  · have proof : (elapse k s).seq.proof = s.seq.proof := by simp
    rw [exec_proofFailExpiry timer, proofFail_eq, if_neg (by rw [proof]; exact sound)]
    simp
  · have proof : (elapse k s).seq.proof = s.seq.proof := by simp
    rw [exec_proofFailExpiry timer, proofFail_eq, if_pos (proof.trans failed)]
  · exact fanProofActive_outcome inactive
  · refine ⟨_, exec_fanProofInactive active, rfl, rfl, rfl, ?_, rfl⟩
    simp [acceptProofInactive, atAccept]

end Sys2Proof.Machine
end

section
/-! INTERLOCK (R95, R96, R101, R102, R135). -/

namespace Sys2Proof.Machine

/-! ## SAFETY filled and emptied (R135) -/

/-- R135: the safety scene stands in SAFETY, with every target formed again. -/
theorem fillSafety_light (s : State) :
    (fillSafety s).light.layers = setLayer .safety (some ⟨s.light.safetyScene, s.pt⟩) s.light.layers ∧
      Retargeted (safetyFade (sceneAt s.light s.light.safetyScene)) s.light (fillSafety s).light :=
  ⟨rfl, retarget_retargetedBy (fun _ _ => safetyFade (sceneAt s.light s.light.safetyScene)) s.light
    (setLayer .safety (some ⟨s.light.safetyScene, s.pt⟩) s.light.layers)⟩

theorem emptySafety_of_empty {s : State} (empty : s.light.layers.safety = none) : emptySafety s = s := by
  rw [emptySafety, empty]

theorem emptySafety_of_standing {s : State} {st : Standing} (standing : s.light.layers.safety = some st) :
    emptySafety s = modLight (fun l =>
      retargetFade (safetyFade (sceneAt l st.scene)) { l with layers := setLayer .safety none l.layers }) s := by
  rw [emptySafety, standing]

/-- R135: SAFETY is empty, with every target formed again where a scene stood in it. -/
theorem emptySafety_light (s : State) :
    (emptySafety s).light.layers = setLayer .safety none s.light.layers ∧
      (∀ st, s.light.layers.safety = some st →
        Retargeted (safetyFade (sceneAt s.light st.scene)) s.light (emptySafety s).light) ∧
      (s.light.layers.safety = none → (emptySafety s).light = s.light) := by
  refine ⟨?_, fun st standing => ?_, fun empty => by rw [emptySafety_of_empty empty]⟩
  · cases safety : s.light.layers.safety with
    | none =>
      rw [emptySafety_of_empty safety]
      simp only [setLayer, ← safety]
    | some st => rw [emptySafety_of_standing safety]; rfl
  · rw [emptySafety_of_standing standing]
    exact retarget_retargetedBy (fun _ _ => safetyFade (sceneAt s.light st.scene)) s.light
      (setLayer .safety none s.light.layers)

theorem emptySafety_touches (s : State) : emptySafety s = { s with light := (emptySafety s).light } := by
  unfold emptySafety
  split <;> rfl

/-! ## The onset -/

theorem forcedStops_interlockRaised (cause : Nat) (s : State) :
    forcedStops cause (interlockRaised s).seq = forcedStops cause s.seq := by
  have same (i : CompId) : running (interlockRaised s).seq.comps[i] = running s.seq.comps[i] := by
    rw [interlockRaised_comp]; rfl
  simp only [forcedStops, same]

/-- R102: what is posted at the onset of the interlock, C1 before C2 (log 27). -/
def interlockNotices (s : State) : List (Code × Nat × Int) :=
  (.interlockOn, 0, (runningCount s : Int)) :: forcedStops 2 s.seq

theorem acceptInterlockOn_ports (s : State) : (acceptInterlockOn s).ports = (postAll (interlockNotices s) s).ports := by
  have filled (u : State) : (fillSafety (modSeq linesOff u)).ports = u.ports := rfl
  rw [acceptInterlockOn_eq, filled, (forceStops_events 2 (interlockRaised s)).ports, forcedStops_interlockRaised]
  exact postAll_ports_congr (s := post .interlockOn 0 (runningCount s) s) (t := interlockRaised s) rfl rfl rfl _

/-- R102, R135: the onset of the interlock touches the Sequencer, the lighting and the notices. -/
theorem acceptInterlockOn_touches (s : State) : acceptInterlockOn s =
    { s with
      seq := (acceptInterlockOn s).seq, light := (acceptInterlockOn s).light
      ports := (postAll (interlockNotices s) s).ports } := by
  rw [← acceptInterlockOn_ports]
  have frame := acceptInterlockOn_frame s
  generalize acceptInterlockOn s = t at frame
  cases t
  simpa using frame

theorem acceptInterlockOn_light (s : State) :
    (acceptInterlockOn s).light.layers = setLayer .safety (some ⟨s.light.safetyScene, s.pt⟩) s.light.layers ∧
      Retargeted (safetyFade (sceneAt s.light s.light.safetyScene)) s.light (acceptInterlockOn s).light := by
  have light : (modSeq linesOff (forceStops 2 (interlockRaised s))).light = s.light := by
    rw [forceStops_touches]; rfl
  have pt : (modSeq linesOff (forceStops 2 (interlockRaised s))).pt = s.pt := by
    rw [forceStops_touches]; rfl
  have filled := fillSafety_light (modSeq linesOff (forceStops 2 (interlockRaised s)))
  rw [← acceptInterlockOn_eq, light, pt] at filled
  exact filled

/-! ## The end -/

/-- The state at the end of the interlock before SAFETY is emptied: INTERLOCK_OFF posted, the valve following Dh. -/
def interlockEnded (s : State) : State :=
  post .interlockOff 0 (interlockSeconds s)
    (modSeq (fun q => { q with interlock := ⟨false, 0⟩, interlockTicks := 0, valve := s.climate.dh }) s)

theorem interlockEnded_eq (s : State) : interlockEnded s =
    { s with
      seq := { s.seq with interlock := ⟨false, 0⟩, interlockTicks := 0, valve := s.climate.dh }
      ports := (post .interlockOff 0 (min (s.seq.interlockTicks / 100) 32767 : Nat) s).ports } := by
  rw [interlockEnded, interlockSeconds]
  rfl

theorem acceptInterlockOff_eq (s : State) : acceptInterlockOff s = emptySafety (interlockEnded s) := rfl

theorem interlockEnded_light (s : State) : (interlockEnded s).light = s.light := rfl

/-- R101, R102, R135: the end of the interlock touches the Sequencer, the lighting and the notices. -/
theorem acceptInterlockOff_touches (s : State) : acceptInterlockOff s =
    { s with
      seq := { s.seq with interlock := ⟨false, 0⟩, interlockTicks := 0, valve := s.climate.dh }
      light := (acceptInterlockOff s).light
      ports := (post .interlockOff 0 (min (s.seq.interlockTicks / 100) 32767 : Nat) s).ports } := by
  have touches := emptySafety_touches (interlockEnded s)
  rw [← acceptInterlockOff_eq] at touches
  generalize (acceptInterlockOff s).light = l at touches ⊢
  rw [touches, interlockEnded_eq]

/-! ## The rows -/

theorem exec_interlockOn {s : State} (inactive : s.seq.interlock.active = false) : exec .interlockOn s =
    .next (acceptInterlockOn { atAccept s.seq.interlock s with pins := { s.pins with interlock := true } }) := by
  have pins : (atAccept s.seq.interlock s).pins = s.pins := by simp [atAccept]
  change Host.Outcome.next (interlockOnStep s) = _
  rw [interlockOnStep, if_neg (by rw [inactive]; decide), ← pins]

theorem exec_interlockOff {s : State} (active : s.seq.interlock.active = true) : exec .interlockOff s =
    .next (acceptInterlockOff { atAccept s.seq.interlock s with pins := { s.pins with interlock := false } }) := by
  have pins : (atAccept s.seq.interlock s).pins = s.pins := by simp [atAccept]
  change Host.Outcome.next (interlockOffStep s) = _
  rw [interlockOffStep, if_pos active, ← pins]

/-- Settles O47: the onset as forced stops with every line off and SAFETY filled; the end with SAFETY emptied. -/
theorem interlockStopsThePlant : Obligations.InterlockStopsThePlant := by
  refine ⟨fun s inactive => ?_, fun s active => ?_⟩
  · have run := exec_interlockOn inactive
    generalize hv : ({ atAccept s.seq.interlock s with pins := { s.pins with interlock := true } } : State) = v at run
    have light : v.light = s.light := by rw [← hv]; simp [atAccept]
    have seq : v.seq = (elapse (ticksToAccept s.seq.interlock s) s).seq := by rw [← hv]; rfl
    have floor : minOffFloor v = minOffFloor s := by rw [← hv]; simp [atAccept, minOffFloor]
    obtain ⟨layers, formed⟩ := acceptInterlockOn_light v
    rw [light] at layers formed
    refine ⟨_, run, (plantHeld_iff _).2 fun _ => plantOff_acceptInterlockOn v, fun i => ?_, ?_, formed, ?_⟩
    · have comp := acceptInterlockOn_comp v i
      rw [floor, seq, running_elapse] at comp
      exact comp
    · rw [layers]; simp
    · have notices : interlockNotices v = (.interlockOn, 0, (runningCount s : Int)) :: forcedStops 2 s.seq := by
        rw [interlockNotices, runningCount, seq, forcedStops_elapse]
        exact congrArg (· :: _) (by rw [← elapse_runningCount (ticksToAccept s.seq.interlock s) s]; rfl)
      have touches := acceptInterlockOn_touches v
      rw [notices, acceptInterlockOn_seq, postAll_ports_congr (s := atAccept s.seq.interlock s) (by rw [← hv])
        (by rw [← hv]) (by rw [← hv])] at touches
      refine touches.trans ?_
      rw [← hv]
  · have run := exec_interlockOff active
    generalize hv : ({ atAccept s.seq.interlock s with pins := { s.pins with interlock := false } } : State) = v at run
    have light : v.light = s.light := by rw [← hv]; simp [atAccept]
    have dh : v.climate.dh = s.climate.dh := by rw [← hv]; simp [atAccept]
    obtain ⟨layers, formed, kept⟩ := emptySafety_light (interlockEnded v)
    rw [interlockEnded_light, light, ← acceptInterlockOff_eq] at layers formed kept
    have touches := acceptInterlockOff_touches v
    rw [dh, post_ports_congr (s := atAccept s.seq.interlock s) (by rw [← hv]) (by rw [← hv]) (by rw [← hv])]
      at touches
    refine ⟨_, run, layers, formed, kept, touches.trans ?_⟩
    rw [← hv]

end Sys2Proof.Machine
end

section
/-! The evaluation of report and switch (R105, R110, R111, R116 to R118), and COVER_LIMIT (R86). -/

namespace Sys2Proof.Machine

/-! ## The cover record after a new derived state -/

section
variable {alert : Bool} {d : Derived} {c : Cover}

theorem coverAfter_of_stay (stays : programmeAfter alert c.prog d = c.prog) (new : c.derived = d) :
    coverAfter alert d c = c := by
  subst new
  exact if_pos stays

theorem coverAfter_of_move {p : Prog} (moves : programmeAfter alert c.prog d = p) (leaves : p ≠ c.prog)
    (new : c.derived = d) : coverAfter alert d c =
      { cleared p c with cycles := if c.prog = .idle ∧ d = .closed then 0 else c.cycles } := by
  subst new
  rw [coverAfter, moves]
  exact if_neg leaves

theorem programmeAfter_of_phase {p : Prog} (phase : p ≠ .idle ∧ p ≠ .disagree) : programmeAfter alert p d =
    match d with | .closed => p | .disagree => .disagree | .coverOpen | .moving => .idle := by
  obtain ⟨idle, disagree⟩ := phase
  cases p
  case idle | disagree => contradiction
  all_goals cases d <;> rfl

/-- R116, R118: without an outstanding permission or covers found open, nothing is posted. -/
theorem programmeNotices_nil (kept : ¬(c.prog = .released ∧ d = .disagree))
    (sanctioned : ¬(c.prog ≠ .idle ∧ c.prog ≠ .released ∧ c.prog ≠ .disagree ∧ (d = .coverOpen ∨ d = .moving))) :
    programmeNotices d c = [] := by
  rw [programmeNotices, if_neg kept, if_neg sanctioned]

end

/-! ## The programme at a change of the derived state -/

section
variable {d : Derived} {s : State}

theorem derivedEvent_of_phase (phase : s.cover.prog ≠ .idle ∧ s.cover.prog ≠ .disagree) : derivedEvent d s =
    match d with
    | .closed => s
    | .disagree => programmeDisagree s
    | .coverOpen | .moving => programmeOpening d s := by
  obtain ⟨idle, disagree⟩ := phase
  unfold derivedEvent
  split
  · contradiction
  · contradiction
  · cases d <;> rfl

theorem derivedEvent_idle (idle : s.cover.prog = .idle) : derivedEvent d s =
    match d with
    | .closed => enterNight .settle (modCover (fun c => { c with cycles := 0 }) s)
    | .disagree => programmeDisagree s
    | .coverOpen | .moving => s := by
  cases d <;> simp only [derivedEvent, idle]

theorem derivedEvent_in_disagree (disagree : s.cover.prog = .disagree) : derivedEvent d s =
    match d with
    | .closed => enterNight .purge s
    | .coverOpen => modCover (enterPhase .idle) s
    | .moving | .disagree => s := by
  cases d <;> simp only [derivedEvent, disagree]

/-- R116: DISAGREE is entered, an outstanding permission lapsing. -/
theorem programmeDisagree_eq (s : State) : programmeDisagree s =
    { postAll (programmeNotices .disagree s.cover) s with cover := cleared .disagree s.cover } := by
  by_cases released : s.cover.prog = .released
  · have lapses : programmeNotices .disagree s.cover =
        [(.coverReleaseLapsed, 2, ((s.cover.cfg.permissionHold - s.cover.elapsed : Nat) : Int))] :=
      if_pos ⟨released, rfl⟩
    rw [lapses, programmeDisagree, if_pos released]
    rfl
  · rw [programmeNotices_nil (fun lapses => released lapses.1) (by simp), programmeDisagree, if_neg released]
    rfl

/-- R118: covers found open or moving end the phase, unsanctioned where no permission is outstanding. -/
theorem programmeOpening_eq (opens : d = .coverOpen ∨ d = .moving)
    (phase : s.cover.prog ≠ .idle ∧ s.cover.prog ≠ .disagree) : programmeOpening d s =
      { postAll (programmeNotices d s.cover) s with cover := cleared .idle s.cover } := by
  obtain ⟨idle, disagree⟩ := phase
  by_cases released : s.cover.prog = .released
  · have closed : d ≠ .disagree := by rintro rfl; simp at opens
    rw [programmeNotices_nil (fun lapses => closed lapses.2) (fun found => found.2.1 released), programmeOpening]
    simp only [released]
    rfl
  · have found : programmeNotices d s.cover =
        [(.coverUnsanctioned, progCode s.cover.prog, (derivedCode d : Int))] :=
      (if_neg fun lapses => released lapses.1).trans (if_pos ⟨idle, released, disagree, opens⟩)
    rw [found, programmeOpening]
    split
    · contradiction
    · contradiction
    · rfl

/-- R110, R116: the event of a new derived state in IDLE. -/
theorem derivedEvent_of_idle (idle : s.cover.prog = .idle) (new : s.cover.derived = d) : derivedEvent d s =
    { postAll (programmeNotices d s.cover) s with cover := coverAfter (alertTripped s) d s.cover } := by
  have quiet : ¬(s.cover.prog ≠ .idle ∧ s.cover.prog ≠ .released ∧ s.cover.prog ≠ .disagree ∧
      (d = .coverOpen ∨ d = .moving)) := fun found => found.1 idle
  have kept : ¬(s.cover.prog = .released ∧ d = .disagree) := by simp [idle]
  rw [derivedEvent_idle idle]
  cases d with
  | closed =>
    have leaves : (if alertTripped s = true then Prog.alert else .settle) ≠ s.cover.prog := by
      rw [idle]; split <;> decide
    have reset : (if s.cover.prog = .idle ∧ Derived.closed = .closed then 0 else s.cover.cycles) = 0 :=
      if_pos ⟨idle, rfl⟩
    rw [coverAfter_of_move (by rw [idle]; rfl) leaves new, reset, programmeNotices_nil kept quiet]
    rfl
  | disagree =>
    rw [coverAfter_of_move (p := .disagree) (by rw [idle]; rfl) (by rw [idle]; decide) new, if_neg (by simp)]
    exact programmeDisagree_eq s
  | coverOpen | moving =>
    rw [coverAfter_of_stay (by rw [idle]; rfl) new, programmeNotices_nil kept quiet]
    rfl

/-- R117: the event of a new derived state in DISAGREE. -/
theorem derivedEvent_of_disagree (disagree : s.cover.prog = .disagree) (new : s.cover.derived = d) :
    derivedEvent d s =
      { postAll (programmeNotices d s.cover) s with cover := coverAfter (alertTripped s) d s.cover } := by
  have quiet : ¬(s.cover.prog ≠ .idle ∧ s.cover.prog ≠ .released ∧ s.cover.prog ≠ .disagree ∧
      (d = .coverOpen ∨ d = .moving)) := fun found => found.2.2.1 disagree
  have kept : ¬(s.cover.prog = .released ∧ d = .disagree) := by simp [disagree]
  rw [derivedEvent_in_disagree disagree, programmeNotices_nil kept quiet]
  cases d with
  | closed =>
    have leaves : (if alertTripped s = true then Prog.alert else .purge) ≠ s.cover.prog := by
      rw [disagree]; split <;> decide
    have kept : (if s.cover.prog = .idle ∧ Derived.closed = .closed then 0 else s.cover.cycles) = s.cover.cycles :=
      if_neg (by simp [disagree])
    rw [coverAfter_of_move (by rw [disagree]; rfl) leaves new, kept]
    rfl
  | coverOpen =>
    rw [coverAfter_of_move (p := .idle) (by rw [disagree]; rfl) (by rw [disagree]; decide) new, if_neg (by simp)]
    rfl
  | moving | disagree =>
    rw [coverAfter_of_stay (by rw [disagree]; rfl) new]
    rfl

/-- R110, R111, R116 to R118: the event of a new derived state at the programme, as the statements write it. -/
theorem derivedEvent_eq (new : s.cover.derived = d) : derivedEvent d s =
    { postAll (programmeNotices d s.cover) s with cover := coverAfter (alertTripped s) d s.cover } := by
  by_cases idle : s.cover.prog = .idle
  · exact derivedEvent_of_idle idle new
  by_cases disagree : s.cover.prog = .disagree
  · exact derivedEvent_of_disagree disagree new
  have after := programmeAfter_of_phase (alert := alertTripped s) (d := d) ⟨idle, disagree⟩
  rw [derivedEvent_of_phase ⟨idle, disagree⟩]
  cases d with
  | closed =>
    rw [coverAfter_of_stay after new, programmeNotices_nil (by simp) (by simp)]
    rfl
  | disagree =>
    rw [coverAfter_of_move after (Ne.symm disagree) new, if_neg (by simp)]
    exact programmeDisagree_eq s
  | coverOpen | moving =>
    rw [coverAfter_of_move after (Ne.symm idle) new, if_neg (by simp)]
    exact programmeOpening_eq (by simp) ⟨idle, disagree⟩

end

/-! ## The evaluation (R105) -/

/-- Posting does not read the cover record. -/
theorem postAll_withCover (ns : List (Code × Nat × Int)) (x y : Cover) (s : State) :
    ({ postAll ns { s with cover := y } with cover := x } : State) = { postAll ns s with cover := x } := by
  induction ns generalizing s with
  | nil => rfl
  | cons n ns ih => exact ih (post n.1 n.2.1 n.2.2 s)

/-- R105: the evaluation of report and switch, as the statements write it. -/
theorem evaluateCover_eq (s : State) : evaluateCover s = coverEvaluated s := by
  unfold evaluateCover coverEvaluated
  dsimp only
  cases pairOutcome s.cover.report s.seq.coverLimit.active with
  | none => rfl
  | some row =>
    obtain ⟨d, only⟩ := row
    by_cases same : d = s.cover.derived
    · exact (if_pos same).trans (if_pos same).symm
    · refine (if_neg same).trans (Eq.trans ?_ (if_neg same).symm)
      rw [derivedEvent_eq (by rfl)]
      exact postAll_withCover _ _ { s.cover with switchOnly := only, derived := d }
        (post .coverState (derivedCode d) (derivedCode s.cover.derived) s)

theorem coverEvaluated_of_held {s : State} (held : pairOutcome s.cover.report s.seq.coverLimit.active = none) :
    (coverEvaluated s).cover = { s.cover with mismatch := 0 } := by
  simp only [coverEvaluated, held]

theorem coverEvaluated_of_row {s : State} {d : Derived} {only : Bool}
    (row : pairOutcome s.cover.report s.seq.coverLimit.active = some (d, only)) : (coverEvaluated s).cover =
      if d = s.cover.derived then { s.cover with switchOnly := only }
      else coverAfter (alertTripped s) d { s.cover with switchOnly := only } := by
  simp only [coverEvaluated, row]
  split <;> rfl

/-- R105, R110: what a new derived state leaves of the cover record, and where the programme then stands. -/
theorem coverAfter_keeps (alert : Bool) (d : Derived) (c : Cover) :
    (coverAfter alert d c).derived = d ∧ (coverAfter alert d c).switchOnly = c.switchOnly ∧
      (coverAfter alert d c).report = c.report ∧ (coverAfter alert d c).prog = programmeAfter alert c.prog d := by
  unfold coverAfter
  dsimp only
  split
  · rename_i stays; exact ⟨rfl, rfl, rfl, stays.symm⟩
  · exact ⟨rfl, rfl, rfl, rfl⟩

theorem evaluateCover_touches (s : State) : evaluateCover s =
    { s with cover := (evaluateCover s).cover, ports := (evaluateCover s).ports } := by
  have frame := evaluateCover_frame s
  generalize evaluateCover s = t at frame
  cases t
  simpa using frame

/-! ## COVER_LIMIT (R86) -/

/-- The state of an accepted change of COVER_LIMIT before the evaluation. -/
def coverLimitTaken (s : State) : State :=
  { atAccept s.seq.coverLimit s with
    seq := { (atAccept s.seq.coverLimit s).seq with coverLimit := ⟨!s.seq.coverLimit.active, 0⟩ }
    pins := { s.pins with coverLimit := !s.seq.coverLimit.active } }

theorem exec_coverLimitChange (s : State) :
    exec .coverLimitChange s = .next (evaluateCover (coverLimitTaken s)) := by
  have pins : (atAccept s.seq.coverLimit s).pins = s.pins := by simp [atAccept]
  rw [coverLimitTaken, ← pins]
  rfl

/-- Settles O49: the evaluation of report and switch at the moment of the accepted change. -/
theorem coverLimitChangeFormsTheDerivedState : Obligations.CoverLimitChangeFormsTheDerivedState := by
  intro s
  have cover : (coverLimitTaken s).cover = s.cover := by simp [coverLimitTaken, atAccept]
  have alert : alertTripped (coverLimitTaken s) = alertTripped s := by simp [alertTripped, coverLimitTaken, atAccept]
  have touches := evaluateCover_touches (coverLimitTaken s)
  have seq : (evaluateCover (coverLimitTaken s)).seq = (coverLimitTaken s).seq := by rw [touches]
  have row {d only} := coverEvaluated_of_row (s := coverLimitTaken s) (d := d) (only := only)
  have held := coverEvaluated_of_held (s := coverLimitTaken s)
  rw [← evaluateCover_eq, cover] at held
  simp only [← evaluateCover_eq, cover, alert] at row
  refine ⟨_, exec_coverLimitChange s, by rw [seq]; rfl, ?_, fun d only given => ?_, held, touches, evaluateCover_eq _⟩
  · cases outcome : pairOutcome s.cover.report (!s.seq.coverLimit.active) with
    | none => rw [held outcome]
    | some r =>
      rw [row (d := r.1) (only := r.2) outcome]
      split
      · rfl
      · exact (coverAfter_keeps ..).2.2.1
  · rw [row given]
    split
    · rename_i same; exact ⟨same.symm, rfl, rfl⟩
    · obtain ⟨derived, switchOnly, -, prog⟩ := coverAfter_keeps (alertTripped s) d { s.cover with switchOnly := only }
      exact ⟨derived, switchOnly, prog⟩

end Sys2Proof.Machine
end

section
/-! The sampling of the discrete inputs (R85, R86). -/

namespace Sys2Proof.Machine

/-! ## One sample of one input -/

section
variable {d : Debounced} {level : Bool}

theorem fifthSample_iff : fifthSample d level = true ↔ level ≠ d.active ∧ 4 ≤ d.count := by
  simp [fifthSample]

theorem countSample_of_agree (agree : level = d.active) : countSample d level = ⟨level, 0⟩ := by
  rw [countSample, if_pos agree, agree]

theorem countSample_of_differ (differ : level ≠ d.active) : countSample d level = ⟨d.active, d.count + 1⟩ := by
  rw [countSample, if_neg differ]

/-- R85: the debounced input after a sample, in the words of the statement. -/
theorem debounced_eq : (if fifthSample d level = true then ⟨level, 0⟩ else countSample d level) =
    if level = d.active then ⟨level, 0⟩ else if 4 ≤ d.count then ⟨level, 0⟩ else ⟨!level, d.count + 1⟩ := by
  by_cases agree : level = d.active
  · rw [if_pos agree, if_neg (fun fifth => (fifthSample_iff.1 fifth).1 agree), countSample_of_agree agree]
  · have other : d.active = !level := Bool.eq_not.2 (Ne.symm agree)
    rw [if_neg agree, countSample_of_differ agree, other]
    exact if_congr (fifthSample_iff.trans (and_iff_right agree)) rfl rfl

/-- R85: a sample counts or is accepted, where the fifth differing one has the effect of its row. -/
theorem sampled_of_fifth {row : Instr} {put : Debounced → Sequencer → Sequencer} {u accepted : State}
    (fifth : level ≠ d.active → 4 ≤ d.count →
      exec row { u with timers := { u.timers with sample := 0 } } = .next accepted) :
    Sampled d level row put u
      (if fifthSample d level = true then accepted else modSeq (put (countSample d level)) u) := by
  refine ⟨fun agree => ?_, fun differ few => ?_, fun differ full => ?_⟩
  · rw [if_neg (fun fifth => (fifthSample_iff.1 fifth).1 agree), countSample_of_agree agree]
    rfl
  · rw [if_neg (fun fifth => absurd (fifthSample_iff.1 fifth).2 (Nat.not_le.2 few)), countSample_of_differ differ]
    rfl
  · rw [if_pos (fifthSample_iff.2 ⟨differ, full⟩)]
    exact fifth differ full

/-- At the fifth differing sample itself no time is left to pass before its acceptance. -/
theorem atAccept_fifth {u : State} (full : 4 ≤ d.count) (period : u.timers.sample = 1) :
    atAccept d { u with timers := { u.timers with sample := 0 } } = u := by
  have now : ticksToAccept d { u with timers := { u.timers with sample := 0 } } = 0 := by
    simp only [ticksToAccept, Nat.sub_eq_zero_of_le full, Nat.zero_mul]
  rw [atAccept, now, elapse_zero]
  obtain ⟨pt, tick, timers⟩ := u
  obtain ⟨sample⟩ := timers
  subst period
  rfl

end

/-! ## COVER_LIMIT -/

section
variable {level : Bool} {u : State}

theorem sampleCover_eq (level : Bool) (u : State) : sampleCover level u =
    if fifthSample u.seq.coverLimit level = true then acceptCoverLimit level u
    else modSeq (fun q => { q with coverLimit := countSample u.seq.coverLimit level }) u := rfl

theorem sampleCover_sampled (period : u.timers.sample = 1) (pin : u.pins.coverLimit = level) :
    Sampled u.seq.coverLimit level .coverLimitChange (fun x q => { q with coverLimit := x }) u
      (sampleCover level u) := by
  refine sampled_of_fifth fun differ full => ?_
  have other : level = !u.seq.coverLimit.active := Bool.eq_not.2 differ
  have now := atAccept_fifth full period
  rw [exec_coverLimitChange, coverLimitTaken, now, ← other, ← pin]
  rfl

theorem sampleCover_seq (level : Bool) (u : State) : (sampleCover level u).seq =
    { u.seq with
      coverLimit := if fifthSample u.seq.coverLimit level = true then ⟨level, 0⟩
        else countSample u.seq.coverLimit level } := by
  rw [sampleCover_eq]
  split
  · simp [acceptCoverLimit]
  · rfl

end

/-! ## INTERLOCK -/

section
variable {level : Bool} {u : State}

theorem sampleInterlock_eq (level : Bool) (u : State) : sampleInterlock level u =
    if fifthSample u.seq.interlock level = true then
      if level = true then acceptInterlockOn u else acceptInterlockOff u
    else modSeq (fun q => { q with interlock := countSample u.seq.interlock level }) u := rfl

theorem sampleInterlock_sampled (period : u.timers.sample = 1) (pin : u.pins.interlock = level) :
    Sampled u.seq.interlock level (if level = true then .interlockOn else .interlockOff)
      (fun x q => { q with interlock := x }) u (sampleInterlock level u) := by
  refine sampled_of_fifth fun differ full => ?_
  have other : u.seq.interlock.active = !level := Bool.eq_not.2 (Ne.symm differ)
  have now := atAccept_fifth full period
  cases level with
  | true =>
    rw [if_pos rfl, if_pos rfl]
    refine (exec_interlockOn (s := { u with timers := { u.timers with sample := 0 } }) other).trans ?_
    rw [now, ← pin]
  | false =>
    rw [if_neg (by decide), if_neg (by decide)]
    refine (exec_interlockOff (s := { u with timers := { u.timers with sample := 0 } }) other).trans ?_
    rw [now, ← pin]

theorem sampleInterlock_inputs (level : Bool) (u : State) :
    (sampleInterlock level u).seq.interlock =
        (if fifthSample u.seq.interlock level = true then ⟨level, 0⟩ else countSample u.seq.interlock level) ∧
      (sampleInterlock level u).seq.coverLimit = u.seq.coverLimit ∧
      (sampleInterlock level u).seq.fanProof = u.seq.fanProof := by
  rw [sampleInterlock_eq]
  split
  · cases level with
    | true => rw [if_pos rfl, acceptInterlockOn_seq]; exact ⟨rfl, rfl, rfl⟩
    | false => rw [if_neg (by decide), acceptInterlockOff_touches]; exact ⟨rfl, rfl, rfl⟩
  · exact ⟨rfl, rfl, rfl⟩

end

/-! ## FAN_PROOF -/

section
variable {level : Bool} {u : State}

theorem sampleFanProof_eq (level : Bool) (u : State) : sampleFanProof level u =
    if fifthSample u.seq.fanProof level = true then
      if level = true then acceptProofActive u else acceptProofInactive u
    else modSeq (fun q => { q with fanProof := countSample u.seq.fanProof level }) u := rfl

theorem sampleFanProof_sampled (period : u.timers.sample = 1) (pin : u.pins.fanProof = level) :
    Sampled u.seq.fanProof level (if level = true then .fanProofActive else .fanProofInactive)
      (fun x q => { q with fanProof := x }) u (sampleFanProof level u) := by
  refine sampled_of_fifth fun differ full => ?_
  have other : u.seq.fanProof.active = !level := Bool.eq_not.2 (Ne.symm differ)
  have now := atAccept_fifth full period
  cases level with
  | true =>
    rw [if_pos rfl, if_pos rfl]
    refine (exec_fanProofActive (s := { u with timers := { u.timers with sample := 0 } }) other).trans ?_
    rw [now, ← pin]
  | false =>
    rw [if_neg (by decide), if_neg (by decide)]
    refine (exec_fanProofInactive (s := { u with timers := { u.timers with sample := 0 } }) other).trans ?_
    rw [now, ← pin]

theorem sampleFanProof_inputs (level : Bool) (u : State) :
    (sampleFanProof level u).seq.fanProof =
        (if fifthSample u.seq.fanProof level = true then ⟨level, 0⟩ else countSample u.seq.fanProof level) ∧
      (sampleFanProof level u).seq.coverLimit = u.seq.coverLimit ∧
      (sampleFanProof level u).seq.interlock = u.seq.interlock := by
  rw [sampleFanProof_eq]
  split
  · cases level with
    | true => rw [if_pos rfl, acceptProofActive_touches]; exact ⟨rfl, rfl, rfl⟩
    | false => rw [if_neg (by decide)]; exact ⟨rfl, rfl, rfl⟩
  · exact ⟨rfl, rfl, rfl⟩

end

/-! ## The sample of the three inputs (log 7) -/

/-- The state of a sample when it is due, with the levels its pins bring. -/
def atSample (c i f : Bool) (s : State) : State :=
  { elapse s.timers.sample s with
    timers := { (elapse s.timers.sample s).timers with sample := 1 }
    pins := { s.pins with coverLimit := c, interlock := i, fanProof := f } }

theorem exec_inputSample (c i f : Bool) (s : State) :
    exec (.inputSample c i f) s = .next (sampleInputs c i f (atSample c i f s)) := by
  have pins : (elapse s.timers.sample s).pins = s.pins := by simp
  rw [atSample, ← pins]
  rfl

theorem sampleInputs_touches (c i f : Bool) (s : State) : sampleInputs c i f s =
    { s with
      seq := (sampleInputs c i f s).seq, cover := (sampleInputs c i f s).cover
      light := (sampleInputs c i f s).light, ports := (sampleInputs c i f s).ports
      freeSeq := (sampleInputs c i f s).freeSeq } := by
  have frame := sampleInputs_frame c i f s
  generalize sampleInputs c i f s = t at frame
  cases t
  simpa using frame

theorem sampleInputs_eq (c i f : Bool) (s : State) : sampleInputs c i f s =
    sampleFanProof f (sampleInterlock i (sampleCover c s)) := rfl

/-- R85: each input is debounced on its own, whatever the other two do. -/
theorem sampleInputs_inputs (c i f : Bool) (s : State) :
    (sampleInputs c i f s).seq.coverLimit =
        (if fifthSample s.seq.coverLimit c = true then ⟨c, 0⟩ else countSample s.seq.coverLimit c) ∧
      (sampleInputs c i f s).seq.interlock =
        (if fifthSample s.seq.interlock i = true then ⟨i, 0⟩ else countSample s.seq.interlock i) ∧
      (sampleInputs c i f s).seq.fanProof =
        (if fifthSample s.seq.fanProof f = true then ⟨f, 0⟩ else countSample s.seq.fanProof f) := by
  obtain ⟨fanProof, cover, interlock⟩ := sampleFanProof_inputs f (sampleInterlock i (sampleCover c s))
  obtain ⟨interlockOwn, coverKept, fanProofKept⟩ := sampleInterlock_inputs i (sampleCover c s)
  rw [sampleCover_seq] at interlockOwn coverKept fanProofKept
  rw [sampleInputs_eq, cover, coverKept, interlock, interlockOwn, fanProof, fanProofKept]
  exact ⟨rfl, rfl, rfl⟩

/-- R85, R86: the three samples in their order (log 7), the accepted ones as their rows (log 16). -/
theorem sampleInputs_sampled {c i f : Bool} {s : State} (period : s.timers.sample = 1) (cover : s.pins.coverLimit = c)
    (interlock : s.pins.interlock = i) (fanProof : s.pins.fanProof = f) : ∃ a b : State,
      Sampled s.seq.coverLimit c .coverLimitChange (fun x q => { q with coverLimit := x }) s a ∧
      Sampled s.seq.interlock i (if i = true then .interlockOn else .interlockOff)
        (fun x q => { q with interlock := x }) a b ∧
      Sampled s.seq.fanProof f (if f = true then .fanProofActive else .fanProofInactive)
        (fun x q => { q with fanProof := x }) b (sampleInputs c i f s) := by
  have second := sampleInterlock_sampled (level := i) (u := sampleCover c s) (by simp [period]) (by simp [interlock])
  have third := sampleFanProof_sampled (level := f) (u := sampleInterlock i (sampleCover c s)) (by simp [period])
    (by simp [fanProof])
  rw [(sampleInterlock_inputs i (sampleCover c s)).2.2] at third
  rw [sampleCover_seq] at second third
  exact ⟨sampleCover c s, sampleInterlock i (sampleCover c s), sampleCover_sampled period cover, second, third⟩

/-- Settles O48: the three samples one after the other, each of an input that the others leave alone. -/
theorem inputsAreDebounced : Obligations.InputsAreDebounced := by
  intro c i f s
  obtain ⟨cover, interlock, fanProof⟩ : (atSample c i f s).seq.coverLimit = s.seq.coverLimit ∧
      (atSample c i f s).seq.interlock = s.seq.interlock ∧ (atSample c i f s).seq.fanProof = s.seq.fanProof := by
    simp [atSample]
  have inputs := sampleInputs_inputs c i f (atSample c i f s)
  have samples := sampleInputs_sampled (c := c) (i := i) (f := f) (s := atSample c i f s) rfl rfl rfl rfl
  simp only [cover, interlock, fanProof, debounced_eq] at inputs samples
  obtain ⟨coverAfter, interlockAfter, fanProofAfter⟩ := inputs
  exact ⟨_, exec_inputSample c i f s, coverAfter, interlockAfter, fanProofAfter, sampleInputs_touches .., samples⟩

end Sys2Proof.Machine
end

section
/-! The requests of POOL on the covers: COVER_CFG (R108), REPORT_COVER (R104 to R106, R110, R116 to R118) and
ASK_COVER_OPEN (R119, R120). -/

namespace Sys2Proof.Machine

/-! ## The COVER_CFG write (R108) -/

theorem exec_writeItemCoverCfg {p : PortId} {n : Byte} {fs : List Half} {s t : State} {r : Result}
    (h : Served s p (.writeItemCoverCfg p n fs)) (own : ownWriteCoverCfg n fs s = (t, answer r)) :
    exec (.writeItemCoverCfg p n fs) s = .next (reply p 3 r t) :=
  congrArg _ (requestStep_of_answer h own)

section
variable (a b c d e f g h : Half)

/-- R108: the configuration that eight fields give, each clamped into its range. -/
def clampedCoverCfg : CoverCfg :=
  { settleTime := max 60 (min a.toNat 3600), purgeHigh := max 60 (min b.toNat 3600),
    restLow := max 60 (min c.toNat 14400), cycleLimit := min d.toNat 255, preopenTime := max 60 (min e.toNat 7200),
    alertHold := max 60 (min f.toNat 3600), permissionHold := max 60 (min g.toNat 3600),
    travelLimit := max 60 (min h.toNat 1800) }

/-- R108: every field lies in its range. -/
abbrev coverCfgInRange : Prop :=
  60 ≤ a.toNat ∧ a.toNat ≤ 3600 ∧ 60 ≤ b.toNat ∧ b.toNat ≤ 3600 ∧ 60 ≤ c.toNat ∧ c.toNat ≤ 14400 ∧
    d.toNat ≤ 255 ∧ 60 ≤ e.toNat ∧ e.toNat ≤ 7200 ∧ 60 ≤ f.toNat ∧ f.toNat ≤ 3600 ∧ 60 ≤ g.toNat ∧
    g.toNat ≤ 3600 ∧ 60 ≤ h.toNat ∧ h.toNat ≤ 1800

/-- A field that the clamp leaves as written is one in its range. -/
theorem coverCfgOf_eight : ∃ clamped,
    coverCfgOf ([a, b, c, d, e, f, g, h].map BitVec.toNat) = some (clampedCoverCfg a b c d e f g h, clamped) ∧
      (clamped = true ↔ ¬coverCfgInRange a b c d e f g h) := by
  simp only [List.map_cons, List.map_nil, coverCfgOf]
  simp (disch := omega) only [clampNat_eq, Nat.zero_max]
  refine ⟨_, rfl, ?_⟩
  simp only [bne_iff_ne, ne_eq, List.cons.injEq, and_true]
  omega

end

/-- Settles O22: two refusals, then the clamped configuration. -/
theorem coverConfigurationWrite : Obligations.CoverConfigurationWrite := by
  intro p n a b c d e f g h s served cfg
  by_cases index : n ≠ 0
  · rw [if_pos index]
    exact exec_writeItemCoverCfg served (if_pos index)
  rw [if_neg index]
  by_cases busy : s.store.busy = true
  · rw [if_pos busy]
    exact exec_writeItemCoverCfg served ((if_neg index).trans (if_pos busy))
  rw [if_neg busy]
  obtain ⟨clamped, formed, outside⟩ := coverCfgOf_eight a b c d e f g h
  refine exec_writeItemCoverCfg served ?_
  rw [ownWriteCoverCfg, if_neg index, if_neg busy, formed, ← okOrClamped_eq clamped _ outside]
  rfl

/-! ## REPORT_COVER (R104) -/

theorem exec_reportCover {p : PortId} {b : Byte} {s t : State} {r : Result} (h : Served s p (.reportCover p b))
    (own : ownReportCover b s = (t, answer r)) : exec (.reportCover p b) s = .next (reply p 0x21 r t) :=
  congrArg _ (requestStep_of_answer h own)

/-- R104: the change of the report, as the statements write it. -/
theorem changeReport_eq (r : Report) (s : State) : changeReport r s = reported r s := by
  unfold changeReport reported
  split
  · rfl
  · exact evaluateCover_eq _

theorem changeReport_touches (r : Report) (s : State) : changeReport r s =
    { s with cover := (changeReport r s).cover, ports := (changeReport r s).ports } := by
  have frame := changeReport_frame r s
  generalize changeReport r s = t at frame
  cases t
  simpa using frame

/-- The evaluation keeps the configuration and the travel count. -/
theorem coverAfter_cfg_travel (alert : Bool) (d : Derived) (c : Cover) :
    (coverAfter alert d c).cfg = c.cfg ∧ (coverAfter alert d c).travel = c.travel := by
  unfold coverAfter
  dsimp only
  split <;> exact ⟨rfl, rfl⟩

theorem coverEvaluated_keeps (s : State) : (coverEvaluated s).cover.report = s.cover.report ∧
    (coverEvaluated s).cover.cfg = s.cover.cfg ∧ (coverEvaluated s).cover.travel = s.cover.travel := by
  cases row : pairOutcome s.cover.report s.seq.coverLimit.active with
  | none => rw [coverEvaluated_of_held row]; exact ⟨rfl, rfl, rfl⟩
  | some x =>
    obtain ⟨d, only⟩ := x
    rw [coverEvaluated_of_row row]
    split
    · exact ⟨rfl, rfl, rfl⟩
    · obtain ⟨-, -, report, -⟩ := coverAfter_keeps (alertTripped s) d { s.cover with switchOnly := only }
      obtain ⟨cfg, travel⟩ := coverAfter_cfg_travel (alertTripped s) d { s.cover with switchOnly := only }
      exact ⟨report, cfg, travel⟩

/-- R105: a row that is not held gives derived state and SWITCH_ONLY, and the programme follows a new derived state. -/
theorem coverEvaluated_outcome {s : State} {d : Derived} {only : Bool}
    (row : pairOutcome s.cover.report s.seq.coverLimit.active = some (d, only)) :
    (coverEvaluated s).cover.derived = d ∧ (coverEvaluated s).cover.switchOnly = only ∧
      (coverEvaluated s).cover.prog = if d = s.cover.derived then s.cover.prog
        else programmeAfter (alertTripped s) s.cover.prog d := by
  rw [coverEvaluated_of_row row]
  split
  · rename_i same; exact ⟨same.symm, rfl, rfl⟩
  · obtain ⟨derived, switchOnly, -, prog⟩ := coverAfter_keeps (alertTripped s) d { s.cover with switchOnly := only }
    exact ⟨derived, switchOnly, prog⟩

/-- Settles O28: a new report is evaluated in the state that carries it. -/
theorem reportCoverFormsTheDerivedState : Obligations.ReportCoverFormsTheDerivedState := by
  intro p b s served
  refine ⟨fun unknown => exec_reportCover served (by simp only [ownReportCover, unknown]; rfl), fun r known => ?_⟩
  have taken : exec (.reportCover p b) s = .next (reply p 0x21 .ok (changeReport r s)) :=
    exec_reportCover served (by simp only [ownReportCover, known])
  refine ⟨fun same => taken.trans (by rw [changeReport, if_pos same]), fun new => ?_⟩
  let w : State := { s with
    cover := { s.cover with report := r, travel := if r = .moving then 0 else s.cover.travel } }
  have evaluated : changeReport r s = coverEvaluated w := (changeReport_eq r s).trans (if_neg new)
  obtain ⟨report, cfg, travel⟩ := coverEvaluated_keeps w
  refine ⟨_, taken, changeReport_touches r s, ?_⟩
  rw [evaluated]
  refine ⟨report, cfg, travel, fun d only row => coverEvaluated_outcome (s := w) row, fun held => ?_,
    (if_neg new).symm⟩
  have still : r ≠ .moving := by rintro rfl; simp [pairOutcome] at held
  have kept : pairOutcome w.cover.report w.seq.coverLimit.active = none := held
  refine ⟨?_, by simp only [coverEvaluated, kept]; rfl⟩
  rw [coverEvaluated_of_held kept]
  simp only [w, if_neg still]

/-! ## ASK_COVER_OPEN (R119, R120) -/

theorem exec_askCoverOpen {p : PortId} {s : State} (h : Served s p (.askCoverOpen p)) :
    exec (.askCoverOpen p) s = .next (sendReply p 0x22 (ownAskCoverOpen s).2 (ownAskCoverOpen s).1) :=
  congrArg _ (requestStep_of_served h)

section
variable {s : State}

theorem ownAskCoverOpen_of_closed (prog : s.cover.prog = .idle ∨ s.cover.prog = .disagree) :
    ownAskCoverOpen s = (s, answer .notApplicable) := by
  rcases prog with prog | prog <;> simp only [ownAskCoverOpen, prog] <;> rfl

theorem ownAskCoverOpen_of_preopen (prog : s.cover.prog = .preopen) : ownAskCoverOpen s =
    ({ s with cover := { s.cover with origin := some .ask } },
      ⟨.ok, natField (s.cover.cfg.preopenTime - s.cover.preopenAcc)⟩) := by
  have asked : ownAskCoverOpen s = (modCover (fun c => { c with origin := some .ask }) s,
      ⟨.ok, natField (preopenRemaining s.cover)⟩) := by
    simp only [ownAskCoverOpen, prog]; rfl
  exact asked

theorem ownAskCoverOpen_of_released (prog : s.cover.prog = .released) : ownAskCoverOpen s =
    (s, ⟨.ok, natField (s.cover.cfg.permissionHold - s.cover.elapsed)⟩) := by
  simp only [ownAskCoverOpen, prog]; rfl

/-- R120: in a night phase the ask begins a pre-open purge. -/
theorem ownAskCoverOpen_of_night (night : NightPhase s.cover) : ownAskCoverOpen s =
    (enterPreopen .ask s, ⟨.ok, natField (preopenRemaining (enterPreopen .ask s).cover)⟩) := by
  rcases night with prog | prog | prog | prog <;> simp only [ownAskCoverOpen, prog]

end

/-- Settles O29: the owner answers by the state of the programme. -/
theorem askCoverOpenByProgrammeState : Obligations.AskCoverOpenByProgrammeState := by
  refine ⟨fun p role other => ?_, fun p s served => ?_⟩
  · have barred : dispatch p role 0x22 [] =
        permitted (decide (role = .pool)) (noPayload (.askCoverOpen p) []) := rfl
    rw [barred, permitted, if_neg (by simpa using other)]
  have asked := exec_askCoverOpen served
  refine ⟨fun closed => asked.trans ?_, fun preopen => asked.trans ?_, fun released => asked.trans ?_,
    fun night => asked.trans ?_⟩
  · rw [ownAskCoverOpen_of_closed closed]; rfl
  · rw [ownAskCoverOpen_of_preopen preopen]
  · rw [ownAskCoverOpen_of_released released]
  · rw [ownAskCoverOpen_of_night night]; rfl

end Sys2Proof.Machine
end

section
/-! The second of the Cover Ventilation Programme (R109): its counts, and a count that brings DISAGREE (R106, R116). -/

namespace Sys2Proof.Machine

/-! ## The moment of the second (log 2) -/

@[simp] theorem atCvpSecond_frame (s : State) :
    (atCvpSecond s).watches = s.watches ∧ (atCvpSecond s).alloc = s.alloc ∧ (atCvpSecond s).cover = s.cover ∧
    (atCvpSecond s).seq.pfLine = s.seq.pfLine ∧ (atCvpSecond s).seq.coverLimit = s.seq.coverLimit := by
  simp [atCvpSecond]

theorem alertTripped_congr {s t : State} (watches : t.watches = s.watches) : alertTripped t = alertTripped s := by
  rw [alertTripped, alertTripped, watches]

theorem heldRow_congr {s t : State} (report : t.cover.report = s.cover.report)
    (limit : t.seq.coverLimit = s.seq.coverLimit) : heldRow t = heldRow s := by
  rw [heldRow, heldRow, report, limit]

/-- R105: the report MOVING has an outcome whatever the switch. -/
theorem heldRow_of_moving {s : State} (moving : s.cover.report = .moving) : heldRow s = false := by
  rw [heldRow, moving]; rfl

/-! ## The counts of R106 -/

/-- The state of a second with the mismatch and travel counts taken. -/
def countsTaken (s : State) : State :=
  { atCvpSecond s with cover := disagreeCounts (heldRow s) s.cover }

theorem advanceCounts_atCvpSecond (s : State) : advanceCounts (atCvpSecond s) = countsTaken s := by
  have cover : (atCvpSecond s).cover = s.cover := by simp
  have held : heldRow (atCvpSecond s) = heldRow s := heldRow_congr (by simp) (by simp)
  rw [countsTaken, ← held, ← cover]
  rfl

theorem heldRow_countsTaken (s : State) : heldRow (countsTaken s) = heldRow s :=
  heldRow_congr rfl (show (atCvpSecond s).seq.coverLimit = _ by simp)

theorem mismatchMet_countsTaken (s : State) : mismatchMet (countsTaken s) = true ↔
    s.cover.derived ≠ .disagree ∧ heldRow s = true ∧ 30 ≤ (disagreeCounts (heldRow s) s.cover).mismatch := by
  rw [mismatchMet, heldRow_countsTaken, Bool.and_eq_true, Bool.and_eq_true, decide_eq_true_eq, decide_eq_true_eq,
    and_assoc]
  rfl

theorem travelMet_countsTaken (s : State) : travelMet (countsTaken s) = true ↔
    s.cover.derived ≠ .disagree ∧ s.cover.report = .moving ∧
      s.cover.cfg.travelLimit ≤ (disagreeCounts (heldRow s) s.cover).travel := by
  rw [travelMet, Bool.and_eq_true, Bool.and_eq_true, decide_eq_true_eq, decide_eq_true_eq, decide_eq_true_eq,
    and_assoc]
  rfl

/-- R106: a quiet second is one at which neither count is at its limit. -/
theorem countsQuiet_iff (s : State) : countsQuiet s ↔
    mismatchMet (countsTaken s) = false ∧ travelMet (countsTaken s) = false := by
  rw [← Bool.not_eq_true, ← Bool.not_eq_true, mismatchMet_countsTaken, travelMet_countsTaken]
  have derived : (disagreeCounts (heldRow s) s.cover).derived = s.cover.derived := rfl
  have report : (disagreeCounts (heldRow s) s.cover).report = s.cover.report := rfl
  have cfg : (disagreeCounts (heldRow s) s.cover).cfg = s.cover.cfg := rfl
  simp only [countsQuiet, derived, report, cfg]
  by_cases disagree : s.cover.derived = .disagree <;> simp [disagree]

/-- R106, R116: a count at its limit, as the statements write it. -/
theorem disagreeBy_eq (cause : Nat) (s : State) : disagreeBy cause s = disagreed cause s := by
  rw [disagreeBy, derivedEvent_eq (by rfl)]
  exact postAll_withCover _ _ { s.cover with derived := .disagree }
    (post .coverDisagree cause (reportCode s.cover.report)
      (post .coverState (derivedCode .disagree) (derivedCode s.cover.derived) s))

theorem countsSecond_of_quiet {s : State} (quiet : countsQuiet s) : countsSecond (atCvpSecond s) = countsTaken s := by
  obtain ⟨mismatch, travel⟩ := (countsQuiet_iff s).1 quiet
  rw [countsSecond, advanceCounts_atCvpSecond]
  simp [mismatch, travel]

theorem countsSecond_of_mismatch {s : State} (met : mismatchMet (countsTaken s) = true) :
    countsSecond (atCvpSecond s) = disagreed (if s.cover.report = .closed then 0 else 1) (countsTaken s) := by
  rw [countsSecond, advanceCounts_atCvpSecond]
  exact (if_pos met).trans (disagreeBy_eq _ _)

theorem countsSecond_of_travel {s : State} (mismatch : mismatchMet (countsTaken s) = false)
    (met : travelMet (countsTaken s) = true) : countsSecond (atCvpSecond s) = disagreed 2 (countsTaken s) := by
  rw [countsSecond, advanceCounts_atCvpSecond]
  exact (if_neg (by simp [mismatch])).trans ((if_pos met).trans (disagreeBy_eq _ _))

/-! ## The counts of the state of the programme -/

/-- R112, R121: the starve count and flag of a counted phase. -/
theorem starveSecond_eq (line : Bool) (c : Cover) :
    let starve := if line = true then 0 else if c.starve < 4 then c.starve + 1 else c.starve
    starveSecond line c = { c with starve := starve, starved := !line && (c.starved || decide (starve = 4)) } := by
  cases line <;> rfl

/-- R109, R112, R115, R121: the counts of a state, as the statements write them. -/
theorem phaseSecond_eq (line : Bool) (c : Cover) : phaseSecond line c = phaseCounted line c := by
  cases prog : c.prog
  case purge | preopen => simp [phaseSecond, phaseCounted, starveSecond_eq, prog]
  case alert => simp [phaseSecond, phaseCounted, prog]
  case idle | settle | rest | released | disagree => simp [phaseSecond, phaseCounted, prog]

/-- R107: in DISAGREE the second counts the elapsed time alone. -/
theorem phaseCounted_of_disagree {c : Cover} (disagree : c.prog = .disagree) (line : Bool) : phaseCounted line c =
    { c with elapsed := if c.elapsed < 65535 then c.elapsed + 1 else c.elapsed } := by
  simp [phaseCounted, disagree]

/-- A second that posts nothing: the starve flag does not become set. -/
theorem phaseCounts_of_unstarved {s : State}
    (kept : (phaseCounted s.seq.pfLine s.cover).starved = s.cover.starved) :
    phaseCounts s = { s with cover := phaseCounted s.seq.pfLine s.cover } := by
  rw [← phaseSecond_eq] at kept ⊢
  refine if_neg ?_
  simp [starvedNow, kept]

/-! ## The tests of the states (R110 to R115, R121, R122) -/

section
variable {s : State}

theorem phaseTests_of_settle (prog : s.cover.prog = .settle) : phaseTests s =
    if s.cover.cfg.settleTime ≤ s.cover.elapsed then enterNight .purge s else s := by
  simp [phaseTests, settleMet, purgeMet, restMet, holdMet, preopenMet, permissionMet, prog]

theorem phaseTests_of_purge (prog : s.cover.prog = .purge) : phaseTests s =
    if purgeHighInForce s ≤ s.cover.counted then completePurge s else s := by
  simp [phaseTests, settleMet, purgeMet, restMet, holdMet, preopenMet, permissionMet, prog]

theorem phaseTests_of_rest (prog : s.cover.prog = .rest) : phaseTests s =
    if (s.cover.cfg.cycleLimit = 0 ∨ s.cover.cycles < s.cover.cfg.cycleLimit) ∧
      s.cover.cfg.restLow ≤ s.cover.elapsed then enterNight .purge s else s := by
  simp [phaseTests, settleMet, purgeMet, restMet, holdMet, preopenMet, permissionMet, prog]

theorem phaseTests_of_preopen (prog : s.cover.prog = .preopen) : phaseTests s =
    if s.cover.cfg.preopenTime ≤ s.cover.preopenAcc ∧ alertTripped s = false then enterReleased s else s := by
  simp [phaseTests, settleMet, purgeMet, restMet, holdMet, preopenMet, permissionMet, prog]

theorem phaseTests_of_released (prog : s.cover.prog = .released) : phaseTests s =
    if s.cover.cfg.permissionHold ≤ s.cover.elapsed then lapsePermission s else s := by
  simp [phaseTests, settleMet, purgeMet, restMet, holdMet, preopenMet, permissionMet, prog]

theorem phaseTests_of_alert (prog : s.cover.prog = .alert) : phaseTests s =
    if holdMet s = true then enterNight .rest s else s := by
  simp [phaseTests, settleMet, purgeMet, restMet, preopenMet, permissionMet, prog]

theorem phaseTests_of_idle_disagree (prog : s.cover.prog = .idle ∨ s.cover.prog = .disagree) : phaseTests s = s := by
  rcases prog with prog | prog <;>
    simp [phaseTests, settleMet, purgeMet, restMet, holdMet, preopenMet, permissionMet, prog]

end

/-! ## A count at its limit -/

/-- R106, R116: after the event of a count the second has only the elapsed time of DISAGREE left to count (log 23). -/
theorem cvpStep_of_disagreed {cause : Nat} {s w : State}
    (event : countsSecond (atCvpSecond s) = disagreed cause w) : cvpStep s =
      { disagreed cause w with cover := { (disagreed cause w).cover with
        elapsed := if (disagreed cause w).cover.elapsed < 65535 then (disagreed cause w).cover.elapsed + 1
          else (disagreed cause w).cover.elapsed } } := by
  have disagree : (disagreed cause w).cover.prog = .disagree := by
    refine (coverAfter_keeps (alertTripped w) .disagree w.cover).2.2.2.trans ?_
    cases w.cover.prog <;> rfl
  have counted := phaseCounted_of_disagree disagree (disagreed cause w).seq.pfLine
  rw [cvpStep, coverSecond, event, phaseCounts_of_unstarved (by rw [counted]), phaseTests_of_idle_disagree, counted]
  exact .inr (by rw [counted]; exact disagree)

/-- R116: DISAGREE withdraws an outstanding permission. -/
theorem coverAfter_disagree (alert : Bool) (c : Cover) : (coverAfter alert .disagree c).derived = .disagree ∧
    (coverAfter alert .disagree c).prog = .disagree ∧
      ((c.release = true ↔ c.prog = .released) → (coverAfter alert .disagree c).release = false) := by
  obtain ⟨derived, -, -, prog⟩ := coverAfter_keeps alert .disagree c
  have after : programmeAfter alert c.prog .disagree = .disagree := by cases c.prog <;> rfl
  refine ⟨derived, prog.trans after, fun held => ?_⟩
  unfold coverAfter
  dsimp only
  split
  · rename_i stays
    rw [← Bool.not_eq_true]
    intro release
    rw [after, held.1 release] at stays
    exact Prog.noConfusion stays
  · rfl

theorem exec_mismatchCountExpiry {s : State} (met : mismatchMet (countsTaken s) = true) :
    exec .mismatchCountExpiry s = .next (cvpStep s) :=
  next_outcomeStep (by rw [advanceCounts_atCvpSecond, met]) _ _

theorem exec_travelCountExpiry {s : State} (mismatch : mismatchMet (countsTaken s) = false)
    (met : travelMet (countsTaken s) = true) : exec .travelCountExpiry s = .next (cvpStep s) :=
  next_outcomeStep (by rw [advanceCounts_atCvpSecond, mismatch, met]; rfl) _ _

/-- Settles O50: the event of the count that is met, then the elapsed time. -/
theorem countsBringDisagree : Obligations.CountsBringDisagree := by
  intro s agree c after
  have second {cause : Nat} (event : countsSecond (atCvpSecond s) = disagreed cause (countsTaken s)) :
      exec .cvpSecond s = .next (cvpStep s) ∧ cvpStep s = after cause := ⟨rfl, cvpStep_of_disagreed event⟩
  obtain ⟨derived, prog, release⟩ := coverAfter_disagree (alertTripped (countsTaken s)) c
  refine ⟨fun held limit => ?_, fun moving limit => ?_⟩
  · have met : mismatchMet (countsTaken s) = true := (mismatchMet_countsTaken s).2 ⟨agree, held, limit⟩
    obtain ⟨row, ends⟩ := second (countsSecond_of_mismatch met)
    refine ⟨_, exec_mismatchCountExpiry met, row, ?_⟩
    rw [ends]
    exact ⟨derived, prog, release, rfl⟩
  · have still : mismatchMet (countsTaken s) = false := by
      rw [← Bool.not_eq_true, mismatchMet_countsTaken, heldRow_of_moving moving]
      rintro ⟨-, held, -⟩
      exact Bool.noConfusion held
    have met : travelMet (countsTaken s) = true := (travelMet_countsTaken s).2 ⟨agree, moving, limit⟩
    obtain ⟨row, ends⟩ := second (countsSecond_of_travel still met)
    refine ⟨_, exec_travelCountExpiry still met, row, ?_⟩
    rw [ends]
    exact ⟨derived, prog, rfl⟩

end Sys2Proof.Machine
end

section
/-! A second of the programme at which no count brings DISAGREE: the counts (R109, R112), the ends of the night phases
(R110 to R115), and the permission (R120 to R122). -/

namespace Sys2Proof.Machine

/-! ## What a second leaves -/

/-- R109, R112: the counts of the state, with PURGE_STARVED where the starve flag becomes set. -/
theorem phaseCounts_eq (s : State) : phaseCounts s =
    let c := phaseCounted s.seq.pfLine s.cover
    { (if c.starved = true ∧ s.cover.starved = false then
        post .purgeStarved (progCode c.prog) (if c.prog = .preopen then c.preopenAcc else c.counted) s
       else s) with cover := c } := by
  have becomes : starvedNow s.cover (phaseCounted s.seq.pfLine s.cover) = true ↔
      (phaseCounted s.seq.pfLine s.cover).starved = true ∧ s.cover.starved = false := by
    rw [starvedNow, Bool.and_eq_true, Bool.not_eq_true']
  rw [phaseCounts, show phaseSecond = phaseCounted from funext fun _ => funext fun _ => phaseSecond_eq ..]
  by_cases starved : starvedNow s.cover (phaseCounted s.seq.pfLine s.cover) = true
  · refine (if_pos starved).trans ?_
    dsimp only
    rw [if_pos (becomes.1 starved), ← apply_ite (Nat.cast (R := Int))]
    rfl
  · refine (if_neg starved).trans ?_
    dsimp only
    rw [if_neg (mt becomes.2 starved)]
    rfl

theorem phaseCounts_cover (s : State) : (phaseCounts s).cover = phaseCounted s.seq.pfLine s.cover :=
  congrArg State.cover (phaseCounts_eq s)

/-- R106: the counts leave the record as it is, or DISAGREE. -/
theorem countsSecond_cover (s : State) :
    (countsSecond (atCvpSecond s)).cover = disagreeCounts (heldRow s) s.cover ∨
      (countsSecond (atCvpSecond s)).cover =
        coverAfter (alertTripped (countsTaken s)) .disagree (disagreeCounts (heldRow s) s.cover) := by
  by_cases mismatch : mismatchMet (countsTaken s) = true
  · exact .inr (by rw [countsSecond_of_mismatch mismatch]; rfl)
  · rw [Bool.not_eq_true] at mismatch
    by_cases travel : travelMet (countsTaken s) = true
    · exact .inr (by rw [countsSecond_of_travel mismatch travel]; rfl)
    · rw [Bool.not_eq_true] at travel
      exact .inl (by rw [countsSecond_of_quiet ((countsQuiet_iff s).2 ⟨mismatch, travel⟩)]; rfl)

theorem phaseTests_keeps (s : State) : (phaseTests s).cover.cfg = s.cover.cfg ∧
    (phaseTests s).cover.report = s.cover.report ∧ (phaseTests s).cover.switchOnly = s.cover.switchOnly := by
  unfold phaseTests
  split_ifs <;> exact ⟨rfl, rfl, rfl⟩

/-- R109: no second reaches the configuration, the report or SWITCH_ONLY. -/
theorem cvpStep_keeps (s : State) : (cvpStep s).cover.cfg = s.cover.cfg ∧
    (cvpStep s).cover.report = s.cover.report ∧ (cvpStep s).cover.switchOnly = s.cover.switchOnly := by
  have counts : (countsSecond (atCvpSecond s)).cover.cfg = s.cover.cfg ∧
      (countsSecond (atCvpSecond s)).cover.report = s.cover.report ∧
        (countsSecond (atCvpSecond s)).cover.switchOnly = s.cover.switchOnly := by
    obtain same | event := countsSecond_cover s
    · rw [same]; exact ⟨rfl, rfl, rfl⟩
    · rw [event]
      obtain ⟨-, only, report, -⟩ := coverAfter_keeps (alertTripped (countsTaken s)) .disagree
        (disagreeCounts (heldRow s) s.cover)
      exact ⟨(coverAfter_cfg_travel ..).1, report, only⟩
  obtain ⟨cfg, report, only⟩ := phaseTests_keeps (phaseCounts (countsSecond (atCvpSecond s)))
  rw [phaseCounts_cover] at cfg report only
  exact ⟨cfg.trans counts.1, report.trans counts.2.1, only.trans counts.2.2⟩

theorem cvpStep_touches (s : State) : cvpStep s =
    { atCvpSecond s with cover := (cvpStep s).cover, ports := (cvpStep s).ports } := by
  have frame := coverSecond_frame (atCvpSecond s)
  unfold cvpStep
  generalize coverSecond (atCvpSecond s) = t at frame
  cases t
  simpa using frame

/-! ## The counted second -/

section
variable (s : State)

theorem countedSecond_watches : (countedSecond s).watches = s.watches := by
  unfold countedSecond
  dsimp only
  split <;> simp

theorem countedSecond_alloc : (countedSecond s).alloc = s.alloc := by
  unfold countedSecond
  dsimp only
  split <;> simp

theorem alertTripped_countedSecond : alertTripped (countedSecond s) = alertTripped s :=
  alertTripped_congr (countedSecond_watches s)

theorem nightState_countedSecond (p : Prog) : nightState (countedSecond s) p = nightState s p := by
  rw [nightState, nightState, alertTripped_countedSecond]

theorem purgeHighInForce_countedSecond : purgeHighInForce (countedSecond s) = purgeHighInForce s := by
  rw [purgeHighInForce, purgeHighInForce, purgeFloor, purgeFloor, countedSecond_alloc]
  rfl

theorem phaseEnds_countedSecond (c : Cover) : phaseEnds (countedSecond s) c ↔ phaseEnds s c := by
  rw [phaseEnds, phaseEnds, alertTripped_countedSecond, purgeHighInForce_countedSecond]

/-- R111: the entry into a night state at the end of a second. -/
theorem enterNight_countedSecond (p : Prog) : enterNight p (countedSecond s) =
    { countedSecond s with cover := cleared (nightState s p) (secondOf s) } := by
  rw [← nightState_countedSecond]
  rfl

end

section
variable {s : State}

/-- R112: the starve flag becomes set at this second. -/
theorem countedSecond_of_starved (starved : (secondOf s).starved = true ∧ s.cover.starved = false) : countedSecond s =
    { post .purgeStarved (progCode (secondOf s).prog)
        (if (secondOf s).prog = .preopen then (secondOf s).preopenAcc else (secondOf s).counted) (atCvpSecond s) with
      cover := secondOf s } :=
  congrArg (fun u : State => { u with cover := secondOf s }) (if_pos starved)

theorem countedSecond_of_unstarved (kept : ¬((secondOf s).starved = true ∧ s.cover.starved = false)) :
    countedSecond s = { atCvpSecond s with cover := secondOf s } :=
  congrArg (fun u : State => { u with cover := secondOf s }) (if_neg kept)

/-- R109, R112: the counts of a quiet second, as the statements write them. -/
theorem atPhaseTests_of_quiet (quiet : countsQuiet s) : atPhaseTests s = countedSecond s := by
  have line : (countsTaken s).seq.pfLine = s.seq.pfLine := by simp [countsTaken]
  rw [atPhaseTests, countsSecond_of_quiet quiet, phaseCounts_eq, line]
  by_cases starved : (secondOf s).starved = true ∧ s.cover.starved = false
  · rw [countedSecond_of_starved starved]
    exact congrArg (fun u : State => { u with cover := secondOf s }) (if_pos starved)
  · rw [countedSecond_of_unstarved starved]
    exact congrArg (fun u : State => { u with cover := secondOf s }) (if_neg starved)

theorem cvpStep_of_quiet (quiet : countsQuiet s) : cvpStep s = phaseTests (countedSecond s) :=
  congrArg phaseTests (atPhaseTests_of_quiet quiet)

end

theorem holdMet_iff (s : State) : holdMet s = true ↔
    s.cover.prog = .alert ∧ ∃ h, s.cover.hold = some h ∧ s.cover.cfg.alertHold ≤ h := by
  cases hold : s.cover.hold <;> simp [holdMet, hold]

/-- R109: a second at which no state ends leaves the programme where it stands. -/
theorem phaseTests_of_lasting {s : State} (lasts : ¬phaseEnds s s.cover) : phaseTests s = s := by
  cases prog : s.cover.prog with
  | idle => exact phaseTests_of_idle_disagree (.inl prog)
  | disagree => exact phaseTests_of_idle_disagree (.inr prog)
  | settle => exact (phaseTests_of_settle prog).trans (if_neg fun met => lasts (.inl ⟨prog, met⟩))
  | purge => exact (phaseTests_of_purge prog).trans (if_neg fun met => lasts (.inr (.inl ⟨prog, met⟩)))
  | rest => exact (phaseTests_of_rest prog).trans (if_neg fun met => lasts (.inr (.inr (.inl ⟨prog, met⟩))))
  | alert =>
    exact (phaseTests_of_alert prog).trans
      (if_neg fun met => lasts (.inr (.inr (.inr (.inl ((holdMet_iff s).1 met))))))
  | preopen =>
    exact (phaseTests_of_preopen prog).trans
      (if_neg fun met => lasts (.inr (.inr (.inr (.inr (.inl ⟨prog, met⟩))))))
  | released =>
    exact (phaseTests_of_released prog).trans
      (if_neg fun met => lasts (.inr (.inr (.inr (.inr (.inr ⟨prog, met⟩))))))

theorem cvpStep_of_lasting {s : State} (quiet : countsQuiet s) (lasts : ¬phaseEnds s (secondOf s)) :
    cvpStep s = countedSecond s :=
  (cvpStep_of_quiet quiet).trans (phaseTests_of_lasting (mt (phaseEnds_countedSecond s _).1 lasts))

end Sys2Proof.Machine
end

section
/-! The counts and ends of the states of the programme, state by state (R109 to R115, R120 to R122). -/

namespace Sys2Proof.Machine

/-! ## The counts of a second (R106, R109, R112, R115, R121) -/

section
variable {s : State}

theorem secondOf_elapsed (below : s.cover.elapsed < 65535) : (secondOf s).elapsed = s.cover.elapsed + 1 := if_pos below

theorem secondOf_counted (purge : s.cover.prog = .purge) : (secondOf s).counted =
    if s.seq.pfLine = true then s.cover.counted + 1 else s.cover.counted := by
  simp [secondOf, phaseCounted, disagreeCounts, purge]

theorem secondOf_preopenAcc (preopen : s.cover.prog = .preopen) : (secondOf s).preopenAcc =
    if s.seq.pfLine = true ∧ s.cover.preopenAcc < s.cover.cfg.preopenTime then s.cover.preopenAcc + 1
    else s.cover.preopenAcc := by
  simp [secondOf, phaseCounted, disagreeCounts, preopen]

theorem secondOf_hold {h : Nat} (alert : s.cover.prog = .alert) (runs : s.cover.hold = some h) :
    (secondOf s).hold = some (h + 1) := by
  simp [secondOf, phaseCounted, disagreeCounts, alert, runs]

theorem secondOf_fed (timed : s.cover.prog = .purge ∨ s.cover.prog = .preopen) (line : s.seq.pfLine = true) :
    (secondOf s).starve = 0 ∧ (secondOf s).starved = false := by
  simp [secondOf, phaseCounted, disagreeCounts, timed, line]

theorem secondOf_starving (timed : s.cover.prog = .purge ∨ s.cover.prog = .preopen) (line : s.seq.pfLine = false)
    (below : s.cover.starve < 4) : (secondOf s).starve = s.cover.starve + 1 ∧
      ((secondOf s).starved = true ↔ s.cover.starved = true ∨ s.cover.starve = 3) := by
  simp [secondOf, phaseCounted, disagreeCounts, timed, line, below]

theorem secondOf_mismatch (held : heldRow s = true) (below : s.cover.mismatch < 30) :
    (secondOf s).mismatch = s.cover.mismatch + 1 := if_pos ⟨held, below⟩

theorem secondOf_travel (moving : s.cover.report = .moving) (below : s.cover.travel < 1800) :
    (secondOf s).travel = s.cover.travel + 1 := if_pos ⟨moving, below⟩

/-- R112: the starve flag becomes set only while the PF line is off. -/
theorem pfLine_of_starved (timed : s.cover.prog = .purge ∨ s.cover.prog = .preopen)
    (starved : (secondOf s).starved = true) : s.seq.pfLine = false := by
  by_contra line
  rw [(secondOf_fed timed (Bool.eq_true_of_not_eq_false line)).2] at starved
  exact Bool.noConfusion starved

end

/-! ## The ends of the states -/

theorem completePurge_eq (s : State) : completePurge s =
    { s with cover := { cleared (nightState s .rest) s.cover with
        cycles := if s.cover.cycles < 255 then s.cover.cycles + 1 else s.cover.cycles } } := rfl

theorem enterReleased_eq (s : State) : enterReleased s =
    { post .coverRelease (originCode s.cover.origin) s.cover.cfg.permissionHold s with
      cover := { cleared .released s.cover with
        origin := s.cover.origin, preopenAcc := s.cover.preopenAcc, release := true } } := rfl

theorem lapsePermission_eq (s : State) : lapsePermission s =
    { post .coverReleaseLapsed 0 0 s with cover := cleared (nightState s .rest) s.cover } := rfl

/-- A row that names the end of a state is its second where the test of that state is met (log 16). -/
theorem second_of_met {s t : State} {row : Instr} {met : State → Bool} (quiet : countsQuiet s)
    (names : exec row s = .next (outcomeStep (met (atPhaseTests s)) (cvpStep s) s))
    (now : met (countedSecond s) = true) (ends : phaseTests (countedSecond s) = t) :
    exec row s = .next t ∧ exec .cvpSecond s = .next t := by
  have second : cvpStep s = t := (cvpStep_of_quiet quiet).trans ends
  rw [atPhaseTests_of_quiet quiet] at names
  exact ⟨names.trans (second ▸ next_outcomeStep now _ _), congrArg _ second⟩

section
variable {s : State} (quiet : countsQuiet s)
include quiet

/-- R110: SETTLE ends into PURGE. -/
theorem settle_ends (prog : s.cover.prog = .settle) (time : s.cover.cfg.settleTime ≤ (secondOf s).elapsed) :
    let t : State := { countedSecond s with cover := cleared (nightState s .purge) (secondOf s) }
    exec .settleTimeMet s = .next t ∧ exec .cvpSecond s = .next t := by
  have now : settleMet (countedSecond s) = true := by
    rw [settleMet, Bool.and_eq_true, decide_eq_true_eq, decide_eq_true_eq]
    exact ⟨prog, time⟩
  refine second_of_met quiet rfl now ?_
  rw [← enterNight_countedSecond]
  exact (phaseTests_of_settle (s := countedSecond s) prog).trans (if_pos time)

/-- R113: PURGE ends into REST, with one more cycle. -/
theorem purge_ends (prog : s.cover.prog = .purge) (time : purgeHighInForce s ≤ (secondOf s).counted) :
    let t : State := { countedSecond s with cover := { cleared (nightState s .rest) (secondOf s) with
      cycles := if s.cover.cycles < 255 then s.cover.cycles + 1 else s.cover.cycles } }
    exec .purgeComplete s = .next t ∧ exec .cvpSecond s = .next t := by
  rw [← purgeHighInForce_countedSecond] at time
  have now : purgeMet (countedSecond s) = true := by
    rw [purgeMet, Bool.and_eq_true, decide_eq_true_eq, decide_eq_true_eq]
    exact ⟨prog, time⟩
  refine second_of_met quiet rfl now ?_
  rw [← nightState_countedSecond]
  exact ((phaseTests_of_purge (s := countedSecond s) prog).trans (if_pos time)).trans (completePurge_eq _)

/-- R113: REST ends into PURGE while the cycle limit allows. -/
theorem rest_ends (prog : s.cover.prog = .rest)
    (allowed : s.cover.cfg.cycleLimit = 0 ∨ s.cover.cycles < s.cover.cfg.cycleLimit)
    (time : s.cover.cfg.restLow ≤ (secondOf s).elapsed) :
    let t : State := { countedSecond s with cover := cleared (nightState s .purge) (secondOf s) }
    exec .restTimeMet s = .next t ∧ exec .cvpSecond s = .next t := by
  have now : restMet (countedSecond s) = true := by
    rw [restMet, Bool.and_eq_true, Bool.and_eq_true, Bool.or_eq_true, decide_eq_true_eq, decide_eq_true_eq,
      decide_eq_true_eq, decide_eq_true_eq]
    exact ⟨⟨prog, allowed⟩, time⟩
  refine second_of_met quiet rfl now ?_
  rw [← enterNight_countedSecond]
  exact (phaseTests_of_rest (s := countedSecond s) prog).trans (if_pos ⟨allowed, time⟩)

/-- R115: ALERT ends into REST once the hold is met. -/
theorem alert_ends {h : Nat} (prog : s.cover.prog = .alert) (hold : (secondOf s).hold = some h)
    (time : s.cover.cfg.alertHold ≤ h) :
    let t : State := { countedSecond s with cover := cleared (nightState s .rest) (secondOf s) }
    exec .alertHoldMet s = .next t ∧ exec .cvpSecond s = .next t := by
  have now : holdMet (countedSecond s) = true := (holdMet_iff _).2 ⟨prog, h, hold, time⟩
  refine second_of_met quiet rfl now ?_
  rw [← enterNight_countedSecond]
  exact (phaseTests_of_alert (s := countedSecond s) prog).trans (if_pos now)

/-- R121, R122: PREOPEN ends in the permission. -/
theorem preopen_ends (prog : s.cover.prog = .preopen) (time : s.cover.cfg.preopenTime ≤ (secondOf s).preopenAcc)
    (calm : alertTripped s = false) :
    let t : State := { post .coverRelease (originCode s.cover.origin) s.cover.cfg.permissionHold (countedSecond s) with
      cover := { cleared .released (secondOf s) with
        origin := s.cover.origin, preopenAcc := (secondOf s).preopenAcc, release := true } }
    exec .preopenTimeMet s = .next t ∧ exec .cvpSecond s = .next t := by
  rw [← alertTripped_countedSecond] at calm
  have now : preopenMet (countedSecond s) = true := by
    rw [preopenMet, Bool.and_eq_true, Bool.and_eq_true, decide_eq_true_eq, decide_eq_true_eq, Bool.not_eq_true']
    exact ⟨⟨prog, time⟩, calm⟩
  refine second_of_met quiet rfl now ?_
  exact ((phaseTests_of_preopen (s := countedSecond s) prog).trans (if_pos ⟨time, calm⟩)).trans (enterReleased_eq _)

/-- R122: the permission lapses. -/
theorem released_ends (prog : s.cover.prog = .released) (time : s.cover.cfg.permissionHold ≤ (secondOf s).elapsed) :
    let t : State := { post .coverReleaseLapsed 0 0 (countedSecond s) with
      cover := cleared (nightState s .rest) (secondOf s) }
    exec .permissionHoldMet s = .next t ∧ exec .cvpSecond s = .next t := by
  have now : permissionMet (countedSecond s) = true := by
    rw [permissionMet, Bool.and_eq_true, decide_eq_true_eq, decide_eq_true_eq]
    exact ⟨prog, time⟩
  refine second_of_met quiet rfl now ?_
  rw [← nightState_countedSecond]
  exact ((phaseTests_of_released (s := countedSecond s) prog).trans (if_pos time)).trans (lapsePermission_eq _)

end

/-- Settles O51: the frame of a second, its counts, and the ends of the night phases. -/
theorem nightPhasesEndOnTime : Obligations.NightPhasesEndOnTime := by
  refine ⟨fun s => ⟨_, rfl, cvpStep_touches s, cvpStep_keeps s⟩, fun s => ?_, fun s quiet => ?_⟩
  · exact ⟨rfl, secondOf_elapsed, secondOf_counted, secondOf_preopenAcc, fun _ => secondOf_hold, secondOf_fed,
      secondOf_starving, secondOf_mismatch, secondOf_travel,
      fun quiet lasts => congrArg _ (cvpStep_of_lasting quiet lasts)⟩
  · exact ⟨settle_ends quiet, purge_ends quiet, rest_ends quiet, fun _ => alert_ends quiet⟩

/-! ## The permission (R120 to R122) -/

/-- R121: no pre-open purge ends while an ALERT_PURGE watch is TRIPPED. -/
theorem preopen_lasts {s : State} (quiet : countsQuiet s) (prog : s.cover.prog = .preopen)
    (alert : alertTripped s = true) : cvpStep s = countedSecond s := by
  refine cvpStep_of_lasting quiet ?_
  have second : (secondOf s).prog = .preopen := prog
  simp [phaseEnds, second, alert]

theorem exec_purgeStarved {s : State} (quiet : countsQuiet s) (starved : (secondOf s).starved = true)
    (clear : s.cover.starved = false) : exec .purgeStarved s = .next (cvpStep s) := by
  refine next_outcomeStep ?_ _ _
  rw [starveDue, atPhaseTests_of_quiet quiet, countsSecond_of_quiet quiet, starvedNow, Bool.and_eq_true,
    Bool.not_eq_true']
  exact ⟨starved, clear⟩

/-- Settles O52: the permission as the end of PREOPEN, its lapse as the end of RELEASED, and the starved purge. -/
theorem permissionIsGivenAndLapses : Obligations.PermissionIsGivenAndLapses := by
  intro s quiet c v
  refine ⟨preopen_ends quiet, fun prog alert => congrArg _ (preopen_lasts quiet prog alert), released_ends quiet,
    fun timed starved clear => ?_⟩
  have line : s.seq.pfLine = false := pfLine_of_starved timed starved
  have subject : progCode c.prog = if c.prog = .purge then 2 else 5 := by
    obtain prog | prog := timed <;> rw [prog] <;> rfl
  have value : (if c.prog = .preopen then (c.preopenAcc : Int) else c.counted) =
      if c.prog = .purge then (c.counted : Int) else c.preopenAcc := by
    obtain prog | prog := timed <;> rw [prog] <;> rfl
  have counted : c.counted = s.cover.counted := by simp [c, secondOf, phaseCounted, disagreeCounts, line]
  refine ⟨line, ?_, _, exec_purgeStarved quiet starved clear, rfl, fun lasts => ?_⟩
  · rw [← subject, ← value]
    exact countedSecond_of_starved ⟨starved, clear⟩
  · rw [cvpStep_of_lasting quiet lasts]
    exact ⟨rfl, rfl, counted, starved⟩

end Sys2Proof.Machine
end

section
/-! The cover-open permission and RELEASED (R122): what each event that reaches the cover record does to the two. -/

namespace Sys2Proof.Machine

/-! ## Records in which the permission stands exactly in RELEASED -/

/-- R122: the permission stands in the record exactly in RELEASED. -/
def releaseSound (c : Cover) : Prop := c.release = true ↔ c.prog = .released

theorem releaseHeld_iff (s : State) : ReleaseHeld s ↔ releaseSound s.cover := Iff.rfl

/-- ReleaseHeld speaks of the cover record alone. -/
theorem ReleaseHeld.of_cover {s t : State} (h : ReleaseHeld s) (cover : t.cover = s.cover) : ReleaseHeld t := by
  rw [releaseHeld_iff, cover]
  exact h

/-- A state other than RELEASED is entered without a permission. -/
theorem releaseSound_cleared {p : Prog} (other : p ≠ .released) (c : Cover) : releaseSound (cleared p c) :=
  ⟨fun released => Bool.noConfusion released, fun released => absurd released other⟩

theorem nightState_ne_released {p : Prog} (other : p ≠ .released) (s : State) : nightState s p ≠ .released := by
  unfold nightState
  split
  · decide
  · exact other

/-- R110, R116 to R118: no new derived state brings the programme into RELEASED. -/
theorem programmeAfter_ne_released {p : Prog} (other : p ≠ .released) (alert : Bool) (d : Derived) :
    programmeAfter alert p d ≠ .released := by
  revert other
  cases p <;> cases d <;> cases alert <;> decide

theorem releaseSound.coverAfter {c : Cover} (h : releaseSound c) (alert : Bool) (d : Derived) :
    releaseSound (coverAfter alert d c) := by
  unfold Machine.coverAfter
  dsimp only
  split
  · exact h
  · rename_i moves
    refine releaseSound_cleared (fun enters => ?_) c
    by_cases released : c.prog = .released
    · exact moves (enters.trans released.symm)
    · exact programmeAfter_ne_released released alert d enters

theorem releaseSound_coverTripped {c : Cover} (h : releaseSound c) : releaseSound (coverTripped c) := by
  cases prog : c.prog
  case settle | purge | rest | released =>
    have trips : coverTripped c = cleared .alert c := by simp only [coverTripped, prog]
    rw [trips]
    exact releaseSound_cleared (by decide) c
  case alert =>
    have trips : coverTripped c = { c with hold := none } := by simp only [coverTripped, prog]
    rw [trips]
    exact h
  case preopen | idle | disagree =>
    have kept : coverTripped c = c := by simp only [coverTripped, prog]
    rw [kept]
    exact h

/-- R114, R115: the changes of ALERT_PURGE watches. -/
theorem releaseSound_coverWatched {s t : State} (h : ReleaseHeld s) : releaseSound (coverWatched s t) := by
  by_cases trips : AlertTrips s t
  · rw [coverWatched_of_trips trips]
    exact releaseSound_coverTripped h
  · obtain same | ⟨-, hold⟩ := coverWatched_before_trip trips
    · rw [same]; exact h
    · rw [hold]; exact h

/-! ## Events of the programme -/

section
variable {s : State}

theorem releaseHeld_coverEvaluated (h : ReleaseHeld s) : ReleaseHeld (coverEvaluated s) := by
  rw [releaseHeld_iff]
  cases row : pairOutcome s.cover.report s.seq.coverLimit.active with
  | none => rw [coverEvaluated_of_held row]; exact h
  | some x =>
    obtain ⟨d, only⟩ := x
    rw [coverEvaluated_of_row row]
    split
    · exact h
    · exact releaseSound.coverAfter (c := { s.cover with switchOnly := only }) h _ d

theorem releaseHeld_evaluateCover (h : ReleaseHeld s) : ReleaseHeld (evaluateCover s) := by
  rw [evaluateCover_eq]
  exact releaseHeld_coverEvaluated h

theorem releaseHeld_changeReport (r : Report) (h : ReleaseHeld s) : ReleaseHeld (changeReport r s) := by
  unfold changeReport
  split
  · exact h
  · exact releaseHeld_evaluateCover h

theorem releaseHeld_enterNight {p : Prog} (other : p ≠ .released) (s : State) : ReleaseHeld (enterNight p s) :=
  releaseSound_cleared (nightState_ne_released other s) s.cover

theorem releaseHeld_enterPreopen (o : Origin) (s : State) : ReleaseHeld (enterPreopen o s) :=
  releaseSound_cleared (p := .preopen) (by decide) s.cover

/-- R122: the entry into RELEASED brings the permission, every other end of a state is an entry without one. -/
theorem releaseHeld_phaseTests (h : ReleaseHeld s) : ReleaseHeld (phaseTests s) := by
  unfold phaseTests
  split_ifs
  · exact releaseHeld_enterNight (by decide) s
  · rw [completePurge_eq]
    exact releaseSound_cleared (nightState_ne_released (by decide) s) s.cover
  · exact releaseHeld_enterNight (by decide) s
  · exact releaseHeld_enterNight (by decide) s
  · rw [enterReleased_eq]
    exact ⟨fun _ => rfl, fun _ => rfl⟩
  · rw [lapsePermission_eq]
    exact releaseSound_cleared (nightState_ne_released (by decide) s) s.cover
  · exact h

/-- R109: a second of the programme. -/
theorem releaseHeld_cvpStep (h : ReleaseHeld s) : ReleaseHeld (cvpStep s) := by
  have counts : releaseSound (countsSecond (atCvpSecond s)).cover := by
    obtain same | event := countsSecond_cover s
    · rw [same]; exact h
    · rw [event]
      exact releaseSound.coverAfter (c := disagreeCounts (heldRow s) s.cover) h _ _
  refine releaseHeld_phaseTests ?_
  rw [releaseHeld_iff, phaseCounts_cover]
  exact counts

theorem releaseHeld_watchAction (a : WatchAction) (tripped : Bool) (h : ReleaseHeld s) :
    ReleaseHeld (watchAction a tripped s) := by
  unfold watchAction
  split
  · split
    · rw [releaseHeld_iff, alertTrip_cover]
      exact releaseSound_coverTripped h
    · unfold alertClear
      split <;> exact h
  · exact h
  · exact h

/-- R55, R56: a change of hall mode at the programme. -/
theorem releaseHeld_coverModeEvent (old new : Mode) (h : ReleaseHeld s) : ReleaseHeld (coverModeEvent old new s) := by
  by_cases begins : new = .preopen ∧ NightPhase s.cover
  · obtain ⟨rfl, night⟩ := begins
    rw [releaseHeld_iff, coverModeEvent_begins night]
    exact releaseSound_cleared (p := .preopen) (by decide) s.cover
  · by_cases cancels : CancelsPurge old new s.cover
    · rw [releaseHeld_iff, coverModeEvent_cancels cancels]
      exact releaseSound_cleared (nightState_ne_released (by decide) s) s.cover
    · rw [coverModeEvent_keeps begins cancels]
      exact h

/-- R124: a warm restart leaves the programme in IDLE or in the first phase of a night. -/
theorem releaseHeld_restartCover (s : State) : ReleaseHeld (restartCover s) := by
  unfold restartCover
  dsimp only
  generalize (if s.cover.prog = .released then post .coverReleaseLapsed 3 (permissionRemaining s.cover) s else s) = u
  split
  · exact releaseHeld_enterNight (by decide) _
  · exact ⟨fun released => Bool.noConfusion released, fun released => Prog.noConfusion released⟩

end

end Sys2Proof.Machine
end

section
namespace Sys2Proof.Machine

/-! ## Steps and the permission -/

section
variable {s : State}

/-! ### Events beside the covers -/

theorem minOffStep_cover (i : CompId) (s : State) : (minOffStep i s).cover = s.cover := by
  unfold minOffStep; (repeat' split) <;> simp

theorem minOnStep_cover (i : CompId) (s : State) : (minOnStep i s).cover = s.cover := by
  unfold minOnStep; (repeat' split) <;> simp

theorem proofLossStep_cover (s : State) : (proofLossStep s).cover = s.cover := by
  unfold proofLossStep; split <;> simp

theorem proofFailStep_cover (s : State) : (proofFailStep s).cover = s.cover := by
  unfold proofFailStep; split <;> simp

theorem interlockOnStep_cover (s : State) : (interlockOnStep s).cover = s.cover := by
  unfold interlockOnStep; split <;> simp [atAccept]

theorem interlockOffStep_cover (s : State) : (interlockOffStep s).cover = s.cover := by
  unfold interlockOffStep; split <;> simp [atAccept]

theorem fanProofOnStep_cover (s : State) : (fanProofOnStep s).cover = s.cover := by
  unfold fanProofOnStep; split <;> simp [atAccept]

theorem fanProofOffStep_cover (s : State) : (fanProofOffStep s).cover = s.cover := by
  unfold fanProofOffStep; split <;> simp [atAccept]

theorem searchExpiry_cover (above : Bool) (s : State) : (searchExpiry above s).cover = s.cover := by
  unfold searchExpiry; split <;> simp

/-! ### Events that reach the covers -/

theorem releaseHeld_scanStep (x : Samples) (h : ReleaseHeld s) : ReleaseHeld (scanStep x s) := by
  rw [releaseHeld_iff, (filed_scanStep x s).cover]
  exact releaseSound_coverWatched h

theorem releaseHeld_computeStep (h : ReleaseHeld s) : ReleaseHeld (computeStep s) := by
  rw [releaseHeld_iff, (filed_computeStep s).cover]
  exact releaseSound_coverWatched h

theorem releaseHeld_acceptCoverLimit (level : Bool) (h : ReleaseHeld s) : ReleaseHeld (acceptCoverLimit level s) :=
  releaseHeld_evaluateCover h

theorem releaseHeld_coverLimitStep (h : ReleaseHeld s) : ReleaseHeld (coverLimitStep s) :=
  releaseHeld_acceptCoverLimit _ (h.of_cover (by simp [atAccept]))

theorem releaseHeld_sampleStep (a b c : Bool) (h : ReleaseHeld s) : ReleaseHeld (sampleStep a b c s) := by
  have sampled {u : State} (h : ReleaseHeld u) : ReleaseHeld (sampleCover a u) := by
    unfold sampleCover
    split
    · exact releaseHeld_acceptCoverLimit a h
    · exact h
  have beside (u : State) : (sampleInputs a b c u).cover = (sampleCover a u).cover := by
    rw [sampleInputs_eq]; simp
  exact (sampled (h.of_cover (by simp))).of_cover (beside _)

/-- R157: at POOL's absence the report becomes UNKNOWN. -/
theorem releaseHeld_roleSilent (role : Role) (h : ReleaseHeld s) : ReleaseHeld (roleSilent role s) := by
  cases role
  case pool => exact (releaseHeld_changeReport .unknown h).of_cover (by simp [roleSilent])
  case lighting => exact h.of_cover (by simp [roleSilent])
  case building | observer => exact h

theorem releaseHeld_silenceStep (p : PortId) (h : ReleaseHeld s) : ReleaseHeld (silenceStep p s) := by
  unfold silenceStep
  split
  · exact h
  · split
    · exact releaseHeld_roleSilent _ (h.of_cover (by simp))
    · exact h

/-! ### Requests -/

theorem releaseHeld_ownWriteWatch (n src dir : Byte) (th hy : Half) (act : Byte) (h : ReleaseHeld s) :
    ReleaseHeld (ownWriteWatch n src dir th hy act s).1 := by
  have written (i : Fin 8) (cfg : WatchCfg) : ReleaseHeld (writeWatch i cfg s) := by
    unfold writeWatch
    dsimp only
    split_ifs
    · exact h
    · exact releaseHeld_watchAction _ _ h
    · exact h
  unfold ownWriteWatch
  split
  · exact h
  · split
    · exact h
    · split
      · exact written _ _
      · exact h

theorem releaseHeld_changeMode (m : Mode) (h : ReleaseHeld s) : ReleaseHeld (changeMode m s) := by
  rw [releaseHeld_iff, changeMode_cover]
  exact releaseHeld_coverModeEvent _ _ h

theorem releaseHeld_ownSetModeHall (mode target : Byte) (h : ReleaseHeld s) :
    ReleaseHeld (ownSetModeHall mode target s).1 := by
  unfold ownSetModeHall
  split
  · exact h
  · split_ifs
    · exact h
    · exact h
    · exact h
    · exact releaseHeld_changeMode _ h

theorem releaseHeld_ownReportCover (b : Byte) (h : ReleaseHeld s) : ReleaseHeld (ownReportCover b s).1 := by
  unfold ownReportCover
  split
  · exact h
  · exact releaseHeld_changeReport _ h

theorem releaseHeld_ownAskCoverOpen (h : ReleaseHeld s) : ReleaseHeld (ownAskCoverOpen s).1 := by
  cases prog : s.cover.prog
  case idle => rw [ownAskCoverOpen_of_closed (.inl prog)]; exact h
  case disagree => rw [ownAskCoverOpen_of_closed (.inr prog)]; exact h
  case preopen => rw [ownAskCoverOpen_of_preopen prog]; exact h
  case released => rw [ownAskCoverOpen_of_released prog]; exact h
  case settle | purge | rest | alert =>
    rw [ownAskCoverOpen_of_night (by simp [NightPhase, prog])]
    exact releaseHeld_enterPreopen .ask s

theorem releaseHeld_ownWriteCoverCfg (n : Byte) (fs : List Half) (h : ReleaseHeld s) :
    ReleaseHeld (ownWriteCoverCfg n fs s).1 := by
  unfold ownWriteCoverCfg
  split_ifs
  · exact h
  · exact h
  · split <;> exact h

/-- Of the owners only those of the covers, the watches and the hall mode reach the cover record. -/
theorem releaseHeld_ownerServe (c : Instr) (h : ReleaseHeld s) : ReleaseHeld (ownerServe c s).1 := by
  cases c
  case writeItemWatch p n src dir th hy act => exact releaseHeld_ownWriteWatch n src dir th hy act h
  case writeItemCoverCfg p n fs => exact releaseHeld_ownWriteCoverCfg n fs h
  case setModeHall p m t => exact releaseHeld_ownSetModeHall m t h
  case reportCover p b => exact releaseHeld_ownReportCover b h
  case askCoverOpen p => exact releaseHeld_ownAskCoverOpen h
  all_goals exact h.of_cover (by simp [ownerServe])

theorem releaseHeld_takeHanded (p : PortId) (c : Instr) (h : ReleaseHeld s) : ReleaseHeld (takeHanded p c s) :=
  (releaseHeld_ownerServe c h).of_cover (by simp [takeHanded])

theorem releaseHeld_requestStep (p : PortId) (c : Instr) (h : ReleaseHeld s) : ReleaseHeld (requestStep p c s) := by
  have delivered (q code payload) : ReleaseHeld (deliver q code payload s) := h.of_cover (by simp)
  unfold requestStep
  split
  · exact releaseHeld_takeHanded p c h
  · split
    · exact h
    · dsimp only
      split
      · exact releaseHeld_takeHanded p c (delivered ..)
      · exact delivered ..

theorem portStep_cover (c : Instr) (s : State) : (portStep c s).cover = s.cover := by
  unfold portStep; split <;> simp

/-! ### Restarts -/

theorem releaseHeld_replyEnd (p : PortId) (h : ReleaseHeld s) : ReleaseHeld (replyEnd p s) := by
  unfold replyEnd
  dsimp only
  split_ifs
  · exact h
  · exact releaseHeld_restartCover _
  · exact h

theorem releaseHeld_powerUp (a b c : BitVec 2) (s : State) : ReleaseHeld (powerUp a b c s) := by
  have records (r0 r1 r2 : Role) (set : Settings) : ReleaseHeld (powerOnRecords r0 r1 r2 set s) :=
    ⟨fun released => Bool.noConfusion released, fun released => Prog.noConfusion released⟩
  unfold powerUp
  dsimp only
  split
  · exact records ..
  · exact (records (roleOf a) (roleOf b) (roleOf c) (startSettings s.store)).of_cover (by simp)

/-! ### The step -/

theorem releaseHeld_outcomeStep (met : Bool) {t : State} (hs : ReleaseHeld s) (ht : ReleaseHeld t) :
    ReleaseHeld (outcomeStep met t s) := by
  unfold outcomeStep
  split <;> assumption

theorem releaseHeld_exec {t : State} (i : Instr) (h : ReleaseHeld s) (e : exec i s = .next t) : ReleaseHeld t := by
  have next {u : State} (hu : ReleaseHeld u) (e : (.next u : Host.Outcome State Fault Refusal) = .next t) :
      ReleaseHeld t := by
    injection e with e; exact e ▸ hu
  have water : ReleaseHeld (waterStep s) := h.of_cover (by simp [waterStep])
  have fade : ReleaseHeld (fadeStepAll s) := h.of_cover (by simp [fadeStepAll])
  have scan (x) := releaseHeld_scanStep x h
  cases i
  case powerOn a b c => exact next (releaseHeld_powerUp a b c s) e
  case receiveByte p d y x => exact next (h.of_cover (by simp)) e
  case lineQuietExpiry p => exact next (h.of_cover (by simp)) e
  case replySent p => exact next (releaseHeld_replyEnd p h) e
  case unknownRequest p c l => exact next (h.of_cover (portStep_cover ..)) e
  case writeItemReadOnly p k n l => exact next (h.of_cover (portStep_cover ..)) e
  case zeroSearchStep above => exact next (h.of_cover (searchExpiry_cover ..)) e
  case storeCompletion d => exact next (h.of_cover (by split <;> simp)) e
  case silenceTimerExpiry p => exact next (releaseHeld_silenceStep p h) e
  case channelScan x => exact next (scan x) e
  case channelFault n x => exact next (releaseHeld_outcomeStep _ h (scan x)) e
  case channelRecover n x => exact next (releaseHeld_outcomeStep _ h (scan x)) e
  case channelValid n x => exact next (releaseHeld_outcomeStep _ h (scan x)) e
  case climateComputation => exact next (releaseHeld_computeStep h) e
  case heatBlindDemand | moistureBlindDemand =>
    exact next (releaseHeld_outcomeStep _ h (releaseHeld_computeStep h)) e
  case waterAgeSecond => exact next water e
  case waterStale => exact next (releaseHeld_outcomeStep _ h water) e
  case allocationPass => exact next (h.of_cover (by simp [passStep])) e
  case sequencerSecond => exact next (h.of_cover (by simp [sequencerStep])) e
  case minOffExpiry k => exact next (h.of_cover (minOffStep_cover ..)) e
  case minOnExpiry k => exact next (h.of_cover (minOnStep_cover ..)) e
  case proofLossExpiry => exact next (h.of_cover (proofLossStep_cover s)) e
  case proofFailExpiry => exact next (h.of_cover (proofFailStep_cover s)) e
  case interlockOn => exact next (h.of_cover (interlockOnStep_cover s)) e
  case interlockOff => exact next (h.of_cover (interlockOffStep_cover s)) e
  case coverLimitChange => exact next (releaseHeld_coverLimitStep h) e
  case fanProofActive => exact next (h.of_cover (fanProofOnStep_cover s)) e
  case fanProofInactive => exact next (h.of_cover (fanProofOffStep_cover s)) e
  case cvpSecond => exact next (releaseHeld_cvpStep h) e
  case mismatchCountExpiry | travelCountExpiry | settleTimeMet | purgeComplete | restTimeMet | alertHoldMet
    | preopenTimeMet | permissionHoldMet | purgeStarved =>
    exact next (releaseHeld_outcomeStep _ h (releaseHeld_cvpStep h)) e
  case fadeTick => exact next fade e
  case fadeComplete g => exact next (releaseHeld_outcomeStep _ h fade) e
  case inputSample a b c => exact next (releaseHeld_sampleStep a b c h) e
  all_goals exact next (releaseHeld_requestStep _ _ h) e

end

/-- Settles O56: every command and every idle step keeps the permission with RELEASED. -/
theorem releaseOnlyInReleased : Obligations.ReleaseOnlyInReleased := by
  intro s t h e
  unfold step at e
  split at e
  · rename_i rest _
    exact releaseHeld_exec _ (s := { s with pending := rest }) h e
  · split at e
    · exact releaseHeld_exec _ h e
    · injection e with e
      exact e ▸ h.of_cover (by simp)

end Sys2Proof.Machine
end

section
/-! The cap record (R141 to R143): the grant bounds the applied draw, and what each operation of the Scene Controller
makes of the record. -/

namespace Sys2Proof.Machine

/-! ## The applied draw under a sound cap record -/

/-- R142: the limit brings the cap basis down to the grant. -/
theorem capBasis_mul_capLimitOf_le (l : Lighting) : capBasis l * capLimitOf l ≤ 1000 * l.grant := by
  unfold capLimitOf
  split
  · rename_i within
    omega
  · exact Nat.mul_div_le ..

/-- R140, R141: what a group draws above its floor under a cap is at most that share of its draw in flight. -/
theorem drawDown_appliedLevel_le (cap : Nat) (g : Group) :
    1000 * drawDown g.cfg.load (appliedLevel cap g - g.cfg.floor) ≤
      drawUp g.cfg.load (g.current - g.cfg.floor) * cap := by
  have above : appliedLevel cap g - g.cfg.floor = (g.current - g.cfg.floor) * cap / 1000 := Nat.add_sub_cancel_left ..
  rw [above, drawDown, drawUp]
  generalize g.current - g.cfg.floor = x
  generalize g.cfg.load = load
  have roundedUp : load * x ≤ 1000 * ((load * x + 999) / 1000) := by omega
  refine (Nat.mul_div_le ..).trans (Nat.le_of_mul_le_mul_left ?_ (show 0 < 1000 by decide))
  calc 1000 * (load * (x * cap / 1000))
      = load * (1000 * (x * cap / 1000)) := Nat.mul_left_comm ..
    _ ≤ load * (x * cap) := Nat.mul_le_mul_left _ (Nat.mul_div_le ..)
    _ = load * x * cap := (Nat.mul_assoc ..).symm
    _ ≤ 1000 * ((load * x + 999) / 1000) * cap := Nat.mul_le_mul_right _ roundedUp
    _ = 1000 * ((load * x + 999) / 1000 * cap) := Nat.mul_assoc ..

theorem appliedAbove_le_inFlightU {l : Lighting} (h : capSound l) :
    1000 * appliedAbove l ≤ inFlightU l * l.appliedCap := by
  obtain ⟨-, -, applied⟩ := h
  unfold appliedAbove inFlightU sumGroups
  rw [← List.sum_map_mul_left, ← List.sum_map_mul_right]
  refine List.sum_le_sum fun g mem => ?_
  obtain ⟨i, below, at_i⟩ := Vector.mem_iff_getElem.1 (Vector.mem_toList_iff.1 mem)
  have level : g.applied = appliedLevel l.appliedCap g := at_i ▸ applied ⟨i, below⟩
  rw [level]
  exact drawDown_appliedLevel_le ..

/-- R142, R143: while the cap record is sound the lighting draws no more above its floors than it was granted. -/
theorem appliedAbove_le_grant {l : Lighting} (h : capSound l) : appliedAbove l ≤ l.grant := by
  have draw := appliedAbove_le_inFlightU h
  obtain ⟨limit, below, -⟩ := h
  refine Nat.le_of_mul_le_mul_left (draw.trans ?_) (show 0 < 1000 by decide)
  calc inFlightU l * l.appliedCap
      ≤ capBasis l * capLimitOf l := Nat.mul_le_mul (Nat.le_max_right ..) (limit ▸ below)
    _ ≤ 1000 * l.grant := capBasis_mul_capLimitOf_le l

/-! ## Operations of the Scene Controller -/

section
variable {s t : State}

theorem CapHeld.of_light (h : CapHeld s) (light : t.light = s.light) : CapHeld t := by
  rw [CapHeld, light]; exact h

theorem capSound_retarget (duration : Group → Option Layer → Nat) (l : Lighting) : capSound (retarget duration l) :=
  evalCap_sound _

theorem capSound_retargetFade (fade : Nat) (l : Lighting) : capSound (retargetFade fade l) := capSound_retarget ..

/-- R142: an operation that ends with an evaluation of the cap leaves its record sound, whatever it was before. -/
theorem capHeld_modLight {f : Lighting → Lighting} (sound : ∀ l, capSound (f l)) (s : State) :
    CapHeld (modLight f s) := sound s.light

theorem capHeld_silenceLayer (k : Layer) (h : CapHeld s) : CapHeld (silenceLayer k s) := by
  unfold silenceLayer
  split
  · exact h
  · exact capHeld_modLight (fun _ => capSound_retargetFade ..) _

theorem capHeld_lightModeEvent (m : Mode) (h : CapHeld s) : CapHeld (lightModeEvent m s) := by
  rw [CapHeld, lightModeEvent_light]
  split
  · exact h
  · exact capSound_retarget ..

theorem capHeld_fillSafety (s : State) : CapHeld (fillSafety s) :=
  capHeld_modLight (fun _ => capSound_retargetFade ..) s

theorem capHeld_emptySafety (h : CapHeld s) : CapHeld (emptySafety s) := by
  unfold emptySafety
  split
  · exact h
  · exact capHeld_modLight (fun _ => capSound_retargetFade ..) _

theorem capSound_writeGroup (i : GroupId) (load floor : Nat) (l : Lighting) : capSound (writeGroup i load floor l) := by
  unfold writeGroup
  dsimp only
  split_ifs
  · exact evalCap_sound _
  · exact capSound_retargetFade ..
  · exact capSound_retarget ..

/-- R130: a scene that stands in no layer is replaced without a change of target. -/
theorem capHeld_editScene (n : Fin 32) (new : Scene) (h : CapHeld s) : CapHeld (editScene n new s) := by
  unfold editScene
  dsimp only
  split
  · exact h
  · exact capHeld_modLight (fun _ => capSound_retargetFade ..) _

theorem capSound_powerOnLight (set : Settings) : capSound (powerOnLight set) := by
  unfold powerOnLight startScene
  split
  · exact capSound_retargetFade ..
  · dsimp only
    split <;> exact capSound_retargetFade ..

theorem capHeld_allocate (s : State) : CapHeld (allocate s) := by
  rw [CapHeld, allocate_light]; exact evalCap_sound _

end

end Sys2Proof.Machine
end

section
/-! What each command does to the cap record (R141 to R143). -/

namespace Sys2Proof.Machine

section
variable {s : State}

/-! ## Requests -/

theorem capHeld_changeMode (m : Mode) (h : CapHeld s) : CapHeld (changeMode m s) := by
  rw [CapHeld, changeMode_light]
  exact capHeld_lightModeEvent m h

theorem capHeld_ownSetModeHall (mode target : Byte) (h : CapHeld s) : CapHeld (ownSetModeHall mode target s).1 := by
  unfold ownSetModeHall
  split
  · exact h
  · split_ifs
    · exact h
    · exact h
    · exact h
    · exact capHeld_changeMode _ h

theorem capHeld_ownRecallLayer (role : Role) (n target : Byte) (h : CapHeld s) :
    CapHeld (ownRecallLayer role n target s).1 := by
  unfold ownRecallLayer
  split
  · exact h
  · split
    · exact h
    · dsimp only
      split_ifs
      · exact h
      · exact h
      · exact h
      · exact capHeld_modLight (fun _ => capSound_retargetFade ..) _

theorem capHeld_ownRelease (role : Role) (h : CapHeld s) : CapHeld (ownRelease role s).1 := by
  unfold ownRelease
  split
  · exact h
  · split
    · exact h
    · exact capHeld_modLight (fun _ => capSound_retargetFade ..) _

theorem capHeld_ownRecallStart (n : Byte) (h : CapHeld s) : CapHeld (ownRecallStart n s).1 := by
  unfold ownRecallStart
  split_ifs <;> exact h

theorem capHeld_ownRecallSafety (n : Byte) (h : CapHeld s) : CapHeld (ownRecallSafety n s).1 := by
  unfold ownRecallSafety
  split_ifs <;> exact h

theorem capHeld_ownWriteGroup (n : Byte) (load floor : Half) (h : CapHeld s) :
    CapHeld (ownWriteGroup n load floor s).1 := by
  unfold ownWriteGroup
  split
  · exact h
  · split
    · exact h
    · exact capSound_writeGroup ..

theorem capHeld_ownWriteScene (n flags : Byte) (fade : Half) (modes : Byte) (ps : List (Byte × Half)) (h : CapHeld s) :
    CapHeld (ownWriteScene n flags fade modes ps s).1 := by
  unfold ownWriteScene
  dsimp only
  split
  · exact h
  · split_ifs
    · exact h
    · exact h
    · exact capHeld_editScene _ _ h

/-- Of the owners only the Scene Controller and the hall mode reach the lighting. -/
theorem capHeld_ownerServe (c : Instr) (h : CapHeld s) : CapHeld (ownerServe c s).1 := by
  cases c
  case writeItemGroup p n load floor => exact capHeld_ownWriteGroup n load floor h
  case writeItemScene p n flags fade modes ps => exact capHeld_ownWriteScene n flags fade modes ps h
  case setModeHall p m t => exact capHeld_ownSetModeHall m t h
  case recallLayer p n t => exact capHeld_ownRecallLayer _ n t h
  case recallStart p n => exact capHeld_ownRecallStart n h
  case recallSafety p n => exact capHeld_ownRecallSafety n h
  case release p => exact capHeld_ownRelease _ h
  all_goals exact h.of_light (by simp [ownerServe])

theorem capHeld_takeHanded (p : PortId) (c : Instr) (h : CapHeld s) : CapHeld (takeHanded p c s) :=
  (capHeld_ownerServe c h).of_light (by simp [takeHanded])

theorem capHeld_requestStep (p : PortId) (c : Instr) (h : CapHeld s) : CapHeld (requestStep p c s) := by
  have delivered (q code payload) : CapHeld (deliver q code payload s) := h.of_light (by simp)
  unfold requestStep
  split
  · exact capHeld_takeHanded p c h
  · split
    · exact h
    · dsimp only
      split
      · exact capHeld_takeHanded p c (delivered ..)
      · exact delivered ..

/-! ## Restarts -/

theorem capHeld_answerInService (p : PortId) (h : CapHeld s) : CapHeld (answerInService p s) := by
  unfold answerInService
  split
  · exact capHeld_takeHanded p _ h
  · exact h

/-- R155: the requests in service at a warm restart are answered one after the other. -/
theorem capHeld_answerAll (h : CapHeld s) : CapHeld (answerAll s) := by
  have answers (ps : List PortId) {s : State} (h : CapHeld s) :
      CapHeld (ps.foldl (fun acc p => answerInService p acc) s) := by
    induction ps generalizing s with
    | nil => exact h
    | cons p ps ih => exact ih (capHeld_answerInService p h)
  unfold answerAll
  split
  · exact h
  · exact capHeld_answerInService _ h
  · exact answers _ (s := { s with freeSeq := s.freeSeq + 1 }) h

theorem restartCover_light (s : State) : (restartCover s).light = s.light := by
  unfold restartCover
  dsimp only
  (repeat' split) <;> simp

theorem restartChannels_light (s : State) : (restartChannels s).light = s.light := by
  unfold restartChannels
  split <;> simp

/-- R171: of a warm restart only the requests it first answers reach the lighting. -/
theorem warmRestart_light (s : State) : (warmRestart s).light = (answerAll s).light :=
  (restartCover_light _).trans (restartChannels_light _)

theorem capHeld_replyEnd (p : PortId) (h : CapHeld s) : CapHeld (replyEnd p s) := by
  have ended (q : Port) : CapHeld (setPort p q s) := h.of_light (by simp)
  unfold replyEnd
  dsimp only
  split_ifs
  · exact h
  · exact (capHeld_answerAll (ended _)).of_light (warmRestart_light _)
  · exact ended _

theorem capHeld_powerUp (a b c : BitVec 2) (s : State) : CapHeld (powerUp a b c s) := by
  have records (r0 r1 r2 : Role) (set : Settings) : CapHeld (powerOnRecords r0 r1 r2 set s) := capSound_powerOnLight set
  unfold powerUp
  dsimp only
  split
  · exact records ..
  · exact (records (roleOf a) (roleOf b) (roleOf c) (startSettings s.store)).of_light (by simp)

/-! ## Silence, INTERLOCK and the fade tick -/

/-- R157: at the absence of POOL and of LIGHTING their layers are emptied. -/
theorem capHeld_roleSilent (role : Role) (h : CapHeld s) : CapHeld (roleSilent role s) := by
  cases role
  case pool => exact capHeld_silenceLayer .work (h.of_light (by simp))
  case lighting => exact capHeld_silenceLayer .showing h
  case building | observer => exact h

theorem capHeld_silenceStep (p : PortId) (h : CapHeld s) : CapHeld (silenceStep p s) := by
  unfold silenceStep
  split
  · exact h
  · split
    · exact capHeld_roleSilent _ (h.of_light (by simp))
    · exact h

theorem capHeld_acceptInterlockOn (s : State) : CapHeld (acceptInterlockOn s) := capHeld_fillSafety _

theorem capHeld_acceptInterlockOff (h : CapHeld s) : CapHeld (acceptInterlockOff s) :=
  capHeld_emptySafety (h.of_light (interlockEnded_light s))

theorem capHeld_interlockOnStep (h : CapHeld s) : CapHeld (interlockOnStep s) := by
  unfold interlockOnStep
  split
  · exact h
  · exact capHeld_acceptInterlockOn _

theorem capHeld_interlockOffStep (h : CapHeld s) : CapHeld (interlockOffStep s) := by
  unfold interlockOffStep
  split
  · exact capHeld_acceptInterlockOff (h.of_light (by simp [atAccept]))
  · exact h

/-- R85: of the three inputs INTERLOCK alone reaches the lighting. -/
theorem capHeld_sampleStep (a b c : Bool) (h : CapHeld s) : CapHeld (sampleStep a b c s) := by
  have sampled {u : State} (h : CapHeld u) : CapHeld (sampleInterlock b u) := by
    unfold sampleInterlock
    split_ifs
    · exact capHeld_acceptInterlockOn _
    · exact capHeld_acceptInterlockOff h
    · exact h
  have beside (u : State) : (sampleInputs a b c u).light = (sampleInterlock b (sampleCover a u)).light := by
    rw [sampleInputs_eq]; simp
  exact (sampled (h.of_light (by simp))).of_light (beside _)

theorem capHeld_fadeStepAll (s : State) : CapHeld (fadeStepAll s) := tickCap_sound _

/-! ## Events beside the lighting -/

theorem capHeld_outcomeStep (met : Bool) {t : State} (hs : CapHeld s) (ht : CapHeld t) :
    CapHeld (outcomeStep met t s) := by
  unfold outcomeStep
  split <;> assumption

theorem minOffStep_light (i : CompId) (s : State) : (minOffStep i s).light = s.light := by
  unfold minOffStep; (repeat' split) <;> simp

theorem minOnStep_light (i : CompId) (s : State) : (minOnStep i s).light = s.light := by
  unfold minOnStep; (repeat' split) <;> simp

theorem proofLossStep_light (s : State) : (proofLossStep s).light = s.light := by
  unfold proofLossStep; split <;> simp

theorem proofFailStep_light (s : State) : (proofFailStep s).light = s.light := by
  unfold proofFailStep; split <;> simp

theorem fanProofOnStep_light (s : State) : (fanProofOnStep s).light = s.light := by
  unfold fanProofOnStep; split <;> simp [atAccept]

theorem fanProofOffStep_light (s : State) : (fanProofOffStep s).light = s.light := by
  unfold fanProofOffStep; split <;> simp [atAccept]

theorem coverLimitStep_light (s : State) : (coverLimitStep s).light = s.light := by simp [coverLimitStep, atAccept]

theorem searchExpiry_light (above : Bool) (s : State) : (searchExpiry above s).light = s.light := by
  unfold searchExpiry; split <;> simp

theorem portStep_light (c : Instr) (s : State) : (portStep c s).light = s.light := by
  unfold portStep; split <;> simp

theorem scanStep_light (x : Samples) (s : State) : (scanStep x s).light = s.light := by simp [scanStep]

theorem computeStep_light (s : State) : (computeStep s).light = s.light := by simp [computeStep]

theorem waterStep_light (s : State) : (waterStep s).light = s.light := by simp [waterStep]

theorem sequencerStep_light (s : State) : (sequencerStep s).light = s.light := by simp [sequencerStep]

theorem cvpStep_light (s : State) : (cvpStep s).light = s.light := by
  simp [cvpStep, atCvpSecond]

/-! ## The step -/

theorem capHeld_exec {t : State} (i : Instr) (h : CapHeld s) (e : exec i s = .next t) : CapHeld t := by
  have next {u : State} (hu : CapHeld u) (e : (.next u : Host.Outcome State Fault Refusal) = .next t) : CapHeld t := by
    injection e with e; exact e ▸ hu
  have kept {u : State} (light : u.light = s.light) := next (h.of_light light)
  have outcome (met : Bool) {u : State} (light : u.light = s.light) :=
    next (capHeld_outcomeStep met h (h.of_light light))
  cases i
  -- The lighting is formed again.
  case powerOn a b c => exact next (capHeld_powerUp a b c s) e
  case replySent p => exact next (capHeld_replyEnd p h) e
  case silenceTimerExpiry p => exact next (capHeld_silenceStep p h) e
  case allocationPass => exact next (capHeld_allocate _) e
  case interlockOn => exact next (capHeld_interlockOnStep h) e
  case interlockOff => exact next (capHeld_interlockOffStep h) e
  case inputSample a b c => exact next (capHeld_sampleStep a b c h) e
  case fadeTick => exact next (capHeld_fadeStepAll s) e
  case fadeComplete g => exact next (capHeld_outcomeStep _ h (capHeld_fadeStepAll s)) e
  -- The lighting stays as it is.
  case receiveByte p d y x => exact kept (by simp) e
  case lineQuietExpiry p => exact kept (by simp) e
  case unknownRequest p c l => exact kept (portStep_light ..) e
  case writeItemReadOnly p k n l => exact kept (portStep_light ..) e
  case zeroSearchStep above => exact kept (searchExpiry_light ..) e
  case storeCompletion d => exact kept (by split <;> simp) e
  case channelScan x => exact kept (scanStep_light x s) e
  case channelFault | channelRecover | channelValid => exact outcome _ (scanStep_light ..) e
  case climateComputation => exact kept (computeStep_light s) e
  case heatBlindDemand | moistureBlindDemand => exact outcome _ (computeStep_light s) e
  case waterAgeSecond => exact kept (waterStep_light s) e
  case waterStale => exact outcome _ (waterStep_light s) e
  case sequencerSecond => exact kept (sequencerStep_light s) e
  case minOffExpiry k => exact kept (minOffStep_light k s) e
  case minOnExpiry k => exact kept (minOnStep_light k s) e
  case proofLossExpiry => exact kept (proofLossStep_light s) e
  case proofFailExpiry => exact kept (proofFailStep_light s) e
  case coverLimitChange => exact kept (coverLimitStep_light s) e
  case fanProofActive => exact kept (fanProofOnStep_light s) e
  case fanProofInactive => exact kept (fanProofOffStep_light s) e
  case cvpSecond => exact kept (cvpStep_light s) e
  case mismatchCountExpiry | travelCountExpiry | settleTimeMet | purgeComplete | restTimeMet | alertHoldMet
    | preopenTimeMet | permissionHoldMet | purgeStarved => exact outcome _ (cvpStep_light s) e
  -- The requests.
  all_goals exact next (capHeld_requestStep _ _ h) e

end

theorem capHeld_step {s t : State} (h : CapHeld s) (e : step s = .next t) : CapHeld t := by
  unfold step at e
  split at e
  · rename_i rest _
    exact capHeld_exec _ (s := { s with pending := rest }) h e
  · split at e
    · exact capHeld_exec _ h e
    · injection e with e
      exact e ▸ h.of_light (by simp)

/-- Settles O57: every command and every idle step keeps the cap record sound, and a sound one bounds the draw. -/
theorem capRecordStaysSound : Obligations.CapRecordStaysSound :=
  ⟨fun _ _ => capHeld_step, fun _ => appliedAbove_le_grant⟩

end Sys2Proof.Machine
end

section
/-! The fade tick (R139, R141, R143). -/

namespace Sys2Proof.Machine

/-! ## One fade (R139) -/

section
variable {a : Group} {f : Fade}

theorem fadeStep_keeps (a : Group) :
    (fadeStep a).cfg = a.cfg ∧ (fadeStep a).target = a.target ∧ (fadeStep a).source = a.source := by
  unfold fadeStep
  split
  · exact ⟨rfl, rfl, rfl⟩
  · dsimp only
    split <;> exact ⟨rfl, rfl, rfl⟩

theorem fadeStep_of_none (still : a.fade = none) : fadeStep a = a := by
  simp only [fadeStep, still]

theorem fadeStep_of_running (runs : a.fade = some f) (before : f.elapsed + 1 < f.duration) : fadeStep a =
    { a with
      current := fadeLevel f.start a.target (f.elapsed + 1) f.duration
      fade := some { f with elapsed := f.elapsed + 1 } } := by
  simp only [fadeStep, runs, if_neg (Nat.not_le.2 before)]

theorem fadeStep_of_ending (runs : a.fade = some f) (ends : f.duration ≤ f.elapsed + 1) :
    fadeStep a = { a with current := a.target, fade := none } := by
  simp only [fadeStep, runs, if_pos ends]

end

/-- R139: the level of a fade is its start and the truncated share of the way, and never below 0. -/
theorem fadeLevel_eq (start target elapsed duration : Nat) : (fadeLevel start target elapsed duration : Int) =
    max 0 (start + Int.tdiv (((target : Int) - start) * elapsed) duration) := by
  rw [fadeLevel, Int.ofNat_toNat, max_comm]

/-! ## The tick -/

theorem fadeTickLight_groups (l : Lighting) (g : GroupId) : (fadeTickLight l).groups[g] =
    { fadeStep l.groups[g] with applied := ((fadeTickLight l).groups[g]).applied } := by
  simp [fadeTickLight, tickCap, formApplied]

/-- R143: an applied cap above the limit falls to it at once, one below it rises by at most 20. -/
theorem fadeTickLight_appliedCap (l : Lighting) : (fadeTickLight l).appliedCap =
    if (fadeTickLight l).capLimit < l.appliedCap then (fadeTickLight l).capLimit
    else min (fadeTickLight l).capLimit (l.appliedCap + 20) := rfl

/-- The state of a fade tick when it is due. -/
def atFadeTick (s : State) : State :=
  { elapse s.timers.fade s with timers := { (elapse s.timers.fade s).timers with fade := 10 } }

theorem exec_fadeTick (s : State) :
    exec .fadeTick s = .next { atFadeTick s with light := fadeTickLight s.light } := by
  have light : (atFadeTick s).light = s.light := by simp [atFadeTick]
  rw [← light]
  rfl

/-- FADE_COMPLETE is the tick in which the fade of its group ends (log 16). -/
theorem exec_fadeComplete {g : GroupId} {s : State} {f : Fade} (runs : s.light.groups[g].fade = some f)
    (ends : f.duration ≤ f.elapsed + 1) : exec (.fadeComplete g) s = exec .fadeTick s := by
  have done : fadeDone g s = true := by simp only [fadeDone, runs, ends, decide_true]
  exact congrArg Host.Outcome.next (if_pos done)

/-- Settles O53: each group by its fade, then the cap. -/
theorem fadeTickMovesEveryFade : Obligations.FadeTickMovesEveryFade := by
  intro s
  refine ⟨_, exec_fadeTick s, rfl, tickCap_sound _, rfl, rfl, rfl, fun within => ?_, fun above => ?_, fun g => ?_⟩
  · exact (fadeTickLight_appliedCap s.light).trans (if_neg (Nat.not_lt.2 within))
  · exact (fadeTickLight_appliedCap s.light).trans (if_pos above)
  have group := fadeTickLight_groups s.light g
  obtain ⟨cfg, target, source⟩ := fadeStep_keeps s.light.groups[g]
  dsimp only
  rw [group]
  refine ⟨cfg, target, source, fun still => ?_, fun f runs before => ?_, fun f runs ends => ?_⟩
  · rw [fadeStep_of_none still]
    exact ⟨rfl, still⟩
  · rw [fadeStep_of_running runs before]
    exact ⟨rfl, fadeLevel_eq ..⟩
  · rw [fadeStep_of_ending runs ends]
    exact ⟨rfl, rfl, (exec_fadeComplete runs ends).trans (exec_fadeTick s)⟩

end Sys2Proof.Machine
end

section
/-! RECALL with target LAYER and RELEASE (R132, R133). -/

namespace Sys2Proof.Machine

/-- R137, R138: a layer that takes or loses its scene, with one fade time for every group that changes. -/
theorem retargetFade_setLayer (fade : Nat) (k : Layer) (v : Option Standing) (l : Lighting) :
    Retargeted fade l (retargetFade fade { l with layers := setLayer k v l.layers }) :=
  retarget_retargetedBy (fun _ _ => fade) l (setLayer k v l.layers)

/-! ## RECALL (R132) -/

theorem exec_recallLayer {p : PortId} {n target : Byte} {s t : State} {r : Result}
    (h : Served s p (.recallLayer p n target)) (own : ownRecallLayer s.ports[p].role n target s = (t, answer r)) :
    exec (.recallLayer p n target) s = .next (reply p 0x30 r t) :=
  congrArg _ (requestStep_of_answer h own)

theorem ownRecallLayer_of_role {role : Role} {k : Layer} (own : layerOfRole role = some k) (n : Byte) (s : State) :
    ownRecallLayer role n 0 s =
      if 31 < n.toNat then refuse .badItem s
      else if (sceneAt s.light n.toNat).defined = false then refuse .badItem s
      else if permits (sceneAt s.light n.toNat).modes s.mode.mode = false then refuse .notInMode s
      else
        (modLight (fun l => retargetFade (sceneAt s.light n.toNat).fade
          { l with layers := setLayer k (some ⟨n.toNat, s.pt⟩) l.layers }) s, answer .ok) := by
  rw [ownRecallLayer, if_neg (by decide), own]

/-! ## RELEASE (R133) -/

theorem exec_release {p : PortId} {s t : State} {r : Result} (h : Served s p (.release p))
    (own : ownRelease s.ports[p].role s = (t, answer r)) : exec (.release p) s = .next (reply p 0x31 r t) :=
  congrArg _ (requestStep_of_answer h own)

/-- Settles O30: the refusals in their order, and the layer of the sender filled or emptied. -/
theorem recallAndReleaseFormTheTargets : Obligations.RecallAndReleaseFormTheTargets := by
  refine ⟨fun p n target k s served own => ?_, fun p k s served own => ⟨fun empty => ?_, fun st standing => ?_⟩⟩
  · have recalled := ownRecallLayer_of_role own n s
    refine ⟨fun bad => exec_recallLayer served (if_pos bad), ?_, ?_, ?_⟩ <;> rintro rfl
    · intro missing
      refine exec_recallLayer served (recalled.trans ?_)
      rcases missing with beyond | undefined
      · exact if_pos beyond
      · rw [if_pos undefined, ite_self]; rfl
    · intro number defined closed
      refine exec_recallLayer served (recalled.trans ?_)
      rw [if_neg (Nat.not_lt.2 number), if_neg (by simp [defined]), if_pos closed]; rfl
    · intro number defined permitted
      refine ⟨_, exec_recallLayer served (recalled.trans ?_), rfl, retargetFade_setLayer ..⟩
      rw [if_neg (Nat.not_lt.2 number), if_neg (by simp [defined]), if_neg (by simp [permitted])]; rfl
  · exact exec_release served (by simp only [ownRelease, own, empty])
  · refine ⟨_, exec_release served ?_, rfl, retargetFade_setLayer ..⟩
    simp only [ownRelease, own, standing]; rfl

end Sys2Proof.Machine
end

section
/-! WRITE_ITEM of class GROUP (R126, R127). -/

namespace Sys2Proof.Machine

/-! ## One group replaced -/

/-- The lighting with the record of group i replaced, before its targets are formed again. -/
def withGroup (i : GroupId) (h : Group) (l : Lighting) : Lighting := { l with groups := l.groups.set i h }

theorem withGroup_self (i : GroupId) (h : Group) (l : Lighting) : (withGroup i h l).groups[i] = h := by
  simp [withGroup]

theorem withGroup_other {i g : GroupId} (other : g ≠ i) (h : Group) (l : Lighting) :
    (withGroup i h l).groups[g] = l.groups[g] := by
  have apart : i.val ≠ g.val := fun same => other (Fin.ext same.symm)
  simp [withGroup, apart]

theorem resolve_withGroup (i : GroupId) (h : Group) (l : Lighting) (g : Nat) :
    resolve (withGroup i h l) g = resolve l g := resolve_congr rfl rfl g

/-- R127: the model and the statement look the fade time of a source layer up in the same scene. -/
theorem sourceFade_eq_fallFade (l : Lighting) (source : Option Layer) : sourceFade l source = fallFade l source := by
  cases source with
  | none => rfl
  | some k =>
    cases standing : getLayer l.layers k with
    | none => simp [sourceFade, fallFade, standing]
    | some st =>
      simp only [sourceFade, fallFade, standing, Option.bind_some, Option.map_some]
      by_cases safety : k = .safety
      · cases defined : (sceneAt l st.scene).defined <;> simp [safety, safetyFade, defined]
      · simp [safety]

/-! ## The write, by the floor -/

section
variable {i : GroupId} {load floor : Nat} {l : Lighting}

theorem writeGroup_of_same (same : floor = l.groups[i].cfg.floor) : writeGroup i load floor l =
    evalCap (withGroup i { l.groups[i] with cfg := ⟨load, floor⟩ } l) := if_pos same

/-- R127: a raised floor lifts the level and the start of a running fade (log 12); a target it lifts is reached at
once. -/
theorem writeGroup_of_raised (raised : l.groups[i].cfg.floor < floor) : RetargetedBy (fun _ => 0)
    (withGroup i { l.groups[i] with
      cfg := ⟨load, floor⟩, current := max l.groups[i].current floor
      fade := l.groups[i].fade.map fun f => { f with start := max f.start floor } } l)
    (writeGroup i load floor l) := by
  have formed : writeGroup i load floor l =
      retargetFade 0 (withGroup i { raiseFloor floor l.groups[i] with cfg := ⟨load, floor⟩ } l) :=
    (if_neg (by omega)).trans (if_pos raised)
  rw [formed]
  exact retarget_retargetedBy (fun _ _ => 0) (withGroup i _ l) l.layers

/-- R127: at a lowered floor a target falls with the fade time of its source layer. -/
theorem writeGroup_of_lowered (lowered : floor < l.groups[i].cfg.floor) :
    RetargetedBy (fun g => fallFade l (resolve l g).2) (withGroup i { l.groups[i] with cfg := ⟨load, floor⟩ } l)
      (writeGroup i load floor l) := by
  generalize hl1 : withGroup i { l.groups[i] with cfg := ⟨load, floor⟩ } l = l1
  have formed : writeGroup i load floor l = retarget (fun _ src => sourceFade l1 src) l1 := by
    rw [← hl1]
    exact (if_neg (by omega)).trans (if_neg (by omega))
  have fades (g : Nat) : fallFade l (resolve l g).2 = sourceFade l1 (resolve l1 g).2 := by
    rw [sourceFade_eq_fallFade, ← hl1, resolve_withGroup]; rfl
  simp only [fades]
  rw [formed]
  exact retarget_retargetedBy (fun _ src => sourceFade l1 src) l1 l1.layers

theorem writeGroup_keeps (i : GroupId) (load floor : Nat) (l : Lighting) :
    (writeGroup i load floor l).layers = l.layers ∧ (writeGroup i load floor l).scenes = l.scenes ∧
      (writeGroup i load floor l).grant = l.grant := by
  unfold writeGroup
  dsimp only
  split_ifs <;> exact ⟨rfl, rfl, rfl⟩

/-- R127: at a changed floor the targets of all groups are formed again. -/
theorem writeGroup_of_changed (changed : floor ≠ l.groups[i].cfg.floor) : ∃ dur h, h.cfg = ⟨load, floor⟩ ∧
    RetargetedBy dur (withGroup i h l) (writeGroup i load floor l) := by
  rcases Nat.lt_or_gt_of_ne changed with lowered | raised
  · exact ⟨_, _, rfl, writeGroup_of_lowered lowered⟩
  · exact ⟨_, _, rfl, writeGroup_of_raised raised⟩

theorem writeGroup_cfg (i : GroupId) (load floor : Nat) (l : Lighting) :
    (writeGroup i load floor l).groups[i].cfg = ⟨load, floor⟩ ∧
      ∀ g : GroupId, g ≠ i → (writeGroup i load floor l).groups[g].cfg = l.groups[g].cfg := by
  by_cases same : floor = l.groups[i].cfg.floor
  · rw [writeGroup_of_same same]
    simp only [evalCap_groups]
    exact ⟨by rw [withGroup_self], fun g other => by rw [withGroup_other other]⟩
  · obtain ⟨dur, h, cfg, -, -, -, -, -, -, groups⟩ := writeGroup_of_changed same
    refine ⟨?_, fun g other => ?_⟩
    · obtain ⟨kept, -⟩ := groups i
      rw [kept, withGroup_self, cfg]
    · obtain ⟨kept, -⟩ := groups g
      rw [kept, withGroup_other other]

/-- R127: an unchanged floor moves no target, level or fade. -/
theorem writeGroup_still (same : floor = l.groups[i].cfg.floor) (g : GroupId) :
    (writeGroup i load floor l).groups[g].target = l.groups[g].target ∧
      (writeGroup i load floor l).groups[g].source = l.groups[g].source ∧
      (writeGroup i load floor l).groups[g].current = l.groups[g].current ∧
      (writeGroup i load floor l).groups[g].fade = l.groups[g].fade := by
  rw [writeGroup_of_same same, evalCap_groups]
  by_cases written : g = i
  · subst written
    rw [withGroup_self]
    exact ⟨rfl, rfl, rfl, rfl⟩
  · rw [withGroup_other written]
    exact ⟨rfl, rfl, rfl, rfl⟩

theorem writeGroup_target (changed : floor ≠ l.groups[i].cfg.floor) (g : GroupId) :
    (writeGroup i load floor l).groups[g].target =
      max (resolve l g).1 (writeGroup i load floor l).groups[g].cfg.floor := by
  obtain ⟨layers, scenes, -⟩ := writeGroup_keeps i load floor l
  obtain ⟨dur, h, -, -, -, -, -, -, -, groups⟩ := writeGroup_of_changed (load := load) changed
  obtain ⟨cfg, target, -⟩ := groups g
  rw [target, cfg, resolve_congr layers scenes]

/-- R127: at a changed floor another group whose target is what its layers call for does not move. -/
theorem writeGroup_other (changed : floor ≠ l.groups[i].cfg.floor) {g : GroupId} (other : g ≠ i)
    (settled : l.groups[g].target = max (resolve l g).1 l.groups[g].cfg.floor) :
    (writeGroup i load floor l).groups[g].target = l.groups[g].target ∧
      (writeGroup i load floor l).groups[g].current = l.groups[g].current ∧
      (writeGroup i load floor l).groups[g].fade = l.groups[g].fade := by
  have target : (writeGroup i load floor l).groups[g].target = l.groups[g].target := by
    obtain ⟨-, cfg⟩ := writeGroup_cfg i load floor l
    rw [writeGroup_target changed, cfg g other, settled]
  obtain ⟨dur, h, -, -, -, -, -, -, -, groups⟩ := writeGroup_of_changed (load := load) changed
  obtain ⟨-, -, -, kept, -⟩ := groups g
  rw [withGroup_other other] at kept
  exact ⟨target, kept target⟩

/-- R127: after a raised floor the level of the group is not below it. -/
theorem writeGroup_raised_current (raised : l.groups[i].cfg.floor < floor) :
    floor ≤ (writeGroup i load floor l).groups[i].current := by
  obtain ⟨-, -, -, -, -, -, groups⟩ := writeGroup_of_raised (load := load) raised
  obtain ⟨-, target, -, kept, new⟩ := groups i
  rw [withGroup_self] at target kept new
  by_cases same : (writeGroup i load floor l).groups[i].target = l.groups[i].target
  · obtain ⟨current, -⟩ := kept same
    rw [current]
    exact Nat.le_max_right ..
  · obtain ⟨current, -⟩ := new same
    rw [current, target]
    exact Nat.le_max_right ..

/-- R127: at a lowered floor the level of the group stays where its target does. -/
theorem writeGroup_lowered_current (lowered : floor < l.groups[i].cfg.floor)
    (same : l.groups[i].target = (writeGroup i load floor l).groups[i].target) :
    (writeGroup i load floor l).groups[i].current = l.groups[i].current := by
  obtain ⟨-, -, -, -, -, -, groups⟩ := writeGroup_of_lowered (load := load) lowered
  obtain ⟨-, -, -, kept, -⟩ := groups i
  rw [withGroup_self] at kept
  obtain ⟨current, -⟩ := kept same.symm
  exact current

end

/-! ## The request -/

theorem exec_writeItemGroup {p : PortId} {n : Byte} {load floor : Half} {s t : State} {r : Result}
    (h : Served s p (.writeItemGroup p n load floor)) (own : ownWriteGroup n load floor s = (t, answer r)) :
    exec (.writeItemGroup p n load floor) s = .next (reply p 3 r t) :=
  congrArg _ (requestStep_of_answer h own)

/-- Settles O23: two refusals, then the write by the floor it brings. -/
theorem groupWriteActsAtOnce : Obligations.GroupWriteActsAtOnce := by
  intro p n load floor s served
  refine ⟨fun beyond => exec_writeItemGroup served ?_,
    fun i number => ⟨fun busy => exec_writeItemGroup served ?_, fun idle => ?_⟩⟩
  · rw [ownWriteGroup, indexBelow_eq_none beyond]; rfl
  · rw [ownWriteGroup, indexBelow_eq_some i number]; exact if_pos busy
  intro fl g0 cfg moved
  obtain ⟨layers, scenes, grant⟩ := writeGroup_keeps i (min load.toNat 2000) fl s.light
  obtain ⟨written, others⟩ := writeGroup_cfg i (min load.toNat 2000) fl s.light
  refine ⟨modLight (writeGroup i (min load.toNat 2000) fl) s, exec_writeItemGroup served ?_, rfl,
    capSound_writeGroup .., layers, scenes, grant, written, others, fun same g => ?_, writeGroup_target,
    writeGroup_raised_current, writeGroup_lowered_current, fun same g => ?_, writeGroup_of_raised,
    writeGroup_of_lowered, fun changed g other => writeGroup_other changed other⟩
  · rw [ownWriteGroup, indexBelow_eq_some i number]
    dsimp only
    rw [if_neg (by simp [idle]), okOrClamped_eq _ (load.toNat ≤ 2000 ∧ floor.toNat ≤ 1000) (by simp; omega)]
  · obtain ⟨target, -, current, fade⟩ := writeGroup_still (load := min load.toNat 2000) same g
    exact ⟨target, current, fade⟩
  · obtain ⟨-, source, -⟩ := writeGroup_still (load := min load.toNat 2000) same g
    exact source

end Sys2Proof.Machine
end

section
/-! WRITE_ITEM of class SCENE (R129, R130, R138). -/

namespace Sys2Proof.Machine

/-! ## The scene written (R129) -/

/-- Neighbours in ascending order make the whole list ascend. -/
theorem zip_drop_one_all_lt_iff (ns : List Nat) :
    ((ns.zip (ns.drop 1)).all fun q => decide (q.1 < q.2)) = true ↔ ns.Pairwise (· < ·) := by
  rw [← List.isChain_iff_pairwise]
  induction ns with
  | nil => simp
  | cons n ns ih =>
    cases ns with
    | nil => simp
    | cons m ns => simpa using fun _ => ih

/-- R129: the structural test of a level list, as the statement says it. -/
theorem levelsGood_iff (levels : List (Nat × Nat)) : levelsGood levels = true ↔
    levels.length ≤ 16 ∧ (∀ x ∈ levels, x.1 < 16 ∧ x.2 ≤ 1000) ∧ (levels.map Prod.fst).Pairwise (· < ·) := by
  rw [levelsGood, Bool.and_eq_true, zip_drop_one_all_lt_iff]
  simp [and_assoc]

/-! ## The layers it stands in (R130) -/

/-- The scene with number n stands in some layer. -/
def Shown (l : Lighting) (n : Nat) : Prop := ∃ k : Layer, ∃ st, getLayer l.layers k = some st ∧ st.scene = n

theorem standsAnywhere_iff (l : Lighting) (n : Nat) : standsAnywhere l n = true ↔ Shown l n := by
  have listed (k : Layer) : k ∈ [Layer.base, .showing, .work, .safety] := by cases k <;> decide
  rw [standsAnywhere, List.any_eq_true]
  constructor
  · rintro ⟨k, -, found⟩
    split at found
    · rename_i st standing
      exact ⟨k, st, standing, of_decide_eq_true found⟩
    · exact Bool.noConfusion found
  · rintro ⟨k, st, standing, same⟩
    exact ⟨k, listed k, by simp only [standing, same, decide_true]⟩

theorem standsInSafety_iff (l : Lighting) (n : Nat) :
    standsInSafety l n = true ↔ ∃ st, l.layers.safety = some st ∧ st.scene = n := by
  cases safety : l.layers.safety <;> simp [standsInSafety, safety]

theorem sceneAt_of_index (l : Lighting) (n : Fin 32) : sceneAt l n.val = l.scenes[n] := by
  simp [sceneAt]

/-! ## The edit (R130) -/

/-- R130: the scene n may no longer stand beside SAFETY once `new` replaces it. -/
def unfit (n : Fin 32) (new : Scene) (m : Mode) (x : Nat) : Bool :=
  decide (x = n.val) && !(new.defined && permits new.modes m)

section
variable {n : Fin 32} {new : Scene} {s : State}

theorem editScene_of_absent (absent : ¬Shown s.light n.val) :
    editScene n new s = { s with light := { s.light with scenes := s.light.scenes.set n new } } := by
  have nowhere : standsAnywhere s.light n.val = false :=
    Bool.eq_false_iff.2 fun h => absent ((standsAnywhere_iff ..).1 h)
  exact if_pos nowhere

theorem editScene_of_shown (shown : Shown s.light n.val) : editScene n new s =
    modLight (fun l => retargetFade (editFade s.light n.val new)
      { l with
        scenes := l.scenes.set n new
        layers := dropLayers (rejected s.light (unfit n new s.mode.mode)) l.layers })
      (postAllReleased (rejected s.light (unfit n new s.mode.mode)) s) := by
  have somewhere : standsAnywhere s.light n.val = true := (standsAnywhere_iff ..).2 shown
  exact if_neg (by simp [somewhere])

theorem editScene_light_of_shown (shown : Shown s.light n.val) : (editScene n new s).light =
    retargetFade (editFade s.light n.val new)
      { s.light with
        scenes := s.light.scenes.set n new
        layers := dropLayers (rejected s.light (unfit n new s.mode.mode)) s.light.layers } := by
  rw [editScene_of_shown shown, modLight_light]
  simp only [postAllReleased_frame]

theorem editScene_scenes (n : Fin 32) (new : Scene) (s : State) :
    (editScene n new s).light.scenes = s.light.scenes.set n new := by
  by_cases shown : Shown s.light n.val
  · rw [editScene_light_of_shown shown]; rfl
  · rw [editScene_of_absent shown]

/-- R130: beside SAFETY a layer loses the scene that may no longer stand in it. -/
theorem editScene_layers (n : Fin 32) (new : Scene) (s : State) : (editScene n new s).light.layers =
    dropLayers (rejected s.light (unfit n new s.mode.mode)) s.light.layers := by
  by_cases shown : Shown s.light n.val
  · rw [editScene_light_of_shown shown]; rfl
  · have kept : rejected s.light (unfit n new s.mode.mode) = [] := by
      refine rejected_eq_nil_iff.2 fun k _ st standing => ?_
      have another : st.scene ≠ n.val := fun same => shown ⟨k, st, standing, same⟩
      simp [unfit, another]
    rw [editScene_of_absent shown, kept]
    rfl

theorem editScene_layer (n : Fin 32) (new : Scene) (s : State) {k : Layer} (beside : k ≠ .safety) :
    getLayer (editScene n new s).light.layers k =
      match getLayer s.light.layers k with
      | some st =>
        if st.scene = n.val ∧ ¬(new.defined = true ∧ permits new.modes s.mode.mode = true) then none else some st
      | none => none := by
  rw [editScene_layers, getLayer_dropLayers_rejected s.light _ beside]
  cases getLayer s.light.layers k with
  | none => rfl
  | some st =>
    have leaves : unfit n new s.mode.mode st.scene = true ↔
        st.scene = n.val ∧ ¬(new.defined = true ∧ permits new.modes s.mode.mode = true) := by
      cases defined : new.defined <;> simp [unfit, defined]
    simp only [Option.filter_some, ← leaves]
    cases unfit n new s.mode.mode st.scene <;> rfl

/-- R130, R138: every target is formed again with the fade time of the edit. -/
theorem editScene_retargeted (shown : Shown s.light n.val) :
    Retargeted (editFade s.light n.val new) { s.light with scenes := (editScene n new s).light.scenes }
      (editScene n new s).light := by
  rw [editScene_scenes, editScene_light_of_shown shown]
  exact retarget_retargetedBy (fun _ _ => editFade s.light n.val new)
    { s.light with scenes := s.light.scenes.set n new } (dropLayers (rejected s.light (unfit n new s.mode.mode)) _)

theorem editScene_ports_of_shown (shown : Shown s.light n.val) : (editScene n new s).ports =
    (postAllReleased (rejected s.light (unfit n new s.mode.mode)) s).ports := by
  rw [editScene_of_shown shown]; rfl

theorem editScene_touches (n : Fin 32) (new : Scene) (s : State) :
    editScene n new s = { s with light := (editScene n new s).light, ports := (editScene n new s).ports } := by
  have frame := editScene_frame n new s
  generalize editScene n new s = t at frame
  cases t
  simpa using frame

end

/-- R138: the fade time of an edit. -/
theorem editFade_cases (l : Lighting) (n : Fin 32) (new : Scene) :
    (new.defined = true → editFade l n.val new = new.fade) ∧
      (new.defined = false → (∃ st, l.layers.safety = some st ∧ st.scene = n.val) → editFade l n.val new = 0) ∧
      (new.defined = false → (¬∃ st, l.layers.safety = some st ∧ st.scene = n.val) →
        editFade l n.val new = l.scenes[n].fade) := by
  rw [← standsInSafety_iff, ← sceneAt_of_index]
  refine ⟨fun defined => if_pos defined, fun undefined inSafety => ?_, fun undefined elsewhere => ?_⟩
  · exact (if_neg (by simp [undefined])).trans (if_pos inSafety)
  · exact (if_neg (by simp [undefined])).trans (if_neg elsewhere)

/-! ## The request -/

theorem exec_writeItemScene {p : PortId} {n flags : Byte} {fade : Half} {modes : Byte} {ps : List (Byte × Half)}
    {s t : State} {r : Result} (h : Served s p (.writeItemScene p n flags fade modes ps))
    (own : ownWriteScene n flags fade modes ps s = (t, answer r)) :
    exec (.writeItemScene p n flags fade modes ps) s = .next (reply p 3 r t) :=
  congrArg _ (requestStep_of_answer h own)

/-- Settles O24: the refusals in their order (log 8), then the edit of the scene. -/
theorem sceneWriteReplacesTheScene : Obligations.SceneWriteReplacesTheScene := by
  intro p n flags fade modes ps s served levels new sound
  refine ⟨fun beyond => exec_writeItemScene served ?_, fun k number => ⟨fun busy => exec_writeItemScene served ?_,
    fun idle defined unsound => exec_writeItemScene served ?_, fun idle good => ?_⟩⟩
  · rw [ownWriteScene, indexBelow_eq_none beyond]; rfl
  · rw [ownWriteScene, indexBelow_eq_some k number]; exact if_pos busy
  · have bad : levelsGood levels = false := Bool.eq_false_iff.2 fun h => unsound ((levelsGood_iff levels).1 h)
    rw [ownWriteScene, indexBelow_eq_some k number]
    exact (if_neg (by simp [idle])).trans (if_pos (by simp [levels, bitFlag, defined, bad]))
  intro inSafety shown
  obtain ⟨ofNew, ofSafety, ofOld⟩ := editFade_cases s.light k new
  refine ⟨editScene k new s, exec_writeItemScene served ?_, editScene_touches k new s, ?_, ?_, ?_,
    fun l => editScene_layer k new s, fun absent => ?_, fun stands => ⟨editFade s.light k.val new, ofNew, ofSafety,
      ofOld, editScene_retargeted stands, editScene_ports_of_shown stands⟩⟩
  · have taken : ¬(bitFlag flags 0 && !levelsGood levels) = true := by
      have fits : bitFlag flags 0 = true → levelsGood levels = true := fun h => (levelsGood_iff levels).2 (good h)
      simpa using fits
    rw [ownWriteScene, indexBelow_eq_some k number]
    refine (if_neg (by simp [idle])).trans ((if_neg taken).trans (congrArg (fun r => (editScene k new s, answer r)) ?_))
    simp only [okOrClamped, bitFlag, Bool.and_eq_true, decide_eq_true_eq]
  · rw [editScene_scenes]; simp
  · intro m other
    have apart : k.val ≠ m.val := fun same => other (Fin.ext same.symm)
    rw [editScene_scenes]; simp [apart]
  · rw [editScene_layers]; exact dropLayers_rejected_safety ..
  · rw [editScene_of_absent absent]
    exact ⟨rfl, rfl⟩

end Sys2Proof.Machine
end

section
/-! What every step keeps of the ports (R149, R156, R157, R159, R162): their bounds and their presence. -/

namespace Sys2Proof.Machine

/-! ## Sound ports -/

/-- A port within its bounds (R149, R162) whose presence is sound (R156, R157). -/
def portSound (q : Port) : Prop := portBounded q ∧ presenceSound q

/-- Every port is sound. -/
def PortsSound (s : State) : Prop := ∀ p : PortId, portSound s.ports[p]

theorem portsSound_iff (s : State) : PortsSound s ↔ PortsBounded s ∧ PresenceHeld s :=
  ⟨fun h => ⟨fun p => (h p).1, fun p => (h p).2⟩, fun ⟨bounded, present⟩ p => ⟨bounded p, present p⟩⟩

/-- A store of notices within its bounds (R162). -/
def storeBounded (n : NoticeStore) : Prop := n.queue.length ≤ 8 ∧ n.drops ≤ 255

section
variable {s t : State} {q r : Port}

/-- What soundness of a port reads of it. -/
theorem portSound.congr (h : portSound q) (notices : storeBounded r.notices) (discards : r.discards ≤ 255)
    (role : r.role = q.role) (presence : r.presence = q.presence)
    (timer : r.silenceTimer.isSome = q.silenceTimer.isSome) : portSound r :=
  ⟨⟨notices.1, notices.2, discards⟩, by
    unfold presenceSound
    rw [role, presence, timer]
    exact h.2⟩

theorem portSound.store (h : portSound q) : storeBounded q.notices := ⟨h.1.1, h.1.2.1⟩

theorem portSound.discards (h : portSound q) : q.discards ≤ 255 := h.1.2.2

theorem PortsSound.of_ports (h : PortsSound s) (ports : t.ports = s.ports) : PortsSound t := fun p => by
  rw [ports]; exact h p

theorem portsSound_setPort (p : PortId) (h : PortsSound s) (sound : portSound q) : PortsSound (setPort p q s) := by
  intro k
  by_cases here : p.val = k.val
  · simpa [here] using sound
  · simpa [here] using h k

/-- Filing a notice keeps the bounds of a store (R162). -/
theorem portsSound_post (c : Code) (n : Nat) (v : Int) (h : PortsSound s) : PortsSound (post c n v s) := fun p => by
  rw [post_ports]
  exact (h p).congr (fileNotice_bounds _ _ (h p).store.1 (h p).store.2) (h p).discards rfl rfl rfl

theorem portsSound_postAll (ns : List (Code × Nat × Int)) (h : PortsSound s) : PortsSound (postAll ns s) := by
  induction ns generalizing s with
  | nil => exact h
  | cons n ns ih => exact ih (portsSound_post _ _ _ h)

/-- An event that reaches the ports by its notices alone keeps them sound. -/
theorem PortsSound.posted {ns : List (Code × Nat × Int)} (h : PortsSound s) (ports : t.ports = (postAll ns s).ports) :
    PortsSound t := (portsSound_postAll ns h).of_ports ports

theorem PortsSound.compEvent {i : CompId} {ns : List (Code × Nat × Int)} (h : PortsSound s) (event : CompEvent i ns s t) :
    PortsSound t := h.posted event.ports

/-- A running timer stays running while part time runs. -/
theorem portsSound_elapse (k : Nat) (h : PortsSound s) : PortsSound (elapse k s) := fun p => by
  rw [elapse_ports]
  split
  · exact h p
  · exact (h p).congr (h p).store (h p).discards rfl rfl (ageTimer_isSome ..)

/-! ## The line and presence (R148 to R152, R157, R158) -/

/-- R149: the discard count stops at 255. -/
theorem portSound_countDiscard (h : portSound q) : portSound (countDiscard q) :=
  h.congr h.store (by have := h.discards; dsimp only [countDiscard]; split <;> omega) rfl rfl rfl

theorem portSound_discardFrame (h : portSound q) : portSound (discardFrame q) :=
  portSound_countDiscard (h.congr h.store h.discards rfl rfl rfl)

theorem portSound_dropFrame (h : portSound q) : portSound (dropFrame q) :=
  portSound_countDiscard (h.congr h.store h.discards rfl rfl rfl)

theorem portSound_takeByte (b : Byte) (bad : Bool) (h : portSound q) : portSound (takeByte b bad q) := by
  unfold takeByte
  split_ifs
  · exact portSound_discardFrame h
  · exact portSound_discardFrame h
  · exact h.congr h.store h.discards rfl rfl rfl

theorem portSound_portByte (b : Byte) (bad : Bool) (h : portSound q) : portSound (portByte b bad q) := by
  have overrun : portSound (if q.overrun then q else countDiscard { q with overrun := true }) := by
    split_ifs
    · exact h
    · exact portSound_countDiscard (h.congr h.store h.discards rfl rfl rfl)
  unfold portByte
  split
  · split_ifs
    · exact portSound_discardFrame h
    · exact h.congr h.store h.discards rfl rfl rfl
  · exact portSound_takeByte b bad h
  · exact h
  · exact overrun
  · exact overrun

theorem portsSound_lineByte (p : PortId) (b : Byte) (bad : Bool) (h : PortsSound s) : PortsSound (lineByte p b bad s) :=
  portsSound_setPort p h (portSound_portByte b bad (h p))

theorem portsSound_lineFrame (p : PortId) (bytes : List Byte) (h : PortsSound s) : PortsSound (lineFrame p bytes s) := by
  unfold lineFrame
  induction bytes generalizing s with
  | nil => exact h
  | cons b bytes ih => exact ih (portsSound_lineByte p b false h)

/-- A port that does not stand for an OBSERVER stays sound when it becomes PRESENT with its timer running. -/
theorem portSound_present (h : portSound q) (held : q.presence ≠ .none) (k : Nat) :
    portSound { q with presence := .present, silenceTimer := some k } := by
  obtain ⟨bounded, observer, -⟩ := h
  exact ⟨bounded, by simp [observer, held], by simp⟩

/-- R157: a PRESENT role that becomes ABSENT stops its timer. -/
theorem portSound_absent (h : portSound q) (present : q.presence = .present) :
    portSound { q with presence := .absent, silenceTimer := none } := by
  obtain ⟨bounded, observer, -⟩ := h
  exact ⟨bounded, by simp [observer, present], by simp⟩

theorem portsSound_frameHeard (p : PortId) (h : PortsSound s) : PortsSound (frameHeard p s) := by
  unfold frameHeard
  dsimp only
  split
  · exact h
  · rename_i present
    have reloaded := portSound_present (h p) (present ▸ nofun) (fullSilence s.ports[p])
    rw [← present] at reloaded
    exact portsSound_setPort p h reloaded
  · rename_i absent
    exact portsSound_post _ _ _ (portsSound_setPort p h (portSound_present (h p) (absent ▸ nofun) _))

theorem portsSound_sendReply (p : PortId) (code : Byte) (a : Answer) (h : PortsSound s) :
    PortsSound (sendReply p code a s) :=
  portsSound_setPort p h ((h p).congr (h p).store (h p).discards rfl rfl rfl)

theorem portsSound_serveFrame (p : PortId) (code : Byte) (payload : List Byte) (h : PortsSound s) :
    PortsSound (serveFrame p code payload s) := by
  have heard := portsSound_frameHeard p (portsSound_setPort p (q := { s.ports[p] with rx := .serving, buffer := [] }) h
    ((h p).congr (h p).store (h p).discards rfl rfl rfl))
  unfold serveFrame
  dsimp only
  split
  · exact portsSound_sendReply p code _ heard
  · exact portsSound_setPort p heard ((heard p).congr (heard p).store (heard p).discards rfl rfl rfl)

theorem portsSound_lineQuiet (p : PortId) (h : PortsSound s) : PortsSound (lineQuiet p s) := by
  unfold lineQuiet
  dsimp only
  split
  · split_ifs
    · exact portsSound_serveFrame p _ _ h
    · exact portsSound_setPort p h (portSound_dropFrame (h p))
  · exact portsSound_setPort p h ((h p).congr (h p).store (h p).discards rfl rfl rfl)
  all_goals exact h

theorem portsSound_deliver (p : PortId) (code : Byte) (payload : List Byte) (h : PortsSound s) :
    PortsSound (deliver p code payload s) := portsSound_lineQuiet p (portsSound_lineFrame p _ h)

/-! ## Events of the covers and the lighting -/

theorem portsSound_coverEvaluated (h : PortsSound s) : PortsSound (coverEvaluated s) := by
  unfold coverEvaluated
  dsimp only
  split
  · exact h
  · split_ifs
    · exact h
    · exact (portsSound_postAll _ h).of_ports rfl

theorem portsSound_changeReport (r : Report) (h : PortsSound s) : PortsSound (changeReport r s) := by
  rw [changeReport_eq, reported]
  split
  · exact h
  · exact portsSound_coverEvaluated (h.of_ports rfl)

theorem portsSound_acceptCoverLimit (level : Bool) (h : PortsSound s) : PortsSound (acceptCoverLimit level s) := by
  rw [acceptCoverLimit, evaluateCover_eq]
  exact portsSound_coverEvaluated (h.of_ports rfl)

theorem portsSound_countsSecond (h : PortsSound s) : PortsSound (countsSecond s) := by
  have advanced : PortsSound (advanceCounts s) := h.of_ports rfl
  have disagreed (cause : Nat) : PortsSound (disagreed cause (advanceCounts s)) :=
    (portsSound_postAll _ advanced).of_ports rfl
  unfold countsSecond
  simp only [disagreeBy_eq]
  split
  · exact disagreed _
  · split
    · exact disagreed _
    · exact advanced

theorem portsSound_phaseCounts (h : PortsSound s) : PortsSound (phaseCounts s) := by
  have counted : PortsSound (modCover (phaseSecond s.seq.pfLine) s) := h.of_ports rfl
  unfold phaseCounts
  dsimp only
  split_ifs
  · exact portsSound_post _ _ _ counted
  · exact counted

theorem portsSound_phaseTests (h : PortsSound s) : PortsSound (phaseTests s) := by
  unfold phaseTests
  split_ifs
  · exact h.of_ports rfl
  · exact h.of_ports rfl
  · exact h.of_ports rfl
  · exact h.of_ports rfl
  · exact (portsSound_post _ _ _ h).of_ports (by rw [enterReleased_eq])
  · exact (portsSound_post _ _ _ h).of_ports (by rw [lapsePermission_eq])
  · exact h

theorem portsSound_cvpStep (h : PortsSound s) : PortsSound (cvpStep s) :=
  portsSound_phaseTests (portsSound_phaseCounts (portsSound_countsSecond ((portsSound_elapse s.timers.cvp h).of_ports rfl)))

theorem portsSound_silenceLayer (k : Layer) (h : PortsSound s) : PortsSound (silenceLayer k s) := by
  unfold silenceLayer
  split
  · exact h
  · exact (portsSound_post _ _ _ h).of_ports rfl

theorem portsSound_roleSilent (role : Role) (h : PortsSound s) : PortsSound (roleSilent role s) := by
  cases role with
  | pool => exact portsSound_silenceLayer .work (portsSound_changeReport .unknown h)
  | lighting => exact portsSound_silenceLayer .showing h
  | building => exact h
  | observer => exact h

theorem portsSound_silenceStep (p : PortId) (h : PortsSound s) : PortsSound (silenceStep p s) := by
  unfold silenceStep
  split
  · exact h
  · rename_i k _
    split_ifs with present
    · have later := portsSound_elapse k h
      have still : (elapse k s).ports[p].presence = .present := by rw [elapse_ports]; split <;> exact present
      exact portsSound_roleSilent _ (portsSound_post _ _ _ (portsSound_setPort p later (portSound_absent (later p) still)))
    · exact h

/-! ## Events of the channels, the plant and the inputs -/

theorem portsSound_watchAction (a : WatchAction) (tripped : Bool) (h : PortsSound s) : PortsSound (watchAction a tripped s) := by
  unfold watchAction
  split
  · split_ifs
    · have ports := alertTrip_ports s
      split at ports
      · exact (portsSound_post _ _ _ h).of_ports ports
      · exact h.of_ports ports
    · exact h.of_ports (by simp)
  all_goals exact h

theorem portsSound_scanStep (samples : Samples) (h : PortsSound s) : PortsSound (scanStep samples s) := by
  have due : PortsSound (atScan samples s) := (portsSound_elapse s.timers.scan h).of_ports rfl
  exact due.posted (filed_scanStep samples s).ports

theorem portsSound_computeStep (h : PortsSound s) : PortsSound (computeStep s) := by
  have due : PortsSound (atComputation s) := (portsSound_elapse s.timers.compute h).of_ports rfl
  exact PortsSound.posted (s := atNotices s) (due.of_ports rfl) (filed_computeStep s).ports

theorem portsSound_searchExpiry (above : Bool) (h : PortsSound s) : PortsSound (searchExpiry above s) := by
  unfold searchExpiry
  split
  · exact h
  · rename_i r _
    have due := portsSound_elapse r.stepLeft h
    unfold searchStep
    dsimp only
    split
    · exact (portsSound_post _ _ _ due).of_ports rfl
    · exact due.of_ports rfl

theorem portsSound_startTest (i : CompId) (h : PortsSound s) : PortsSound (startTest i s) :=
  h.compEvent (startTest_event i s)

theorem portsSound_startTests (h : PortsSound s) : PortsSound (startTests s) :=
  portsSound_startTest 1 (portsSound_startTest 0 h)

theorem portsSound_refreshLimits (before : State) (h : PortsSound s) : PortsSound (refreshLimits before s) :=
  (h.compEvent (refreshLimit_event 0 _ _)).compEvent (refreshLimit_event 1 _ _)

theorem portsSound_passStep (h : PortsSound s) : PortsSound (passStep s) := by
  have due : PortsSound { elapse s.timers.pass s with
      timers := { (elapse s.timers.pass s).timers with pass := Config.passPeriod } } :=
    (portsSound_elapse s.timers.pass h).of_ports rfl
  exact due.posted (allocate_ports _)

theorem portsSound_sequencerStep (h : PortsSound s) : PortsSound (sequencerStep s) :=
  portsSound_startTests ((portsSound_elapse s.timers.sequencer h).of_ports rfl)

theorem portsSound_minOffStep (i : CompId) (h : PortsSound s) : PortsSound (minOffStep i s) := by
  unfold minOffStep
  split
  · exact h
  · rename_i k _
    split_ifs
    · exact portsSound_startTest i ((portsSound_elapse k h).of_ports rfl)
    · exact h

theorem portsSound_minOnStep (i : CompId) (h : PortsSound s) : PortsSound (minOnStep i s) := by
  unfold minOnStep
  split
  · exact h
  · rename_i k _
    have due := portsSound_elapse k h
    unfold minOnEnd
    dsimp only
    split_ifs
    · exact due.of_ports rfl
    · exact due.compEvent (stopComp_event i 1 _)
    · exact h

theorem portsSound_proofLossStep (h : PortsSound s) : PortsSound (proofLossStep s) := by
  unfold proofLossStep
  split
  · exact h
  · rename_i k _
    exact ((portsSound_elapse k h).posted (forceStops_events 3 _).ports).of_ports rfl

theorem portsSound_proofFailStep (h : PortsSound s) : PortsSound (proofFailStep s) := by
  unfold proofFailStep
  split
  · exact h
  · rename_i k _
    have due := portsSound_elapse k h
    rw [proofFail_eq]
    split_ifs
    · exact due.of_ports rfl
    · exact portsSound_post _ _ _ (due.of_ports rfl)

theorem portsSound_acceptInterlockOn (h : PortsSound s) : PortsSound (acceptInterlockOn s) :=
  h.posted (acceptInterlockOn_ports s)

theorem portsSound_acceptInterlockOff (h : PortsSound s) : PortsSound (acceptInterlockOff s) := by
  rw [acceptInterlockOff_touches]
  exact (portsSound_post _ _ _ h).of_ports rfl

theorem portsSound_acceptProofActive (h : PortsSound s) : PortsSound (acceptProofActive s) := by
  rw [acceptProofActive_touches]
  exact (portsSound_postAll _ h).of_ports rfl

theorem portsSound_sampleInputs (cover interlock fanProof : Bool) (h : PortsSound s) :
    PortsSound (sampleInputs cover interlock fanProof s) := by
  have covered : PortsSound (sampleCover cover s) := by
    rw [sampleCover_eq]
    split_ifs
    · exact portsSound_acceptCoverLimit _ h
    · exact h.of_ports rfl
  have locked : PortsSound (sampleInterlock interlock (sampleCover cover s)) := by
    rw [sampleInterlock_eq]
    split_ifs
    · exact portsSound_acceptInterlockOn covered
    · exact portsSound_acceptInterlockOff covered
    · exact covered.of_ports rfl
  unfold sampleInputs
  rw [sampleFanProof_eq]
  split_ifs
  · exact portsSound_acceptProofActive locked
  · exact locked.of_ports rfl
  · exact locked.of_ports rfl

theorem portsSound_sampleStep (cover interlock fanProof : Bool) (h : PortsSound s) :
    PortsSound (sampleStep cover interlock fanProof s) :=
  portsSound_sampleInputs _ _ _ ((portsSound_elapse s.timers.sample h).of_ports rfl)

/-- The moment of an accepted change, with the level its pin brings. -/
theorem portsSound_accepted (d : Debounced) (pins : Pins) (h : PortsSound s) : PortsSound { atAccept d s with pins := pins } :=
  (portsSound_elapse (ticksToAccept d s) h).of_ports rfl

theorem portsSound_interlockOnStep (h : PortsSound s) : PortsSound (interlockOnStep s) := by
  unfold interlockOnStep
  split_ifs
  · exact h
  · exact portsSound_acceptInterlockOn (portsSound_accepted _ _ h)

theorem portsSound_interlockOffStep (h : PortsSound s) : PortsSound (interlockOffStep s) := by
  unfold interlockOffStep
  split_ifs
  · exact portsSound_acceptInterlockOff (portsSound_accepted _ _ h)
  · exact h

theorem portsSound_fanProofOnStep (h : PortsSound s) : PortsSound (fanProofOnStep s) := by
  unfold fanProofOnStep
  split_ifs
  · exact h
  · exact portsSound_acceptProofActive (portsSound_accepted _ _ h)

theorem portsSound_fanProofOffStep (h : PortsSound s) : PortsSound (fanProofOffStep s) := by
  unfold fanProofOffStep
  split_ifs
  · exact (portsSound_accepted s.seq.fanProof { s.pins with fanProof := false } h).of_ports rfl
  · exact h

theorem portsSound_storeEnd (d : BitVec 11) (h : PortsSound s) : PortsSound (storeEnd d s) := by
  unfold storeEnd
  split <;> exact portsSound_post _ _ _ (h.of_ports rfl)

/-! ## Requests -/

theorem portsSound_ownWriteWatch (n src dir : Byte) (th hy : Half) (act : Byte) (h : PortsSound s) :
    PortsSound (ownWriteWatch n src dir th hy act s).1 := by
  have writes (i : Fin 8) (cfg : WatchCfg) : PortsSound (writeWatch i cfg s) := by
    unfold writeWatch
    dsimp only
    split_ifs
    · exact h.of_ports rfl
    · exact portsSound_watchAction _ _ (portsSound_post _ _ _ (h.of_ports rfl))
    · exact h.of_ports rfl
  unfold ownWriteWatch
  split
  · exact h
  · split_ifs
    · exact h
    · split
      · exact writes _ _
      · exact h

theorem portsSound_ownWriteCompressor (n : Byte) (off on : Half) (lim : Byte) (h : PortsSound s) :
    PortsSound (ownWriteCompressor n off on lim s).1 := by
  obtain kept | ⟨i, cfg, stored⟩ := ownWriteCompressor_cases n off on lim s
  · rw [kept]; exact h
  · rw [stored]; exact h.compEvent (storeCompCfg_event ..)

theorem portsSound_ownWriteLimits (n : Byte) (a b c d : Half) (h : PortsSound s) :
    PortsSound (ownWriteLimits n a b c d s).1 := by
  unfold ownWriteLimits
  split_ifs
  · exact h
  · exact h
  · exact portsSound_refreshLimits _ (h.of_ports rfl)

theorem portsSound_ownWriteScene (n flags : Byte) (fade : Half) (modes : Byte) (ps : List (Byte × Half))
    (h : PortsSound s) : PortsSound (ownWriteScene n flags fade modes ps s).1 := by
  have edits (i : Fin 32) (new : Scene) : PortsSound (editScene i new s) := by
    by_cases shown : Shown s.light i.val
    · exact h.posted (by rw [editScene_ports_of_shown shown, postAllReleased_eq_postAll])
    · rw [editScene_of_absent shown]; exact h.of_ports rfl
  unfold ownWriteScene
  dsimp only
  split
  · exact h
  · split_ifs
    · exact h
    · exact h
    · exact edits _ _

theorem portsSound_ownSetModeHall (mode target : Byte) (h : PortsSound s) :
    PortsSound (ownSetModeHall mode target s).1 := by
  have changes (m : Mode) : PortsSound (changeMode m s) :=
    (portsSound_post _ _ _ h).posted (by rw [changeMode_ports, postAllReleased_eq_postAll])
  unfold ownSetModeHall
  split
  · exact h
  · split_ifs
    · exact h
    · exact h
    · exact h
    · exact changes _

theorem portsSound_ownReportCover (b : Byte) (h : PortsSound s) : PortsSound (ownReportCover b s).1 := by
  unfold ownReportCover
  split
  · exact h
  · exact portsSound_changeReport _ h

/-- R163: a take leaves at most five records in the queue and no drop counted. -/
theorem portsSound_ownTakeNotices (p : PortId) (h : PortsSound s) : PortsSound (ownTakeNotices p s).1 := by
  refine portsSound_setPort p h ((h p).congr ?_ (h p).discards rfl rfl rfl)
  have := (h p).store.1
  exact ⟨by simp only [afterTake, List.length_drop]; omega, Nat.zero_le _⟩

theorem portsSound_ownSetAcceptance (p : PortId) (acc : BitVec 64) (f1 f2 : Filter) (th : Byte) (si : Half)
    (h : PortsSound s) : PortsSound (ownSetAcceptance p acc f1 f2 th si s).1 := by
  unfold ownSetAcceptance
  split_ifs
  · exact h
  · exact h
  · exact portsSound_setPort p h ((h p).congr (h p).store (h p).discards rfl rfl rfl)

/-- Of the owners only those that post a notice and those of the notice stores reach the ports at all. -/
theorem portsSound_ownerServe (c : Instr) (h : PortsSound s) : PortsSound (ownerServe c s).1 := by
  cases c
  case writeItemWatch p n src dir th hy act => exact portsSound_ownWriteWatch n src dir th hy act h
  case writeItemCompressor p n off on lim => exact portsSound_ownWriteCompressor n off on lim h
  case writeItemLimits p n a b c d => exact portsSound_ownWriteLimits n a b c d h
  case writeItemScene p n flags fade modes ps => exact portsSound_ownWriteScene n flags fade modes ps h
  case setModeHall p m t => exact portsSound_ownSetModeHall m t h
  case reportCover p b => exact portsSound_ownReportCover b h
  case takeNotices p => exact portsSound_ownTakeNotices p h
  case setAcceptance p acc c1 s1 c2 s2 th si => exact portsSound_ownSetAcceptance p acc _ _ th si h
  all_goals exact h.of_ports (by simp [ownerServe])

theorem portsSound_takeHanded (p : PortId) (c : Instr) (h : PortsSound s) : PortsSound (takeHanded p c s) :=
  portsSound_sendReply p _ _ (portsSound_ownerServe c h)

theorem portsSound_requestStep (p : PortId) (c : Instr) (h : PortsSound s) : PortsSound (requestStep p c s) := by
  unfold requestStep
  split
  · exact portsSound_takeHanded p c h
  · split
    · exact h
    · dsimp only
      split
      · exact portsSound_takeHanded p c (portsSound_deliver _ _ _ h)
      · exact portsSound_deliver _ _ _ h

theorem portsSound_portStep (c : Instr) (h : PortsSound s) : PortsSound (portStep c s) := by
  unfold portStep
  split
  · exact h
  · exact portsSound_deliver _ _ _ h

/-! ## Restarts -/

theorem portsSound_answerInService (p : PortId) (h : PortsSound s) : PortsSound (answerInService p s) := by
  unfold answerInService
  split
  · exact portsSound_takeHanded p _ h
  · exact h

theorem portsSound_answerAll (h : PortsSound s) : PortsSound (answerAll s) := by
  have answers (l : List PortId) {s : State} (h : PortsSound s) :
      PortsSound (l.foldl (fun acc p => answerInService p acc) s) := by
    induction l generalizing s with
    | nil => exact h
    | cons p l ih => exact ih (portsSound_answerInService p h)
  unfold answerAll
  split
  · exact h
  · exact portsSound_answerInService _ h
  · exact answers _ (h.of_ports rfl)

/-- R155, R167: a restarted port has an empty store, and its timer runs again exactly where its role is PRESENT. -/
theorem portSound_restartPort (h : portSound q) : portSound (restartPort q) := by
  have received : portSound (restartReceiver q) := by
    unfold restartReceiver
    split
    · exact h
    · exact portSound_dropFrame h
    all_goals exact h.congr h.store h.discards rfl rfl rfl
  refine received.congr ⟨Nat.zero_le _, Nat.zero_le _⟩ received.discards rfl rfl ?_
  unfold restartPort
  dsimp only
  split_ifs with present
  · exact (received.2.2.2 present).symm
  · rfl

/-- R124: the cover record of a warm restart, with the derived state formed afresh. -/
def coverRestarted (s : State) : Cover :=
  let c := { enterPhase .idle (freshDerived s.seq.coverLimit.active s.cover) with cycles := 0 }
  if c.derived = .closed then enterPhase (nightState s .settle) c else c

/-- R124: a warm restart at the programme forms its record afresh, and withdraws an outstanding permission. -/
theorem restartCover_eq (s : State) : restartCover s =
    { (if s.cover.prog = .released then post .coverReleaseLapsed 3 (permissionRemaining s.cover) s else s) with
      cover := coverRestarted s } := by
  unfold restartCover coverRestarted
  by_cases released : s.cover.prog = .released <;> simp only [released, if_true, if_false]
  all_goals
    by_cases closed : (enterPhase .idle (freshDerived s.seq.coverLimit.active s.cover)).derived = .closed
    · exact (if_pos closed).trans (by rw [if_pos closed]; rfl)
    · exact (if_neg closed).trans (by rw [if_neg closed]; rfl)

theorem restartCover_ports (s : State) : (restartCover s).ports =
    (if s.cover.prog = .released then post .coverReleaseLapsed 3 (permissionRemaining s.cover) s else s).ports := by
  rw [restartCover_eq]

theorem restartChannels_ports (s : State) : (restartChannels s).ports = s.ports := by
  unfold restartChannels
  split <;> simp

theorem portsSound_restartRecords (h : PortsSound s) : PortsSound (restartRecords s) := by
  have emptied : PortsSound { s with ports := s.ports.map restartPort, restartPending := none } := fun p => by
    simpa using portSound_restartPort (h p)
  have restarted := emptied.of_ports (restartChannels_ports _)
  unfold restartRecords
  refine PortsSound.of_ports ?_ (restartCover_ports _)
  split_ifs
  · exact portsSound_post _ _ _ (restarted.of_ports rfl)
  · exact restarted.of_ports rfl

theorem portsSound_replyEnd (p : PortId) (h : PortsSound s) : PortsSound (replyEnd p s) := by
  have ended (rx : RxState) : PortsSound (setPort p (endReply rx s.ports[p]) s) :=
    portsSound_setPort p h ((h p).congr (h p).store (h p).discards rfl rfl rfl)
  unfold replyEnd
  dsimp only
  split_ifs
  · exact h
  · exact portsSound_restartRecords (portsSound_answerAll (ended _))
  · exact ended _

/-- R156, R159, R167: a port at power-on. -/
theorem portSound_powerOnPort (lower : List Role) (strapped : Role) (silence threshold : Nat) :
    portSound (powerOnPort lower strapped silence threshold) := by
  refine ⟨⟨Nat.zero_le _, Nat.zero_le _, Nat.zero_le _⟩, ?_⟩
  by_cases observer : (roleAmong lower strapped).1 = .observer <;> simp [presenceSound, powerOnPort, observer]

theorem portsSound_powerUp (a b c : BitVec 2) (s : State) : PortsSound (powerUp a b c s) := by
  have records (r0 r1 r2 : Role) (set : Settings) : PortsSound (powerOnRecords r0 r1 r2 set s) := fun p => by
    fin_cases p <;> exact portSound_powerOnPort ..
  unfold powerUp
  dsimp only
  split_ifs
  · exact records _ _ _ _
  · exact portsSound_post _ _ _ (records _ _ _ _)

/-! ## The step -/

theorem portsSound_outcomeStep (met : Bool) (h : PortsSound s) (ht : PortsSound t) : PortsSound (outcomeStep met t s) := by
  unfold outcomeStep
  split <;> assumption

theorem portsSound_exec (i : Instr) (h : PortsSound s) (e : exec i s = .next t) : PortsSound t := by
  have next {u : State} (hu : PortsSound u) (e : (.next u : Host.Outcome State Fault Refusal) = .next t) :
      PortsSound t := by
    injection e with e; exact e ▸ hu
  have scan (x) := portsSound_scanStep x h
  have compute := portsSound_computeStep h
  have cvp := portsSound_cvpStep h
  have water : PortsSound (waterStep s) := (portsSound_elapse s.timers.water h).of_ports rfl
  have fade : PortsSound (fadeStepAll s) := (portsSound_elapse s.timers.fade h).of_ports rfl
  cases i
  case powerOn a b c => exact next (portsSound_powerUp a b c s) e
  case receiveByte p d y x => exact next (portsSound_lineByte p d _ h) e
  case lineQuietExpiry p => exact next (portsSound_lineQuiet p h) e
  case replySent p => exact next (portsSound_replyEnd p h) e
  case unknownRequest p c l => exact next (portsSound_portStep _ h) e
  case writeItemReadOnly p k n l => exact next (portsSound_portStep _ h) e
  case zeroSearchStep above => exact next (portsSound_searchExpiry above h) e
  case storeCompletion d =>
    refine next ?_ e
    split
    · exact portsSound_storeEnd d h
    · exact h
  case silenceTimerExpiry p => exact next (portsSound_silenceStep p h) e
  case channelScan x => exact next (scan x) e
  case channelFault n x => exact next (portsSound_outcomeStep _ h (scan x)) e
  case channelRecover n x => exact next (portsSound_outcomeStep _ h (scan x)) e
  case channelValid n x => exact next (portsSound_outcomeStep _ h (scan x)) e
  case climateComputation => exact next compute e
  case heatBlindDemand => exact next (portsSound_outcomeStep _ h compute) e
  case moistureBlindDemand => exact next (portsSound_outcomeStep _ h compute) e
  case waterAgeSecond => exact next water e
  case waterStale => exact next (portsSound_outcomeStep _ h water) e
  case allocationPass => exact next (portsSound_passStep h) e
  case sequencerSecond => exact next (portsSound_sequencerStep h) e
  case minOffExpiry k => exact next (portsSound_minOffStep k h) e
  case minOnExpiry k => exact next (portsSound_minOnStep k h) e
  case proofLossExpiry => exact next (portsSound_proofLossStep h) e
  case proofFailExpiry => exact next (portsSound_proofFailStep h) e
  case interlockOn => exact next (portsSound_interlockOnStep h) e
  case interlockOff => exact next (portsSound_interlockOffStep h) e
  case coverLimitChange => exact next (portsSound_acceptCoverLimit _ (portsSound_accepted _ _ h)) e
  case fanProofActive => exact next (portsSound_fanProofOnStep h) e
  case fanProofInactive => exact next (portsSound_fanProofOffStep h) e
  case cvpSecond => exact next cvp e
  case fadeTick => exact next fade e
  case fadeComplete g => exact next (portsSound_outcomeStep _ h fade) e
  case inputSample a b c => exact next (portsSound_sampleStep a b c h) e
  case mismatchCountExpiry | travelCountExpiry | settleTimeMet | purgeComplete | restTimeMet | alertHoldMet
    | preopenTimeMet | permissionHoldMet | purgeStarved => exact next (portsSound_outcomeStep _ h cvp) e
  all_goals exact next (portsSound_requestStep _ _ h) e

end

/-- Settles O54: every command and every idle step keeps the ports sound. -/
theorem portsStaySound : Obligations.PortsStaySound := by
  intro s t bounded present e
  rw [← portsSound_iff]
  have h := (portsSound_iff s).2 ⟨bounded, present⟩
  unfold step at e
  split at e
  · rename_i rest _
    exact portsSound_exec _ (s := { s with pending := rest }) (h.of_ports rfl) e
  · split at e
    · exact portsSound_exec _ h e
    · injection e with e
      exact e ▸ portsSound_elapse 1 h

end Sys2Proof.Machine
end

section
/-! Every command answers a next state and leaves the queue of waiting commands alone (log 1). -/

namespace Sys2Proof.Machine

section
variable {s t : State}

theorem sampleStep_pending (a b c : Bool) (s : State) : (sampleStep a b c s).pending = s.pending := by simp [sampleStep]

theorem fadeStepAll_pending (s : State) : (fadeStepAll s).pending = s.pending := by simp [fadeStepAll]

theorem scanStep_pending (samples : Samples) (s : State) : (scanStep samples s).pending = s.pending := by simp [scanStep]

theorem waterStep_pending (s : State) : (waterStep s).pending = s.pending := by simp [waterStep]

theorem sequencerStep_pending (s : State) : (sequencerStep s).pending = s.pending := by simp [sequencerStep]

theorem cvpStep_pending (s : State) : (cvpStep s).pending = s.pending := by simp [cvpStep, atCvpSecond]

theorem passStep_pending (s : State) : (passStep s).pending = s.pending := by simp [passStep]

theorem computeStep_pending (s : State) : (computeStep s).pending = s.pending := by simp [computeStep, atComputation]

theorem searchExpiry_pending (above : Bool) (s : State) : (searchExpiry above s).pending = s.pending := by
  unfold searchExpiry; split <;> simp

theorem minOffStep_pending (i : CompId) (s : State) : (minOffStep i s).pending = s.pending := by
  unfold minOffStep; (repeat' split) <;> simp

theorem minOnStep_pending (i : CompId) (s : State) : (minOnStep i s).pending = s.pending := by
  unfold minOnStep; (repeat' split) <;> simp

theorem proofLossStep_pending (s : State) : (proofLossStep s).pending = s.pending := by
  unfold proofLossStep; split <;> simp

theorem proofFailStep_pending (s : State) : (proofFailStep s).pending = s.pending := by
  unfold proofFailStep; split <;> simp

theorem silenceStep_pending (p : PortId) (s : State) : (silenceStep p s).pending = s.pending := by
  unfold silenceStep; (repeat' split) <;> simp

theorem interlockOnStep_pending (s : State) : (interlockOnStep s).pending = s.pending := by
  unfold interlockOnStep; split <;> simp [atAccept]

theorem interlockOffStep_pending (s : State) : (interlockOffStep s).pending = s.pending := by
  unfold interlockOffStep; split <;> simp [atAccept]

theorem coverLimitStep_pending (s : State) : (coverLimitStep s).pending = s.pending := by simp [coverLimitStep, atAccept]

theorem fanProofOnStep_pending (s : State) : (fanProofOnStep s).pending = s.pending := by
  unfold fanProofOnStep; split <;> simp [atAccept]

theorem fanProofOffStep_pending (s : State) : (fanProofOffStep s).pending = s.pending := by
  unfold fanProofOffStep; split <;> simp [atAccept]

theorem outcomeStep_pending (met : Bool) (kept : t.pending = s.pending) : (outcomeStep met t s).pending = s.pending := by
  unfold outcomeStep
  split
  · exact kept
  · rfl

theorem ownerServe_pending (c : Instr) (s : State) : (ownerServe c s).1.pending = s.pending := by
  cases c <;> simp [ownerServe]

theorem takeHanded_pending (p : PortId) (c : Instr) (s : State) : (takeHanded p c s).pending = s.pending := by
  simp [takeHanded, ownerServe_pending]

theorem requestStep_pending (p : PortId) (c : Instr) (s : State) : (requestStep p c s).pending = s.pending := by
  unfold requestStep
  dsimp only
  (repeat' split) <;> simp [takeHanded_pending]

theorem portStep_pending (c : Instr) (s : State) : (portStep c s).pending = s.pending := by
  unfold portStep
  split <;> simp

theorem answerInService_pending (p : PortId) (s : State) : (answerInService p s).pending = s.pending := by
  unfold answerInService
  split <;> simp [takeHanded_pending]

theorem answerAll_pending (s : State) : (answerAll s).pending = s.pending := by
  have answers (l : List PortId) (s : State) : (l.foldl (fun acc p => answerInService p acc) s).pending = s.pending := by
    induction l generalizing s with
    | nil => rfl
    | cons p l ih => exact (ih _).trans (answerInService_pending p s)
  unfold answerAll
  split
  · rfl
  · exact answerInService_pending ..
  · exact answers ..

theorem restartRecords_pending (s : State) : (restartRecords s).pending = s.pending := by
  have channels (u : State) : (restartChannels u).pending = u.pending := by
    unfold restartChannels
    split <;> simp
  rw [restartRecords, restartCover_eq]
  dsimp only
  split
  · simp only [post_frame]; exact channels _
  · exact channels _

theorem replyEnd_pending (p : PortId) (s : State) : (replyEnd p s).pending = s.pending := by
  unfold replyEnd
  dsimp only
  split_ifs
  · rfl
  · exact (restartRecords_pending _).trans (answerAll_pending _)
  · rfl

theorem powerUp_pending (a b c : BitVec 2) (s : State) : (powerUp a b c s).pending = s.pending := by
  unfold powerUp
  dsimp only
  split <;> rfl

end

/-- Settles O2: each command answers one state, and none of its operations reaches the queue. -/
theorem everyCommandCompletesAndKeepsQueue : Obligations.EveryCommandCompletesAndKeepsQueue := by
  intro c s
  have scan (x) := scanStep_pending x s
  have compute := computeStep_pending s
  have cvp := cvpStep_pending s
  cases c
  case powerOn a b c => exact ⟨_, rfl, powerUp_pending a b c s⟩
  case receiveByte p d y x => exact ⟨_, rfl, by simp⟩
  case lineQuietExpiry p => exact ⟨_, rfl, by simp⟩
  case replySent p => exact ⟨_, rfl, replyEnd_pending p s⟩
  case unknownRequest p c l => exact ⟨_, rfl, portStep_pending _ s⟩
  case writeItemReadOnly p k n l => exact ⟨_, rfl, portStep_pending _ s⟩
  case zeroSearchStep above => exact ⟨_, rfl, searchExpiry_pending above s⟩
  case storeCompletion d => exact ⟨_, rfl, by split <;> simp⟩
  case silenceTimerExpiry p => exact ⟨_, rfl, silenceStep_pending p s⟩
  case channelScan x => exact ⟨_, rfl, scan x⟩
  case channelFault n x => exact ⟨_, rfl, outcomeStep_pending _ (scan x)⟩
  case channelRecover n x => exact ⟨_, rfl, outcomeStep_pending _ (scan x)⟩
  case channelValid n x => exact ⟨_, rfl, outcomeStep_pending _ (scan x)⟩
  case climateComputation => exact ⟨_, rfl, compute⟩
  case heatBlindDemand => exact ⟨_, rfl, outcomeStep_pending _ compute⟩
  case moistureBlindDemand => exact ⟨_, rfl, outcomeStep_pending _ compute⟩
  case waterAgeSecond => exact ⟨_, rfl, waterStep_pending s⟩
  case waterStale => exact ⟨_, rfl, outcomeStep_pending _ (waterStep_pending s)⟩
  case allocationPass => exact ⟨_, rfl, passStep_pending s⟩
  case sequencerSecond => exact ⟨_, rfl, sequencerStep_pending s⟩
  case minOffExpiry k => exact ⟨_, rfl, minOffStep_pending k s⟩
  case minOnExpiry k => exact ⟨_, rfl, minOnStep_pending k s⟩
  case proofLossExpiry => exact ⟨_, rfl, proofLossStep_pending s⟩
  case proofFailExpiry => exact ⟨_, rfl, proofFailStep_pending s⟩
  case interlockOn => exact ⟨_, rfl, interlockOnStep_pending s⟩
  case interlockOff => exact ⟨_, rfl, interlockOffStep_pending s⟩
  case coverLimitChange => exact ⟨_, rfl, coverLimitStep_pending s⟩
  case fanProofActive => exact ⟨_, rfl, fanProofOnStep_pending s⟩
  case fanProofInactive => exact ⟨_, rfl, fanProofOffStep_pending s⟩
  case cvpSecond => exact ⟨_, rfl, cvp⟩
  case fadeTick => exact ⟨_, rfl, fadeStepAll_pending s⟩
  case fadeComplete g => exact ⟨_, rfl, outcomeStep_pending _ (fadeStepAll_pending s)⟩
  case inputSample a b c => exact ⟨_, rfl, sampleStep_pending a b c s⟩
  case mismatchCountExpiry | travelCountExpiry | settleTimeMet | purgeComplete | restTimeMet | alertHoldMet
    | preopenTimeMet | permissionHoldMet | purgeStarved => exact ⟨_, rfl, outcomeStep_pending _ cvp⟩
  all_goals exact ⟨_, rfl, requestStep_pending _ _ s⟩

end Sys2Proof.Machine
end

section
/-! STORE_SETTINGS and the end of a store (R169), RESTART (R155). -/

namespace Sys2Proof.Machine

/-- R169: the lowest section that read back different. -/
theorem lowestDiffering_eq_some {d : BitVec 11} {k : Nat} (differs : d.getLsbD k = true)
    (lowest : ∀ j < k, d.getLsbD j = false) : lowestDiffering d = some k := by
  have below : k < 11 := BitVec.lt_of_getLsbD differs
  rw [lowestDiffering, List.find?_range_eq_some]
  exact ⟨differs, List.mem_range.2 below, fun j j_lt => by simp [lowest j j_lt]⟩

theorem lowestDiffering_zero : lowestDiffering 0 = none := rfl

/-- Settles O33: the two requests by their owners, the end of a store by the lowest section that differs. -/
theorem storeAndRestartRequests : Obligations.StoreAndRestartRequests := by
  refine ⟨fun p s served => ?_, fun d s busy => ⟨fun equal => ?_, fun k differs lowest => ?_⟩, fun p s served => ?_⟩
  · refine congrArg Host.Outcome.next ((requestStep_of_served served).trans ?_)
    by_cases refused : s.store.busy = true ∨ s.restartPending.isSome = true
    · have own : ownStoreSettings p s = refuse .busy s := if_pos (by simpa using refused)
      rw [if_pos refused, takeHanded, ownerServe, own]; rfl
    · have own : ownStoreSettings p s = _ := if_neg (by simpa using refused)
      rw [if_neg refused, takeHanded, ownerServe, own]; rfl
  · exact congrArg Host.Outcome.next ((if_pos busy).trans (by rw [equal, storeEnd, lowestDiffering_zero]))
  · exact congrArg Host.Outcome.next
      ((if_pos busy).trans (by rw [storeEnd, lowestDiffering_eq_some differs lowest]))
  · refine congrArg Host.Outcome.next ((requestStep_of_served served).trans ?_)
    rw [takeHanded, ownerServe, ownRestart]
    split <;> rfl

end Sys2Proof.Machine
end

section
/-! The line of a port (R147 to R152): bytes, gaps, frames and replies. -/

namespace Sys2Proof.Machine

/-! ## One port replaced -/

theorem setPort_self (p : PortId) (s : State) : setPort p s.ports[p] s = s := by simp [setPort]

theorem setPort_same (p : PortId) (q : Port) (s : State) : (setPort p q s).ports[p] = q := by simp

theorem setPort_setPort (p : PortId) (q r : Port) (s : State) : setPort p q (setPort p r s) = setPort p q s := by
  simp [setPort]

/-! ## A received byte (R148 to R150) -/

theorem discardFrame_eq (q : Port) : discardFrame q =
    { q with rx := .discarding, buffer := [], discards := moreDiscards q.discards } := rfl

theorem dropFrame_eq (q : Port) : dropFrame q =
    { q with rx := .idle, buffer := [], discards := moreDiscards q.discards } := rfl

section
variable {q : Port} {b : Byte} {bad : Bool}

theorem takeByte_rejected (h : bad = true ∨ frameFull q.buffer = true ∨ (q.buffer.length = 2 ∧ 60 < b.toNat)) :
    takeByte b bad q = discardFrame q := by
  unfold takeByte
  split_ifs with first second
  · rfl
  · rfl
  · simp only [Bool.or_eq_true, Bool.and_eq_true, decide_eq_true_eq] at first second
    tauto

theorem takeByte_joins (good : bad = false) (open_ : frameFull q.buffer = false)
    (len : q.buffer.length = 2 → b.toNat ≤ 60) : takeByte b bad q = { q with buffer := q.buffer ++ [b] } := by
  have fits : ¬(q.buffer.length = 2 && 60 < b.toNat) = true := by
    simp only [Bool.and_eq_true, decide_eq_true_eq, not_and, not_lt]; exact len
  unfold takeByte
  rw [if_neg (by simp [good, open_]), if_neg fits]

theorem portByte_idle (idle : q.rx = .idle) :
    portByte b bad q = if bad || b ≠ 0xA7 then discardFrame q else { q with rx := .receiving, buffer := [b] } := by
  rw [portByte, idle]

theorem portByte_receiving (receiving : q.rx = .receiving) : portByte b bad q = takeByte b bad q := by
  rw [portByte, receiving]

theorem portByte_discarding (discarding : q.rx = .discarding) : portByte b bad q = q := by rw [portByte, discarding]

theorem portByte_serving (serving : q.rx = .serving ∨ q.rx = .transmitting) :
    portByte b bad q = if q.overrun then q else { q with overrun := true, discards := moreDiscards q.discards } := by
  rcases serving with rx | rx <;> rw [portByte, rx] <;> rfl

end

theorem exec_receiveByte (p : PortId) (b : Byte) (par stop : Bool) (s : State) :
    exec (.receiveByte p b par stop) s = .next (setPort p (portByte b (lineError b par stop) s.ports[p]) s) := rfl

/-- Settles O7, receive state by receive state. -/
theorem receivedByteByReceiveState : Obligations.ReceivedByteByReceiveState := by
  intro p b par stop s q bad
  rw [exec_receiveByte]
  refine ⟨fun idle good sync => ?_, fun idle other => ?_, fun receiving rejected => ?_, fun receiving good part len => ?_,
    fun discarding => ?_, fun serving seen => ?_, fun serving unseen => ?_⟩
  · have clean : lineError b par stop = false := good
    rw [portByte_idle idle, clean, sync]; rfl
  · rw [portByte_idle idle, if_pos (by simpa using other), discardFrame_eq]
  · rw [portByte_receiving receiving, takeByte_rejected rejected, discardFrame_eq]
  · rw [portByte_receiving receiving, takeByte_joins good part len]
  · rw [portByte_discarding discarding, setPort_self]
  · rw [portByte_serving serving, if_pos seen, setPort_self]
  · rw [portByte_serving serving, if_neg (by simpa using unseen)]

/-! ## The bytes of a frame (Table 11-1) -/

theorem byteSum_append_check (body : List Byte) : byteSum (body ++ [checkByte body]) = 0xFF := by
  rw [byteSum, List.foldl_append]
  exact add_sub_cancel (byteSum body) 0xFF

theorem byteSum_requestBytes (code : Byte) (payload : List Byte) : byteSum (requestBytes code payload) = 0xFF :=
  byteSum_append_check _

theorem requestBytes_eq (code : Byte) (payload : List Byte) : requestBytes code payload =
    0xA7 :: code :: byteOf payload.length ::
      (payload ++ [checkByte (0xA7 :: code :: byteOf payload.length :: payload)]) := rfl

theorem byteOf_toNat {n : Nat} (small : n < 256) : (byteOf n).toNat = n := by
  simpa [byteOf] using small

section
variable {payload : List Byte}

theorem frameFull_requestBytes (fits : payload.length ≤ 60) (code : Byte) :
    frameFull (requestBytes code payload) = true := by
  simp [requestBytes_eq, frameFull, byteOf_toNat (show payload.length < 256 by omega)]

theorem frameContents_requestBytes (fits : payload.length ≤ 60) (code : Byte) :
    frameContents (requestBytes code payload) = (code, payload) := by
  simp [requestBytes_eq, frameContents, byteOf_toNat (show payload.length < 256 by omega)]

end

/-! ## A gap and the end of a reply (R148 to R150) -/

section
variable {p : PortId} {s : State}

theorem lineQuiet_of_broken (receiving : s.ports[p].rx = .receiving)
    (broken : frameFull s.ports[p].buffer = false ∨ byteSum s.ports[p].buffer ≠ 0xFF) :
    lineQuiet p s = setPort p (dropFrame s.ports[p]) s := by
  simp only [lineQuiet, receiving]
  exact if_neg (by simpa [imp_iff_not_or] using broken)

theorem lineQuiet_of_frame {code : Byte} {payload : List Byte} (receiving : s.ports[p].rx = .receiving)
    (fits : payload.length ≤ 60) (frame : s.ports[p].buffer = requestBytes code payload) :
    lineQuiet p s = serveFrame p code payload s := by
  simp only [lineQuiet, receiving, frame, frameContents_requestBytes fits]
  exact if_pos (by rw [frameFull_requestBytes fits, byteSum_requestBytes]; rfl)

theorem lineQuiet_of_discarding (discarding : s.ports[p].rx = .discarding) :
    lineQuiet p s = setPort p { s.ports[p] with rx := .idle } s := by
  simp only [lineQuiet, discarding]

theorem lineQuiet_of_other (other : s.ports[p].rx = .idle ∨ s.ports[p].rx = .serving ∨ s.ports[p].rx = .transmitting) :
    lineQuiet p s = s := by
  rcases other with rx | rx | rx <;> simp only [lineQuiet, rx]

end

theorem exec_lineQuietExpiry (p : PortId) (s : State) : exec (.lineQuietExpiry p) s = .next (lineQuiet p s) := rfl

/-- Settles O8: the gap by receive state and by the frame in the buffer, the end of a reply by its two flags. -/
theorem quietLineAndEndOfReply : Obligations.QuietLineAndEndOfReply := by
  refine ⟨fun p s => ?_, fun p s => fun sending stays => ?_⟩
  · simp only [exec_lineQuietExpiry]
    refine ⟨fun receiving part => ?_, fun receiving sum => ?_, fun code payload receiving fits frame => ?_,
      fun discarding => ?_, fun other => ?_⟩
    · rw [lineQuiet_of_broken receiving (.inl part), dropFrame_eq]
    · rw [lineQuiet_of_broken receiving (.inr sum), dropFrame_eq]
    · rw [lineQuiet_of_frame receiving fits frame]
    · rw [lineQuiet_of_discarding discarding]
    · rw [lineQuiet_of_other other]
  · have ended : replyEnd p s = setPort p (endReply (afterReply s.ports[p]) s.ports[p]) s := by
      unfold replyEnd
      exact (if_neg (not_not.2 sending)).trans (if_neg stays)
    have next : afterReply s.ports[p] =
        if s.ports[p].overrun = true ∧ s.ports[p].idleAfter = false then .discarding else .idle := by
      simp [afterReply]
    exact congrArg Host.Outcome.next (by rw [ended, next, endReply])

/-! ## A frame that arrives byte by byte -/

/-- The state with port p in reception of a frame. -/
def inReception (p : PortId) (buffer : List Byte) (s : State) : State :=
  setPort p { s.ports[p] with rx := .receiving, buffer := buffer } s

theorem lineByte_inReception {p : PortId} {buffer : List Byte} {b : Byte} (s : State)
    (part : frameFull buffer = false) (len : buffer.length = 2 → b.toNat ≤ 60) :
    lineByte p b false (inReception p buffer s) = inReception p (buffer ++ [b]) s := by
  rw [lineByte, inReception, setPort_same, portByte_receiving rfl, takeByte_joins rfl part len, setPort_setPort]
  rfl

/-- The bytes after LEN join the frame until their number agrees with it. -/
theorem lineFrame_inReception {p : PortId} {c len : Byte} (s : State) {got bytes : List Byte}
    (room : got.length + bytes.length ≤ len.toNat + 1) :
    lineFrame p bytes (inReception p (0xA7 :: c :: len :: got) s) =
      inReception p (0xA7 :: c :: len :: (got ++ bytes)) s := by
  induction bytes generalizing got with
  | nil => simp [lineFrame]
  | cons b bytes ih =>
    rw [List.length_cons] at room
    have part : frameFull (0xA7 :: c :: len :: got) = false := decide_eq_false (by omega)
    have next := lineByte_inReception (p := p) (b := b) s part (by simp)
    refine (congrArg (lineFrame p bytes) next).trans ((ih (got := got ++ [b]) (by simp; omega)).trans (by simp))

/-- R148: the bytes of a request frame fill the buffer of an IDLE port. -/
theorem lineFrame_requestBytes {p : PortId} {payload : List Byte} {s : State} (code : Byte) (idle : s.ports[p].rx = .idle)
    (fits : payload.length ≤ 60) :
    lineFrame p (requestBytes code payload) s = inReception p (requestBytes code payload) s := by
  have len := byteOf_toNat (show payload.length < 256 by omega)
  have sync : lineByte p 0xA7 false s = inReception p [0xA7] s := by
    rw [lineByte, portByte_idle idle]; rfl
  have head : lineByte p (byteOf payload.length) false (lineByte p code false (lineByte p 0xA7 false s)) =
      inReception p [0xA7, code, byteOf payload.length] s := by
    rw [sync, lineByte_inReception s rfl (by simp), lineByte_inReception s rfl (fun _ => by rw [len]; exact fits)]
    rfl
  rw [requestBytes_eq]
  refine (congrArg (lineFrame p _) head).trans ?_
  exact lineFrame_inReception s (by simp [len])

/-- A service sets receive state and buffer of its port afresh. -/
theorem serveFrame_inReception (p : PortId) (code : Byte) (payload buffer : List Byte) (s : State) :
    serveFrame p code payload (inReception p buffer s) = serveFrame p code payload s := by
  have start : setPort p { (inReception p buffer s).ports[p] with rx := .serving, buffer := [] } (inReception p buffer s) =
      setPort p { s.ports[p] with rx := .serving, buffer := [] } s := by
    rw [inReception, setPort_same, setPort_setPort]
  unfold serveFrame
  rw [start]

/-- R148, R149: on an IDLE port a frame and a quiet line are its service. -/
theorem deliver_of_idle {p : PortId} {payload : List Byte} {s : State} (code : Byte) (idle : s.ports[p].rx = .idle)
    (fits : payload.length ≤ 60) : deliver p code payload s = serveFrame p code payload s := by
  have full : (inReception p (requestBytes code payload) s).ports[p] =
      { s.ports[p] with rx := .receiving, buffer := requestBytes code payload } := setPort_same ..
  rw [deliver, lineFrame_requestBytes code idle fits, lineQuiet_of_frame (by rw [full]) fits (by rw [full]),
    serveFrame_inReception]

/-- Good bytes received one by one are the bytes of the frame on the line. -/
theorem execAll_receiveBytes {p : PortId} {frame : List (Byte × Bool)} (good : ∀ x ∈ frame, parityGood x.1 x.2 = true)
    (cs : List Instr) (s : State) :
    execAll (frame.map (fun x => .receiveByte p x.1 x.2 true) ++ cs) s =
      execAll cs (lineFrame p (frame.map Prod.fst) s) := by
  induction frame generalizing s with
  | nil => rfl
  | cons x frame ih =>
    have clean : lineError x.1 x.2 true = false := by simp [lineError, good x List.mem_cons_self]
    refine (ih (fun y mem => good y (List.mem_cons_of_mem x mem)) _).trans ?_
    rw [clean]; rfl

/-! ## Bits (R147) -/

theorem foldl_xor_eq (f : Nat → Bool) (ks : List Nat) (b : Bool) :
    ks.foldl (fun acc k => acc ^^ f k) b = (b ^^ ks.foldl (fun acc k => acc ^^ f k) false) := by
  induction ks generalizing b with
  | nil => simp
  | cons k ks ih => rw [List.foldl_cons, List.foldl_cons, ih, ih (false ^^ f k)]; simp

/-- R147: with its parity bit the number of ones of a byte is even. -/
theorem parityGood_parityBit (b : Byte) : parityGood b (parityBit b) = true := by
  rw [parityGood, foldl_xor_eq, ← parityBit, Bool.xor_self]
  rfl

/-- Settles O5: the sums by the check byte, the frame byte by byte, the bits of a byte and of a reply. -/
theorem frameOnLineReachesService : Obligations.FrameOnLineReachesService := by
  refine ⟨⟨byteSum_requestBytes, fun code result payload => byteSum_append_check _⟩,
    fun p code payload frame s idle fits bytes good => ?_, fun b => ⟨parityBit b, parityGood_parityBit b, rfl⟩,
    fun p code a s => ?_, fun q released => ?_⟩
  · rw [execAll_receiveBytes good, bytes, ← deliver_of_idle code idle fits]
    rfl
  · rw [sendReply_ports, if_pos rfl]
    exact txdLine_of_transmitting rfl
  · exact txdLine_of_released (by simp [txDriven, released])

end Sys2Proof.Machine
end

section
/-! Dispatch of a frame (R152, R153): the request it carries is read back, or the port refuses it. -/

namespace Sys2Proof.Machine

/-! ## Fields read back (R172) -/

theorem fieldBytes_length (fs : List Half) : (fieldBytes fs).length = 2 * fs.length := by
  induction fs with
  | nil => rfl
  | cons f fs ih =>
    have rest : (fieldBytes (f :: fs)).length = (fieldBytes fs).length + 2 := rfl
    rw [rest, ih, List.length_cons]; ring

theorem pairsOf_pairBytes (ps : List (Byte × Half)) : pairsOf (pairBytes ps) = some ps := by
  induction ps with
  | nil => rfl
  | cons p ps ih =>
    have rest : pairsOf (pairBytes (p :: ps)) = (pairsOf (pairBytes ps)).map ((p.1, half _ _) :: ·) := rfl
    rw [rest, ih, half_extractLsb']; rfl

theorem pairBytes_length (ps : List (Byte × Half)) : (pairBytes ps).length = 3 * ps.length := by
  induction ps with
  | nil => rfl
  | cons p ps ih =>
    have rest : (pairBytes (p :: ps)).length = (pairBytes ps).length + 3 := rfl
    rw [rest, ih, List.length_cons]; ring

theorem acceptanceOf_le8 (v : BitVec 64) :
    acceptanceOf (v.extractLsb' 0 8) (v.extractLsb' 8 8) (v.extractLsb' 16 8) (v.extractLsb' 24 8) (v.extractLsb' 32 8)
      (v.extractLsb' 40 8) (v.extractLsb' 48 8) (v.extractLsb' 56 8) = v := by
  simp (disch := decide) only [acceptanceOf, BitVec.extractLsb'_append_extractLsb'_eq_extractLsb']
  simp

/-! ## The tests of the port -/

theorem permitted_of_allowed {ok : Bool} (allowed : ok = true) (c : Instr) : permitted ok (some c) = .handed c :=
  if_pos allowed

theorem permitted_of_forbidden {ok : Bool} (forbidden : ok = false) (c : Option Instr) :
    permitted ok c = .refused .notPermitted := if_neg (by simp [forbidden])

section
variable (p : PortId) (role : Role)

/-- R152: SET_MODE of two bytes, by its target. -/
theorem dispatch_setMode (mode target : Byte) : dispatch p role 0x10 [mode, target] =
    permitted (role = .building || (1 < target.toNat && role ≠ .observer))
      (some (if target = 1 then .setModeStart p mode else .setModeHall p mode target)) := rfl

/-- R152: RECALL of two bytes, by its target. -/
theorem dispatch_recall (scene target : Byte) : dispatch p role 0x30 [scene, target] =
    permitted (role = .building || (target ≠ 1 && target ≠ 2 && role ≠ .observer))
      (some (if target = 1 then .recallStart p scene else if target = 2 then .recallSafety p scene
        else .recallLayer p scene target)) := rfl

/-- R153: a WRITE_ITEM of a known class, by the class's owner. -/
theorem dispatch_write {k : Byte} {cls : ItemClass} (known : classOf k = some cls) (n : Byte) (rest : List Byte) :
    dispatch p role 3 (k :: n :: rest) = permitted (writeOwner cls = some role) (writeCommand p cls n rest) := by
  have write : dispatch p role 3 (k :: n :: rest) = dispatchWrite p role (k :: n :: rest) := rfl
  rw [write, dispatchWrite, known]

theorem dispatch_write_unknown {k : Byte} (unknown : classOf k = none) (n : Byte) (rest : List Byte) :
    dispatch p role 3 (k :: n :: rest) = .refused .badItem := by
  have write : dispatch p role 3 (k :: n :: rest) = dispatchWrite p role (k :: n :: rest) := rfl
  rw [write, dispatchWrite, unknown]

theorem dispatch_unknown {code : Byte} (unknown : code.toNat ∉ requestCodes) (payload : List Byte) :
    dispatch p role code payload = .refused .unknown := by
  unfold dispatch
  split
  case h_18 => rfl
  all_goals
    rename_i code_eq
    exact absurd (code_eq ▸ by decide) unknown

end

/-! ## The written fields of a class (R153) -/

section
variable (p : PortId) (n : Byte)

theorem writeCommand_watch (source direction : Byte) (t h : Half) (a : Byte) :
    writeCommand p .watch n ([source, direction] ++ le2 t ++ le2 h ++ [a]) =
      some (.writeItemWatch p n source direction t h a) := by
  have fields : writeCommand p .watch n ([source, direction] ++ le2 t ++ le2 h ++ [a]) =
    some (.writeItemWatch p n source direction (half _ _) (half _ _) a) := rfl
  rw [fields, half_extractLsb', half_extractLsb']

theorem writeCommand_climateCfg {fs : List Half} (eighteen : fs.length = 18) :
    writeCommand p .climateCfg n (fieldBytes fs) = some (.writeItemClimateCfg p n fs) := by
  simp [writeCommand, fieldBytes_length, eighteen, halves_fieldBytes]

theorem writeCommand_consumer {ds : List Half} (good : drawsGood n ds = true) :
    writeCommand p .consumer n (fieldBytes ds) = some (.writeItemConsumer p n ds) := by
  have count : ds.length = if n = 0 then 4 else 1 := of_decide_eq_true good
  have len : (fieldBytes ds).length = if n = 0 then 8 else 2 := by
    rw [fieldBytes_length, count]; split <;> rfl
  simp [writeCommand, len, halves_fieldBytes]

theorem writeCommand_coverCfg {fs : List Half} (eight : fs.length = 8) :
    writeCommand p .coverCfg n (fieldBytes fs) = some (.writeItemCoverCfg p n fs) := by
  simp [writeCommand, fieldBytes_length, eight, halves_fieldBytes]

theorem writeCommand_allowance (v : Half) : writeCommand p .allowance n (le2 v) = some (.writeItemAllowance p n v) := by
  have fields : writeCommand p .allowance n (le2 v) = some (.writeItemAllowance p n (half _ _)) := rfl
  rw [fields, half_extractLsb']

theorem writeCommand_compressor (off on : Half) (lim : Byte) :
    writeCommand p .compressor n (le2 off ++ le2 on ++ [lim]) = some (.writeItemCompressor p n off on lim) := by
  have fields : writeCommand p .compressor n (le2 off ++ le2 on ++ [lim]) =
    some (.writeItemCompressor p n (half _ _) (half _ _) lim) := rfl
  rw [fields, half_extractLsb', half_extractLsb']

theorem writeCommand_limits (a b c d : Half) :
    writeCommand p .limits n (le2 a ++ le2 b ++ le2 c ++ le2 d) = some (.writeItemLimits p n a b c d) := by
  have fields : writeCommand p .limits n (le2 a ++ le2 b ++ le2 c ++ le2 d) =
    some (.writeItemLimits p n (half _ _) (half _ _) (half _ _) (half _ _)) := rfl
  rw [fields, half_extractLsb', half_extractLsb', half_extractLsb', half_extractLsb']

theorem writeCommand_group (load floor : Half) :
    writeCommand p .group n (le2 load ++ le2 floor) = some (.writeItemGroup p n load floor) := by
  have fields : writeCommand p .group n (le2 load ++ le2 floor) =
    some (.writeItemGroup p n (half _ _) (half _ _)) := rfl
  rw [fields, half_extractLsb', half_extractLsb']

theorem writeCommand_scene (flags : Byte) (fade : Half) (modes : Byte) {ps : List (Byte × Half)}
    (count : ps.length ≤ 17) : writeCommand p .scene n
      (flags :: (le2 fade ++ [modes, byteOf ps.length] ++ pairBytes ps)) =
        some (.writeItemScene p n flags fade modes ps) := by
  have fields : writeCommand p .scene n (flags :: (le2 fade ++ [modes, byteOf ps.length] ++ pairBytes ps)) =
    if (pairBytes ps).length = 3 * (byteOf ps.length).toNat then
      (pairsOf (pairBytes ps)).map (.writeItemScene p n flags (half _ _) modes) else none := rfl
  rw [fields, pairBytes_length, byteOf_toNat (by omega), if_pos rfl, pairsOf_pairBytes, half_extractLsb']
  rfl

end

/-! ## A permitted request (R152) -/

theorem acceptanceCommand_le8 (p : PortId) (acc : BitVec 64) (c1 : Byte) (s1 : Half) (c2 : Byte) (s2 : Half) (th : Byte)
    (si : Half) : acceptanceCommand p (le8 acc ++ [c1] ++ le2 s1 ++ [c2] ++ le2 s2 ++ [th] ++ le2 si) =
      some (.setAcceptance p acc c1 s1 c2 s2 th si) := by
  have fields : acceptanceCommand p (le8 acc ++ [c1] ++ le2 s1 ++ [c2] ++ le2 s2 ++ [th] ++ le2 si) =
    some (.setAcceptance p (acceptanceOf _ _ _ _ _ _ _ _) c1 (half _ _) c2 (half _ _) th (half _ _)) := rfl
  rw [fields, acceptanceOf_le8, half_extractLsb', half_extractLsb', half_extractLsb']

theorem dispatch_write_owned {p : PortId} {role : Role} {k n : Byte} {cls : ItemClass} {rest : List Byte} {c : Instr}
    (known : classOf k = some cls) (owner : writeOwner cls = some role) (fields : writeCommand p cls n rest = some c) :
    dispatch p role 3 (k :: n :: rest) = .handed c := by
  rw [dispatch_write p role known, fields, permitted_of_allowed (decide_eq_true owner)]

/-- The payload of a well-formed request fits in a frame (section 8.2). -/
theorem payload_fits {i : Instr} {p : PortId} {code : Byte} {payload : List Byte} (good : wellFormed i = true)
    (frame : requestFrame i = some (p, code, payload)) : payload.length ≤ 60 := by
  cases i <;> simp only [requestFrame, Option.some.injEq, Prod.mk.injEq, reduceCtorEq] at frame
  all_goals obtain ⟨-, -, rfl⟩ := frame
  case unknownRequest p code payload =>
    simp only [wellFormed, unknownGood, Bool.and_eq_true, decide_eq_true_eq] at good
    exact good.2
  case writeItemReadOnly p k n rest =>
    have short : rest.length ≤ 58 := of_decide_eq_true good
    simp only [List.length_cons]; omega
  case writeItemClimateCfg p n fs =>
    have eighteen : fs.length = 18 := of_decide_eq_true good
    simp [fieldBytes_length, eighteen]
  case writeItemCoverCfg p n fs =>
    have eight : fs.length = 8 := of_decide_eq_true good
    simp [fieldBytes_length, eight]
  case writeItemConsumer p n ds =>
    have count : ds.length = if n = 0 then 4 else 1 := of_decide_eq_true good
    simp only [List.length_append, List.length_cons, List.length_nil, fieldBytes_length, count]
    split <;> omega
  case writeItemScene p n flags fade modes ps =>
    have count : ps.length ≤ 17 := of_decide_eq_true good
    simp only [List.length_append, List.length_cons, List.length_nil, pairBytes_length, le2]
    omega
  all_goals simp [le2, le8]

/-- Settles O3, request by request: the role is the one the test asks for, and the fields are read back. -/
theorem dispatchRecoversEveryRequest : Obligations.DispatchRecoversEveryRequest := by
  intro i role p code payload good may frame
  refine ⟨payload_fits good frame, ?_⟩
  cases i <;> simp only [requestFrame, Option.some.injEq, Prod.mk.injEq, reduceCtorEq] at frame
  all_goals obtain ⟨rfl, rfl, rfl⟩ := frame
  case unknownRequest | writeItemReadOnly => exact Bool.noConfusion may
  case status | takeNotices => rfl
  case readItems p k first count =>
    obtain ⟨cls, known⟩ := Option.isSome_iff_exists.1 may
    have read : dispatch p role 2 [k, first, count] = dispatchRead p [k, first, count] := rfl
    rw [read, dispatchRead, known]
  case setAcceptance p acc c1 s1 c2 s2 th si => exact congrArg handOver (acceptanceCommand_le8 ..)
  case setModeHall p mode target =>
    have other : target ≠ 1 := of_decide_eq_true good
    rw [dispatch_setMode, if_neg other]
    refine permitted_of_allowed ?_ _
    have above : target ≠ 0 → 1 < target.toNat := fun set => by bv_omega
    simp only [mayAsk, Bool.or_eq_true, Bool.and_eq_true, decide_eq_true_eq] at may ⊢
    exact may.imp_right (And.imp_left above)
  case recallLayer p scene target =>
    obtain ⟨start, safety⟩ : target ≠ 1 ∧ target ≠ 2 := by simpa [wellFormed] using good
    rw [dispatch_recall, if_neg start, if_neg safety]
    refine permitted_of_allowed ?_ _
    simp only [start, safety, ne_eq, not_false_eq_true, decide_true, Bool.true_and]
    exact Bool.or_eq_true_iff.2 (.inr may)
  case release p => exact permitted_of_allowed may _
  case storeSettings p => exact permitted_of_allowed may _
  all_goals
    have role_eq := of_decide_eq_true may
    subst role_eq
  case writeItemChannel => rfl
  case writeItemWatch => exact dispatch_write_owned rfl rfl (writeCommand_watch ..)
  case writeItemClimateCfg => exact dispatch_write_owned rfl rfl (writeCommand_climateCfg _ _ (of_decide_eq_true good))
  case writeItemConsumer => exact dispatch_write_owned rfl rfl (writeCommand_consumer _ _ good)
  case writeItemAllowance => exact dispatch_write_owned rfl rfl (writeCommand_allowance ..)
  case writeItemCompressor => exact dispatch_write_owned rfl rfl (writeCommand_compressor ..)
  case writeItemLimits => exact dispatch_write_owned rfl rfl (writeCommand_limits ..)
  case writeItemCoverCfg => exact dispatch_write_owned rfl rfl (writeCommand_coverCfg _ _ (of_decide_eq_true good))
  case writeItemGroup => exact dispatch_write_owned rfl rfl (writeCommand_group ..)
  case writeItemScene => exact dispatch_write_owned rfl rfl (writeCommand_scene _ _ _ _ _ (of_decide_eq_true good))
  case reportWater p t =>
    have fields : dispatch p .pool 0x20 (le2 t) = .handed (.reportWater p (half _ _)) := rfl
    rw [fields, half_extractLsb']
  case gainCorrect p c e =>
    have fields : dispatch p .building 0x51 ([c] ++ le2 e) = .handed (.gainCorrect p c (half _ _)) := rfl
    rw [fields, half_extractLsb']
  all_goals rfl

/-! ## A forbidden request (R151 to R153) -/

theorem dispatch_write_foreign {p : PortId} {role : Role} {k : Byte} {cls : ItemClass} (known : classOf k = some cls)
    (foreign : writeOwner cls ≠ some role) (n : Byte) (rest : List Byte) :
    dispatch p role 3 (k :: n :: rest) = .refused .notPermitted := by
  rw [dispatch_write p role known, permitted_of_forbidden (decide_eq_false foreign)]

theorem dispatch_write_not_owner {p : PortId} {role owner : Role} {k : Byte} {cls : ItemClass}
    (known : classOf k = some cls) (owned : writeOwner cls = some owner) (other : role ≠ owner) (n : Byte)
    (rest : List Byte) : dispatch p role 3 (k :: n :: rest) = .refused .notPermitted :=
  dispatch_write_foreign known (fun own => other (Option.some.inj (own.symm.trans owned))) n rest

/-- R152: what the port answers to a well-formed request that its role may not send, a refused WRITE_ITEM aside. -/
def portRefusal : Instr → Result
  | .unknownRequest .. => .unknown
  | .readItems .. => .badItem
  | _ => .notPermitted

theorem dispatch_of_forbidden {i : Instr} {role : Role} {p : PortId} {code : Byte} {payload : List Byte}
    (good : wellFormed i = true) (may : mayAsk role i = false) (frame : requestFrame i = some (p, code, payload))
    (request : ∀ q k n rest, i ≠ .writeItemReadOnly q k n rest) :
    dispatch p role code payload = .refused (portRefusal i) := by
  cases i <;> simp only [requestFrame, Option.some.injEq, Prod.mk.injEq, reduceCtorEq] at frame
  all_goals obtain ⟨rfl, rfl, rfl⟩ := frame
  case unknownRequest p code payload =>
    simp only [wellFormed, unknownGood, Bool.and_eq_true, Bool.not_eq_true', List.contains_eq_mem,
      decide_eq_false_iff_not] at good
    exact dispatch_unknown p role good.1 payload
  case readItems p k first count =>
    have unknown : classOf k = none := Option.isSome_eq_false_iff.1 may |> Option.isNone_iff_eq_none.1
    have read : dispatch p role 2 [k, first, count] = dispatchRead p [k, first, count] := rfl
    rw [read, dispatchRead, unknown]
    rfl
  case writeItemReadOnly p k n rest => exact absurd rfl (request p k n rest)
  case status | takeNotices | setAcceptance => exact Bool.noConfusion may
  case setModeHall p mode target =>
    have other : target ≠ 1 := of_decide_eq_true good
    rw [dispatch_setMode]
    refine permitted_of_forbidden ?_ _
    have above : 1 < target.toNat → target ≠ 0 := fun above => by bv_omega
    rw [Bool.eq_false_iff] at may ⊢
    refine fun allowed => may ?_
    simp only [mayAsk, Bool.or_eq_true, Bool.and_eq_true, decide_eq_true_eq] at allowed ⊢
    exact allowed.imp_right (And.imp_left above)
  case recallLayer p scene target =>
    have observer : role = .observer := by simpa [mayAsk] using may
    subst observer
    rw [dispatch_recall]
    exact permitted_of_forbidden (by simp) _
  case setModeStart p mode =>
    have role_ne : role ≠ .building := of_decide_eq_false may
    rw [dispatch_setMode]
    exact permitted_of_forbidden (by simp [role_ne]) _
  case recallStart p scene =>
    have role_ne : role ≠ .building := of_decide_eq_false may
    rw [dispatch_recall]
    exact permitted_of_forbidden (by simp [role_ne]) _
  case recallSafety p scene =>
    have role_ne : role ≠ .building := of_decide_eq_false may
    rw [dispatch_recall]
    exact permitted_of_forbidden (by simp [role_ne]) _
  case writeItemChannel | writeItemWatch | writeItemClimateCfg | writeItemConsumer | writeItemAllowance
    | writeItemCompressor | writeItemLimits | writeItemCoverCfg | writeItemGroup | writeItemScene =>
    exact dispatch_write_not_owner rfl rfl (of_decide_eq_false may) _ _
  all_goals exact permitted_of_forbidden may _

/-! ## A valid frame in service (R152, R157, R158) -/

section
variable (p : PortId) (s : State)

theorem heard_of_no_presence (none : s.ports[p].presence = .none) :
    heard p s = setPort p { s.ports[p] with rx := .serving, buffer := [] } s := by
  rw [heard, frameHeard, setPort_same]
  simp only [none]

theorem heard_of_present (present : s.ports[p].presence = .present) : heard p s = setPort p { s.ports[p] with
    rx := .serving, buffer := [], silenceTimer := some (100 * s.ports[p].silence) } s := by
  rw [heard, frameHeard, setPort_same]
  simp only [present, setPort_setPort, fullSilence, Nat.mul_comm]

theorem heard_of_absent (absent : s.ports[p].presence = .absent) :
    heard p s = post .rolePresent p (roleCode s.ports[p].role) (setPort p { s.ports[p] with
      rx := .serving, buffer := [], presence := .present, silenceTimer := some (100 * s.ports[p].silence) } s) := by
  rw [heard, frameHeard, setPort_same]
  simp only [absent, setPort_setPort, fullSilence, Nat.mul_comm]

theorem heard_role : (heard p s).ports[p].role = s.ports[p].role := by
  cases presence : s.ports[p].presence with
  | none => rw [heard_of_no_presence p s presence, setPort_same]
  | present => rw [heard_of_present p s presence, setPort_same]
  | absent => rw [heard_of_absent p s presence, post_ports, setPort_same]

/-- R152: presence is handled first, then the frame is dispatched. -/
theorem serveFrame_eq (code : Byte) (payload : List Byte) : serveFrame p code payload s =
    match dispatch p s.ports[p].role code payload with
    | .refused r => reply p code r (heard p s)
    | .handed c => inService p c s := by
  rw [← heard_role p s]
  rfl

theorem serveFrame_of_refused {code : Byte} {payload : List Byte} {r : Result}
    (refused : dispatch p s.ports[p].role code payload = .refused r) :
    serveFrame p code payload s = reply p code r (heard p s) := by
  rw [serveFrame_eq, refused]

theorem serveFrame_of_handed {code : Byte} {payload : List Byte} {c : Instr}
    (handed : dispatch p s.ports[p].role code payload = .handed c) :
    serveFrame p code payload s = inService p c s := by
  rw [serveFrame_eq, handed]

theorem served_inService (c : Instr) : Served (inService p c s) p c := by
  rw [Served, inService, setPort_same]

end

/-- R151: a frame that an IDLE port refuses gets the one reply. -/
theorem portStep_of_refused {p : PortId} {code : Byte} {payload : List Byte} {i : Instr} {r : Result} {s : State}
    (good : wellFormed i = true) (frame : requestFrame i = some (p, code, payload)) (idle : s.ports[p].rx = .idle)
    (refused : dispatch p s.ports[p].role code payload = .refused r) :
    portStep i s = reply p code r (heard p s) := by
  rw [portStep, frame]
  exact (deliver_of_idle code idle (payload_fits good frame)).trans (serveFrame_of_refused p s refused)

/-- Settles O4: the refusals request by request, then the rows that the port answers itself. -/
theorem portRefusesForbiddenRequests : Obligations.PortRefusesForbiddenRequests := by
  refine ⟨fun i role p code payload good may frame => ?_, fun p code payload s good idle => ?_,
    fun p k n rest s good idle => ⟨fun unknown => ?_, fun cls known foreign => ?_⟩⟩
  · cases i
    case writeItemReadOnly q k n rest =>
      obtain ⟨rfl, rfl, rfl⟩ : q = p ∧ 3 = code ∧ k :: n :: rest = payload := by simpa [requestFrame] using frame
      exact ⟨fun unknown => dispatch_write_unknown q role unknown n rest,
        fun cls known foreign => dispatch_write_foreign known foreign n rest⟩
    all_goals exact dispatch_of_forbidden good may frame nofun
  · exact congrArg Host.Outcome.next (portStep_of_refused good rfl idle (dispatch_of_forbidden good rfl rfl nofun))
  · exact congrArg Host.Outcome.next (portStep_of_refused good rfl idle (dispatch_write_unknown p _ unknown n rest))
  · exact congrArg Host.Outcome.next (portStep_of_refused good rfl idle (dispatch_write_foreign known foreign n rest))

/-- A request row is the step of its request at its port (log 1). -/
theorem exec_eq_requestStep {i : Instr} {role : Role} {p : PortId} {code : Byte} {payload : List Byte}
    (may : mayAsk role i = true) (frame : requestFrame i = some (p, code, payload)) (s : State) :
    exec i s = .next (requestStep p i s) := by
  cases i <;> simp only [requestFrame, Option.some.injEq, Prod.mk.injEq, reduceCtorEq] at frame
  all_goals obtain ⟨rfl, rfl, rfl⟩ := frame
  case unknownRequest | writeItemReadOnly => exact Bool.noConfusion may
  all_goals rfl

/-- A request row on an IDLE port is its frame, and then the taking of the request (log 1). -/
theorem requestStep_of_idle {i : Instr} {p : PortId} {code : Byte} {payload : List Byte} {s : State}
    (good : wellFormed i = true) (may : mayAsk s.ports[p].role i = true) (frame : requestFrame i = some (p, code, payload))
    (idle : s.ports[p].rx = .idle) (free : s.ports[p].handed = none) :
    requestStep p i s = requestStep p i (inService p i s) := by
  have delivered : deliver p code payload s = inService p i s := by
    obtain ⟨fits, handed⟩ := dispatchRecoversEveryRequest i s.ports[p].role p code payload good may frame
    exact (deliver_of_idle code idle fits).trans (serveFrame_of_handed p s handed)
  have served := served_inService p s i
  rw [requestStep_of_served served, requestStep, if_neg (free ▸ nofun), frame]
  dsimp only
  rw [delivered]
  exact if_pos served

/-- Settles O6: presence by its three states, then the dispatch, which for a permitted row hands over the row. -/
theorem serviceHandlesPresenceThenDispatch : Obligations.ServiceHandlesPresenceThenDispatch := by
  refine ⟨fun p code payload s => ⟨heard_of_no_presence p s, heard_of_present p s, heard_of_absent p s,
    (serveFrame_eq p s code payload).trans ?_⟩, fun i p code payload s good frame may idle free =>
      ⟨served_inService p s i, ?_⟩⟩
  · cases dispatch p s.ports[p].role code payload <;> rfl
  · rw [exec_eq_requestStep may frame, exec_eq_requestStep may frame, requestStep_of_idle good may frame idle free]

end Sys2Proof.Machine
end

section
/-! The silence of a role (R157) with what it does to the cover report (R104) and to the layers (R134). -/

namespace Sys2Proof.Machine

variable {s t u : State}

/-! ## What an event that only posts leaves of a port -/

/-- Every port stands as it stood, but for what has been filed at it. -/
def PortsFiled (s t : State) : Prop :=
  ∀ q : PortId, t.ports[q] = { s.ports[q] with notices := t.ports[q].notices }

theorem portsFiled_of_ports (same : t.ports = s.ports) : PortsFiled s t := fun _ => by rw [same]

theorem PortsFiled.trans (first : PortsFiled s t) (second : PortsFiled t u) : PortsFiled s u := fun q => by
  rw [second q, first q]

theorem portsFiled_post (c : Code) (n : Nat) (v : Int) (s : State) : PortsFiled s (post c n v s) := fun q => by
  rw [post_ports]

theorem portsFiled_coverEvaluated (s : State) : PortsFiled s (coverEvaluated s) := by
  unfold coverEvaluated
  dsimp only
  split
  · exact portsFiled_of_ports rfl
  · split
    · exact portsFiled_of_ports rfl
    · exact fun q => postAll_port _ s q

theorem portsFiled_reported (r : Report) (s : State) : PortsFiled s (reported r s) := by
  unfold reported
  split
  · exact portsFiled_of_ports rfl
  · exact portsFiled_coverEvaluated _

/-- R104: once reported, the report stands. -/
theorem reported_report (r : Report) (s : State) : (reported r s).cover.report = r := by
  unfold reported
  split
  next same => exact same.symm
  next => exact (coverEvaluated_keeps _).1

/-! ## The layer of a silent role (R134) -/

theorem silenceLayer_of_empty {k : Layer} (empty : getLayer u.light.layers k = none) : silenceLayer k u = u := by
  rw [silenceLayer, empty]

theorem silenceLayer_of_standing {k : Layer} {st : Standing} (standing : getLayer u.light.layers k = some st) :
    silenceLayer k u = { post .layerReleased (layerCode k) st.scene u with
      light := retargetFade (sceneAt u.light st.scene).fade
        { u.light with layers := setLayer k none u.light.layers } } := by
  rw [silenceLayer, standing]
  rfl

theorem silenceLayer_silenced (k : Layer) (u : State) : LayerSilenced k u (silenceLayer k u) := by
  refine ⟨silenceLayer_of_empty, fun st standing => ?_⟩
  rw [silenceLayer_of_standing standing]
  exact ⟨rfl, rfl, retargetFade_setLayer ..⟩

theorem portsFiled_silenceLayer (k : Layer) (u : State) : PortsFiled u (silenceLayer k u) := by
  cases standing : getLayer u.light.layers k with
  | none => exact portsFiled_of_ports (by rw [silenceLayer_of_empty standing])
  | some st =>
    rw [silenceLayer_of_standing standing]
    exact PortsFiled.trans (portsFiled_post _ _ _ u) (portsFiled_of_ports rfl)

theorem setLayer_none_of_empty {k : Layer} {l : Layers} (empty : getLayer l k = none) : setLayer k none l = l := by
  obtain ⟨base, showing, work, safety⟩ := l
  cases k <;> cases empty <;> rfl

/-- The layer is empty afterwards, and no other layer is touched. -/
theorem silenceLayer_layers (k : Layer) (u : State) :
    (silenceLayer k u).light.layers = setLayer k none u.light.layers := by
  cases standing : getLayer u.light.layers k with
  | none =>
    rw [silenceLayer_of_empty standing, setLayer_none_of_empty standing]
  | some st => rw [silenceLayer_of_standing standing]; rfl

theorem silenceLayer_touches (k : Layer) (u : State) : silenceLayer k u =
    { u with light := (silenceLayer k u).light, ports := (silenceLayer k u).ports } := by
  cases standing : getLayer u.light.layers k with
  | none => rw [silenceLayer_of_empty standing]
  | some st => rw [silenceLayer_of_standing standing]; rfl

/-! ## What each role's silence does -/

theorem roleSilent_pool (u : State) : roleSilent .pool u = silenceLayer .work (reported .unknown u) := by
  rw [← changeReport_eq]
  rfl

theorem reported_touches (r : Report) (u : State) :
    reported r u = { u with cover := (reported r u).cover, ports := (reported r u).ports } := by
  rw [← changeReport_eq]
  exact changeReport_touches r u

theorem reported_light (r : Report) (u : State) : (reported r u).light = u.light := by
  rw [reported_touches]

theorem portsFiled_roleSilent (role : Role) (u : State) : PortsFiled u (roleSilent role u) := by
  cases role with
  | pool => rw [roleSilent_pool]; exact (portsFiled_reported .unknown u).trans (portsFiled_silenceLayer .work _)
  | lighting => exact portsFiled_silenceLayer .showing u
  | building | observer => exact portsFiled_of_ports rfl

theorem roleSilent_touches (role : Role) (u : State) : roleSilent role u =
    { u with cover := (roleSilent role u).cover, light := (roleSilent role u).light, ports := (roleSilent role u).ports } := by
  have frame := roleSilent_frame role u
  generalize roleSilent role u = t at frame
  cases t
  simpa using frame

/-- R134: BASE and SAFETY have no owner that can fall silent. -/
theorem roleSilent_keeps_base_safety (role : Role) (u : State) :
    (roleSilent role u).light.layers.base = u.light.layers.base ∧
      (roleSilent role u).light.layers.safety = u.light.layers.safety := by
  cases role with
  | pool => rw [roleSilent_pool, silenceLayer_layers, reported_light]; exact ⟨rfl, rfl⟩
  | lighting => rw [roleSilent, silenceLayer_layers]; exact ⟨rfl, rfl⟩
  | building | observer => exact ⟨rfl, rfl⟩

/-! ## The expiry of the silence timer -/

/-- R157: the role is ABSENT, its timer stopped and ROLE_ABSENT posted. -/
def fallenSilent (p : PortId) (k : Nat) (s : State) : State :=
  post .roleAbsent p (roleCode s.ports[p].role)
    (setPort p { (elapse k s).ports[p] with presence := .absent, silenceTimer := none } (elapse k s))

theorem elapse_role (k : Nat) (s : State) (p : PortId) : (elapse k s).ports[p].role = s.ports[p].role := by
  rw [elapse_ports]
  split <;> rfl

theorem silenceStep_of_running {p : PortId} {k : Nat} (present : s.ports[p].presence = .present)
    (runs : s.ports[p].silenceTimer = some k) :
    silenceStep p s = roleSilent s.ports[p].role (fallenSilent p k s) := by
  simp only [silenceStep, runs]
  rw [if_pos present, silenceEnd, fallenSilent]
  dsimp only
  rw [show (elapse k s).ports[p].role = s.ports[p].role from elapse_role k s p]

theorem fallenSilent_light (p : PortId) (k : Nat) (s : State) : (fallenSilent p k s).light = s.light := by
  rw [fallenSilent, (post_frame ..).2.2.2.2.2.2.2.2.2.2.2.2.2.1]
  exact (elapse_frame k s).2.2.2.2.2.2.2.2.1

theorem fallenSilent_absent (p : PortId) (k : Nat) (s : State) :
    (fallenSilent p k s).ports[p].presence = .absent ∧ (fallenSilent p k s).ports[p].silenceTimer = none := by
  rw [fallenSilent, post_ports, setPort_same]
  exact ⟨rfl, rfl⟩

/-- Settles O36: the role falls silent, and each role touches the report and the layer it owns. -/
theorem silenceMakesTheRoleAbsent : Obligations.SilenceMakesTheRoleAbsent := by
  intro p k s present runs
  have light := fallenSilent_light p k s
  have cover : (fallenSilent p k s).cover = s.cover := by simp [fallenSilent]
  have filed := portsFiled_roleSilent s.ports[p].role (fallenSilent p k s) p
  obtain ⟨absent, stopped⟩ := fallenSilent_absent p k s
  obtain ⟨base, safety⟩ := roleSilent_keeps_base_safety s.ports[p].role (fallenSilent p k s)
  rw [light] at base safety
  refine ⟨_, fallenSilent p k s, congrArg Host.Outcome.next (silenceStep_of_running present runs), rfl, roleSilent_touches _ _,
    by rw [filed]; exact absent, by rw [filed]; exact stopped, ?_, ?_, ?_, base, safety⟩
  · rintro (role | role) <;> rw [role] <;> rfl
  · intro role
    rw [role, roleSilent_pool, silenceLayer_layers, reported_light, light]
    refine ⟨?_, rfl, rfl, silenceLayer_silenced ..⟩
    rw [silenceLayer_touches]
    exact reported_report ..
  · intro role
    rw [role, roleSilent, silenceLayer_layers, light]
    refine ⟨?_, rfl, rfl, silenceLayer_silenced ..⟩
    rw [silenceLayer_touches]
    exact cover

end Sys2Proof.Machine
end

section
/-! The warm restart (R155, R171), block by block. -/

namespace Sys2Proof.Machine

variable {s t u : State}

/-! ## No request in service -/

/-- R155: with no request in service the restart has nothing to answer first. -/
theorem answerAll_of_free (free : ∀ q : PortId, s.ports[q].handed = none) : answerAll s = s := by
  have none_waits : portsInService s = [] := by
    refine List.filter_eq_nil_iff.2 fun q _ => ?_
    rw [free q, Option.isSome_none, Bool.and_false]
    exact Bool.false_ne_true
  rw [answerAll, none_waits]

/-! ## Channels (R11, R16) -/

theorem restartChannel_of_unused {c : Channel} (unused : c.status = .unused) : restartChannel c = c := if_pos unused

theorem restartChannel_of_used {c : Channel} (used : c.status ≠ .unused) :
    restartChannel c = { c with status := .settling, window := [], rail := 0, settle := 0 } := if_neg used

theorem restartChannel_cfg (c : Channel) : (restartChannel c).cfg = c.cfg := by
  unfold restartChannel
  split <;> rfl

theorem restartChannels_touches (s : State) :
    restartChannels s = { s with channels := (restartChannels s).channels, search := none } := by
  cases search : s.search with
  | none => simp only [restartChannels, search]
  | some r => simp only [restartChannels, search, abortSearch_of_some search rfl]; rfl

theorem restartChannels_other {n : ChanId} (still : underSearch s n = false) :
    (restartChannels s).channels[n] = restartChannel s.channels[n] := by
  have aborted : ∀ r, s.search = some r → n ≠ r.channel := by
    rintro r search rfl
    rw [underSearch_of_some search] at still
    simp at still
  unfold restartChannels
  split
  next r search => simpa using congrArg restartChannel (abortSearch_other s (aborted r search))
  next => simp

/-- R16: the channel under search restarts with the trim code that was in force when the search began. -/
theorem restartChannels_searched {r : Search} (search : s.search = some r) :
    (restartChannels s).channels[r.channel] = restartChannel { s.channels[r.channel] with
      cfg := { s.channels[r.channel].cfg with trim := r.trimBefore } } := by
  simp only [restartChannels, search, abortSearch_of_some search rfl]
  simp [clearSearch]

/-! ## Watches and covers (R24, R124) -/

theorem alertTripped_of_cleared (cleared : ∀ i : Fin 8, s.watches[i].tripped = false) : alertTripped s = false := by
  rw [Bool.eq_false_iff, ne_eq, alertTripped_iff]
  rintro ⟨i, -, tripped⟩
  rw [cleared i] at tripped
  cases tripped

section
variable (switch : Bool) (c : Cover)

theorem freshDerived_derived : (freshDerived switch c).derived =
    if c.report = .moving then .moving else if switch then .closed else .coverOpen := by
  unfold freshDerived
  cases c.report <;> cases switch <;> rfl

theorem freshDerived_report_cfg : (freshDerived switch c).report = c.report ∧ (freshDerived switch c).cfg = c.cfg := by
  unfold freshDerived
  split <;> exact ⟨rfl, rfl⟩

theorem freshDerived_of_held (held : (pairOutcome c.report switch).isNone = true) :
    (freshDerived switch c).mismatch = 0 := by
  rw [freshDerived, Option.isNone_iff_eq_none.1 held]

theorem freshDerived_of_moving (moving : c.report = .moving) : (freshDerived switch c).travel = 0 := by
  simp only [freshDerived, moving, pairOutcome, if_true]

theorem freshDerived_of_row {d : Derived} {only : Bool} (row : pairOutcome c.report switch = some (d, only)) :
    (freshDerived switch c).switchOnly = only := by
  rw [freshDerived, row]

end

/-- R111, R124: with no watch TRIPPED a closed cover starts its night in SETTLE. -/
theorem coverRestarted_of_quiet (quiet : alertTripped s = false) : coverRestarted s =
    { cleared (if (freshDerived s.seq.coverLimit.active s.cover).derived = .closed then .settle else .idle)
        (freshDerived s.seq.coverLimit.active s.cover) with cycles := 0 } := by
  have night : nightState s .settle = .settle := if_neg (by rw [quiet]; exact Bool.false_ne_true)
  rw [coverRestarted, night]
  by_cases closed : (freshDerived s.seq.coverLimit.active s.cover).derived = .closed
  · rw [if_pos closed]; exact if_pos closed
  · rw [if_neg closed]; exact if_neg closed

/-! ## Ports (R155, R167) -/

section
variable (q : Port)

theorem restartPort_keeps : (restartPort q).role = q.role ∧ (restartPort q).clash = q.clash ∧
    (restartPort q).presence = q.presence ∧ (restartPort q).silence = q.silence := by
  unfold restartPort restartReceiver
  cases q.rx <;> exact ⟨rfl, rfl, rfl, rfl⟩

theorem restartPort_notices : (restartPort q).notices = emptyStore q.notices := by
  unfold restartPort restartReceiver
  cases q.rx <;> rfl

theorem restartPort_timer (present : q.presence = .present) :
    (restartPort q).silenceTimer = some (100 * q.silence) := by
  unfold restartPort restartReceiver
  rw [Nat.mul_comm]
  cases q.rx <;> exact if_pos present

theorem restartPort_rx (still : q.rx = .idle ∨ q.rx = .receiving ∨ q.rx = .discarding) :
    (restartPort q).rx = .idle := by
  unfold restartPort restartReceiver
  rcases still with rx | rx | rx <;> rw [rx]
  · exact rx
  · rfl

theorem restartPort_discards :
    (restartPort q).discards = if q.rx = .receiving then moreDiscards q.discards else q.discards := by
  unfold restartPort restartReceiver
  cases q.rx <;> rfl

end

/-! ## The lapse filed at the emptied stores -/

/-- What is filed at one port depends on part time and that port's store alone. -/
theorem postAll_notices_congr (ns : List (Code × Nat × Int)) (q : PortId) (pt : t.pt = s.pt) (tick : t.tick = s.tick)
    (store : t.ports[q].notices = s.ports[q].notices) :
    (postAll ns t).ports[q].notices = (postAll ns s).ports[q].notices := by
  induction ns generalizing s t with
  | nil => exact store
  | cons n ns ih => exact ih pt tick (by rw [post_ports, post_ports, store, pt, tick])

theorem fileNotice_of_empty (n : Notice) {q : NoticeStore} (queue : q.queue = []) :
    (fileNotice n q).drops = q.drops := by
  unfold fileNotice enqueue
  rw [queue]
  split
  · split <;> rfl
  · split <;> rfl

/-- R124: the notice of a permission that a warm restart withdraws. -/
def restartLapse (c : Cover) : List (Code × Nat × Int) :=
  if c.prog = .released then [(.coverReleaseLapsed, 3, ((c.cfg.permissionHold - c.elapsed : Nat) : Int))] else []

/-- A store that at most one lapse has reached since it was emptied has dropped nothing and keeps its choices. -/
theorem postAll_restartLapse (c : Cover) (q : PortId) {n : NoticeStore} (store : s.ports[q].notices = emptyStore n) :
    let m := (postAll (restartLapse c) s).ports[q].notices
    (m.acceptance = n.acceptance ∧ m.filter1 = n.filter1 ∧ m.filter2 = n.filter2 ∧ m.threshold = n.threshold) ∧
      m.drops = 0 ∧ (c.prog ≠ .released → m.slot = none ∧ m.queue = []) := by
  unfold restartLapse
  split
  next released =>
    have filed : ∀ v, (postAll [(.coverReleaseLapsed, 3, v)] s).ports[q].notices =
        fileNotice ⟨.coverReleaseLapsed, 3, BitVec.ofInt 16 v, s.pt, s.tick⟩ (emptyStore n) := fun v => by
      rw [← store]
      exact congrArg Port.notices (post_ports _ _ v s q)
    dsimp only
    rw [filed]
    obtain ⟨filter1, filter2, acceptance, threshold⟩ := fileNotice_choices
      ⟨.coverReleaseLapsed, 3, BitVec.ofInt 16 ((c.cfg.permissionHold - c.elapsed : Nat) : Int), s.pt, s.tick⟩ (emptyStore n)
    exact ⟨⟨acceptance, filter1, filter2, threshold⟩, fileNotice_of_empty _ rfl, fun other => absurd released other⟩
  next =>
    have stands : (postAll [] s).ports[q].notices = emptyStore n := store
    dsimp only
    rw [stands]
    exact ⟨⟨rfl, rfl, rfl, rfl⟩, rfl, fun _ => ⟨rfl, rfl⟩⟩

/-! ## The restart of all records -/

/-- R171: the records as the programme finds them at its restart. -/
def warmed (s : State) : State :=
  { s with
    timers := { s.timers with pass := 200, compute := 1000 }
    channels := (restartChannels s).channels
    search := none
    watches := s.watches.map fun w => { w with tripped := false, latch := false, lost := false }
    climate := { s.climate with i16 := 0, heatCount := 0, moistCount := 0, heatBlind := false, moistBlind := false }
    ports := s.ports.map restartPort
    restartPending := none }

theorem restartRecords_eq (s : State) : restartRecords s = restartCover (warmed s) := by
  have channels : (restartChannels { s with ports := s.ports.map restartPort, restartPending := none }).channels =
      (restartChannels s).channels := by
    cases search : s.search with
    | none => simp only [restartChannels, search]
    | some r => simp only [restartChannels, search, abortSearch, if_true]; rfl
  rw [restartRecords, restartChannels_touches, channels]
  rfl

theorem restartCover_posts (s : State) :
    restartCover s = { postAll (restartLapse s.cover) s with cover := coverRestarted s } := by
  rw [restartCover_eq]
  unfold restartLapse permissionRemaining
  split <;> rfl

theorem alertTripped_warmed (s : State) : alertTripped (warmed s) = false :=
  alertTripped_of_cleared fun i => by simp [warmed]

theorem warmed_port (s : State) (q : PortId) : (warmed s).ports[q] = restartPort s.ports[q] := by
  simp [warmed]

theorem postAll_keeps (ns : List (Code × Nat × Int)) (s : State) :
    postAll ns s = { s with ports := (postAll ns s).ports } := by
  induction ns generalizing s with
  | nil => rfl
  | cons n ns ih => exact ih _

theorem setPort_other {p q : PortId} (r : Port) (s : State) (other : q ≠ p) : (setPort p r s).ports[q] = s.ports[q] := by
  have apart : p.val ≠ q.val := fun same => other (Fin.ext same.symm)
  simp [apart]

/-- R150, R155: the reply to RESTART has been sent. -/
theorem replyEnd_of_restart {p : PortId} (sending : s.ports[p].rx = .transmitting) (pending : s.restartPending = some p)
    (free : ∀ q : PortId, s.ports[q].handed = none) :
    replyEnd p s = restartRecords (setPort p (endReply .idle s.ports[p]) s) := by
  have ended (q : PortId) : (setPort p (endReply .idle s.ports[p]) s).ports[q].handed = none := by
    by_cases same : q = p
    · subst same; rw [setPort_same]; exact free q
    · rw [setPort_other _ _ same]; exact free q
  unfold replyEnd
  exact (if_neg (not_not.2 sending)).trans ((if_pos pending).trans (congrArg restartRecords (answerAll_of_free ended)))

section
variable {p : PortId}

/-- R155: the ports that a restart finds: the one that sent the reply is IDLE. -/
def replied (p : PortId) (s : State) : State := setPort p (endReply .idle s.ports[p]) s

theorem replied_same (p : PortId) (s : State) : (replied p s).ports[p] = endReply .idle s.ports[p] := setPort_same ..

theorem replied_other {q : PortId} (other : q ≠ p) : (replied p s).ports[q] = s.ports[q] := setPort_other _ _ other

/-- The end of a reply touches the line of its port alone. -/
theorem replied_keeps (p q : PortId) (s : State) :
    ∃ rx tx overrun idleAfter, (replied p s).ports[q] =
      { s.ports[q] with rx := rx, tx := tx, overrun := overrun, idleAfter := idleAfter } := by
  by_cases same : q = p
  · subst same; exact ⟨_, _, _, _, replied_same q s⟩
  · exact ⟨_, _, _, _, replied_other same⟩

theorem restartCover_port (q : PortId) (s : State) : (restartCover (warmed s)).ports[q] =
    { restartPort s.ports[q] with notices := (postAll (restartLapse s.cover) (warmed s)).ports[q].notices } := by
  rw [restartCover_posts, ← warmed_port]
  exact postAll_port (restartLapse s.cover) (warmed s) q

theorem warmed_replied_notices (p q : PortId) (s : State) :
    (warmed (replied p s)).ports[q].notices = emptyStore s.ports[q].notices := by
  obtain ⟨rx, tx, overrun, idleAfter, line⟩ := replied_keeps p q s
  rw [warmed_port, restartPort_notices, line]

theorem restarted_rx {q : PortId} (still : q = p ∨ s.ports[q].rx = .idle ∨ s.ports[q].rx = .receiving ∨
    s.ports[q].rx = .discarding) : (restartPort (replied p s).ports[q]).rx = .idle := by
  by_cases same : q = p
  · subst same; rw [replied_same]; exact restartPort_rx _ (.inl rfl)
  · rw [replied_other same]; exact restartPort_rx _ (still.resolve_left same)

theorem restarted_discards (sending : s.ports[p].rx = .transmitting) (q : PortId) :
    (restartPort (replied p s).ports[q]).discards =
      if s.ports[q].rx = .receiving ∧ q ≠ p then moreDiscards s.ports[q].discards else s.ports[q].discards := by
  rw [restartPort_discards]
  by_cases same : q = p
  · subst same
    rw [replied_same, if_neg (fun idle => RxState.noConfusion idle), if_neg fun both => both.2 rfl]
    rfl
  · rw [replied_other same]
    by_cases receiving : s.ports[q].rx = .receiving
    · rw [if_pos receiving, if_pos ⟨receiving, same⟩]
    · rw [if_neg receiving, if_neg fun both => receiving both.1]

/-- R124, R155, R171: the records of a warm restart outside the ports. -/
theorem warmRestart_touches (p : PortId) (s : State) : restartCover (warmed (replied p s)) =
    { warmed s with
      channels := (restartChannels (replied p s)).channels
      cover := { cleared (if (freshDerived s.seq.coverLimit.active s.cover).derived = .closed then .settle else .idle)
        (freshDerived s.seq.coverLimit.active s.cover) with cycles := 0 }
      ports := (restartCover (warmed (replied p s))).ports } := by
  rw [restartCover_posts, coverRestarted_of_quiet (alertTripped_warmed _), postAll_keeps]
  rfl

/-- Settles O9: nothing waits in service, so the records restart as they stand, block by block. -/
theorem warmRestartKeepsAndResets : Obligations.WarmRestartKeepsAndResets := by
  intro p s sending pending free
  have exec_eq : exec (.replySent p) s = .next (restartCover (warmed (replied p s))) :=
    congrArg Host.Outcome.next ((replyEnd_of_restart sending pending free).trans (restartRecords_eq _))
  have whole := warmRestart_touches p s
  have port q := restartCover_port q (replied p s)
  obtain ⟨report, cfg⟩ := freshDerived_report_cfg s.seq.coverLimit.active s.cover
  refine ⟨_, exec_eq, by rw [whole]; rfl, fun n unused still => ?_, fun n used still => ?_, fun r search => ?_, ?_⟩
  · rw [whole]
    exact (restartChannels_other (s := replied p s) still).trans (restartChannel_of_unused unused)
  · rw [whole]
    exact (restartChannels_other (s := replied p s) still).trans (restartChannel_of_used used)
  · rw [whole]
    have searched := restartChannels_searched (s := replied p s) search
    exact ⟨(congrArg (·.cfg.trim) searched).trans (congrArg (·.trim) (restartChannel_cfg _)),
      fun used => searched.trans (restartChannel_of_used used)⟩
  · have cover := congrArg State.cover whole
    rw [cover]
    refine ⟨report, cfg, freshDerived_derived .., rfl, rfl, rfl, rfl, rfl, rfl, rfl, rfl, rfl, rfl,
      freshDerived_of_held _ _, freshDerived_of_moving _ _, fun d only => freshDerived_of_row _ _, fun q => ?_⟩
    obtain ⟨role, clash, presence, silence⟩ := restartPort_keeps (replied p s).ports[q]
    obtain ⟨⟨acceptance, filter1, filter2, threshold⟩, drops, quiet⟩ :=
      postAll_restartLapse s.cover q (warmed_replied_notices p q s)
    obtain ⟨rx, tx, overrun, idleAfter, line⟩ := replied_keeps p q s
    have timer := restartPort_timer (replied p s).ports[q]
    rw [line] at role clash presence silence timer
    rw [port q]
    refine ⟨postAll_notices_congr _ q rfl rfl ?_, ?_, ?_, ?_, ?_, ?_, acceptance, filter1, filter2, threshold, drops, quiet,
      restarted_rx, restarted_discards sending q⟩
    · rw [warmed_replied_notices]; simp [emptyStore]
    all_goals rw [line]
    exacts [role, clash, presence, silence, timer]

end

end Sys2Proof.Machine
end

section
/-! Fields of records (R172): what a field read at an offset holds, by the way the record carries it. -/

namespace Sys2Proof.Machine

/-! ## Offsets -/

section
variable {b t : List Byte} {o n : Nat}

/-- A field at an offset is the field at the head of what follows it. -/
theorem fieldAt_drop (b : List Byte) (o n : Nat) : fieldAt b o n = fieldAt (b.drop o) 0 n := by
  simp only [fieldAt, List.getD_eq_getElem?_getD, List.getElem?_drop, Nat.zero_add]

theorem fieldAt_drop_add (b : List Byte) (o d n : Nat) : fieldAt b (o + d) n = fieldAt (b.drop o) d n := by
  rw [fieldAt_drop b, ← List.drop_drop, ← fieldAt_drop]

/-- A field within a first part does not depend on what follows it. -/
theorem fieldAt_append_left {a : List Byte} (within : o + n ≤ a.length) (t : List Byte) :
    fieldAt (a ++ t) o n = fieldAt a o n := by
  refine List.foldr_ext _ _ _ fun k inside acc => ?_
  rw [List.getD_append _ _ _ _ (by have := List.mem_range.1 inside; omega)]

/-- A field past a first part is one of what follows it. -/
theorem fieldAt_append_right {a : List Byte} (t : List Byte) (length : a.length = o) (d n : Nat) :
    fieldAt (a ++ t) (o + d) n = fieldAt t d n := by
  subst length
  rw [fieldAt_drop_add, List.drop_left]

/-- Filling bytes read as 0. -/
theorem fieldAt_zeros (m o n : Nat) : fieldAt (List.replicate m 0) o n = 0 := by
  have zero (k acc : Nat) : ((List.replicate m (0 : Byte)).getD (o + k) 0).toNat + 256 * acc = 256 * acc := by
    have filling : (List.replicate m (0 : Byte)).getD (o + k) 0 = 0 := List.getElem?_getD_replicate_default_eq _ _ _
    rw [filling]
    exact Nat.zero_add _
  rw [fieldAt, List.foldr_ext _ _ _ fun k _ acc => zero k acc]
  induction List.range n with
  | nil => rfl
  | cons k ks ih => rw [List.foldr_cons, ih]

/-! ## What each way of carrying a number reads back as -/

theorem fieldAt_byte {x : Byte} (at_offset : b.drop o = x :: t) : fieldAt b o 1 = x.toNat := by
  rw [fieldAt_drop, at_offset]; rfl

theorem fieldAt_le2 {v : Half} (at_offset : b.drop o = le2 v ++ t) : fieldAt b o 2 = v.toNat := by
  have bytes : fieldAt (le2 v ++ t) 0 2 = v.toNat % 256 + 256 * (v.toNat / 2 ^ 8 % 256) := by
    simp [fieldAt, le2, List.range_succ, Nat.shiftRight_eq_div_pow]
  rw [fieldAt_drop, at_offset, bytes]
  have := v.isLt
  omega

theorem fieldAt_le4 {v : Word} (at_offset : b.drop o = le4 v ++ t) : fieldAt b o 4 = v.toNat := by
  have bytes : fieldAt (le4 v ++ t) 0 4 = v.toNat % 256 + 256 * (v.toNat / 2 ^ 8 % 256 + 256 * (v.toNat / 2 ^ 16 % 256 +
      256 * (v.toNat / 2 ^ 24 % 256))) := by
    simp [fieldAt, le4, List.range_succ, Nat.shiftRight_eq_div_pow]
  rw [fieldAt_drop, at_offset, bytes]
  have := v.isLt
  omega

theorem fieldAt_le8 {v : BitVec 64} (at_offset : b.drop o = le8 v ++ t) : fieldAt b o 8 = v.toNat := by
  have bytes : fieldAt (le8 v ++ t) 0 8 = v.toNat % 256 + 256 * (v.toNat / 2 ^ 8 % 256 + 256 * (v.toNat / 2 ^ 16 % 256 +
      256 * (v.toNat / 2 ^ 24 % 256 + 256 * (v.toNat / 2 ^ 32 % 256 + 256 * (v.toNat / 2 ^ 40 % 256 +
      256 * (v.toNat / 2 ^ 48 % 256 + 256 * (v.toNat / 2 ^ 56 % 256))))))) := by
    simp [fieldAt, le8, List.range_succ, Nat.shiftRight_eq_div_pow]
  rw [fieldAt_drop, at_offset, bytes]
  have := v.isLt
  omega

theorem fieldAt_nat {v : Nat} (at_offset : b.drop o = natField v ++ t) : fieldAt b o 2 = v % 65536 :=
  (fieldAt_le2 at_offset).trans (BitVec.toNat_ofNat v 16)

theorem fieldAt_int {v : Int} (at_offset : b.drop o = intField v ++ t) : fieldAt b o 2 = signedField v :=
  (fieldAt_le2 at_offset).trans (BitVec.toNat_ofInt v)

theorem fieldAt_byteOf {v : Nat} (at_offset : b.drop o = byteOf v :: t) : fieldAt b o 1 = v % 256 :=
  (fieldAt_byte at_offset).trans (BitVec.toNat_ofNat v 8)

/-- A code or small count fits its byte. -/
theorem fieldAt_code {v : Nat} (at_offset : b.drop o = byteOf v :: t) (small : v < 256) : fieldAt b o 1 = v :=
  (fieldAt_byteOf at_offset).trans (Nat.mod_eq_of_lt small)

theorem flagByte_toNat (f : Bool) : (flagByte f).toNat = f.toNat := by cases f <;> rfl

theorem fieldAt_flag {f : Bool} (at_offset : b.drop o = flagByte f :: t) : fieldAt b o 1 = f.toNat :=
  (fieldAt_byte at_offset).trans (flagByte_toNat f)

theorem flagsOf_lt (fs : List Bool) : flagsOf fs < 2 ^ fs.length := by
  induction fs with
  | nil => exact Nat.one_pos
  | cons f fs ih =>
    have split : flagsOf (f :: fs) = f.toNat + 2 * flagsOf fs := rfl
    have bit := f.toNat_le
    rw [split, List.length_cons, Nat.pow_succ]
    omega

theorem fieldAt_flags {fs : List Bool} (at_offset : b.drop o = flagsByte fs :: t) (fits : fs.length ≤ 8 := by simp) :
    fieldAt b o 1 = flagsOf fs :=
  fieldAt_code at_offset ((flagsOf_lt fs).trans_le (Nat.pow_le_pow_right (by decide) fits))

end

/-! ## Rows of fields of one width -/

section
variable {α : Type} {f : α → List Byte} {w : Nat}

theorem flatMap_length_of_width (width : ∀ x, (f x).length = w) (xs : List α) : (xs.flatMap f).length = w * xs.length := by
  induction xs with
  | nil => rfl
  | cons x xs ih => rw [List.flatMap_cons, List.length_append, ih, width, List.length_cons, Nat.mul_succ, Nat.add_comm]

/-- Row j of a list of rows starts at j widths. -/
theorem fieldAt_row (width : ∀ x, (f x).length = w) (t : List Byte) {d n : Nat} (within : d + n ≤ w) {xs : List α} {j : Nat}
    (inside : j < xs.length) : fieldAt (xs.flatMap f ++ t) (w * j + d) n = fieldAt (f xs[j]) d n := by
  induction xs generalizing j with
  | nil => exact absurd inside (Nat.not_lt_zero j)
  | cons x xs ih =>
    rw [List.flatMap_cons, List.append_assoc]
    cases j with
    | zero => rw [Nat.mul_zero, Nat.zero_add]; exact fieldAt_append_left (within.trans_eq (width x).symm) _
    | succ j =>
      have next : w * (j + 1) + d = w + (w * j + d) := by rw [Nat.mul_succ]; omega
      rw [next, fieldAt_append_right _ (width x)]
      exact ih (Nat.lt_of_succ_lt_succ inside)

/-- Rows filled up with zeros to m rows: a row past the list reads as 0. -/
theorem fieldAt_filled_row (width : ∀ x, (f x).length = w) (t : List Byte) {d n m : Nat} (within : d + n ≤ w) {xs : List α}
    {j : Nat} (inside : j < m) :
    fieldAt (xs.flatMap f ++ (List.replicate (w * (m - xs.length)) 0 ++ t)) (w * j + d) n =
      (xs.map fun x => fieldAt (f x) d n).getD j 0 := by
  rcases Nat.lt_or_ge j xs.length with listed | past
  · rw [fieldAt_row width _ within listed, List.getD_eq_getElem _ _ (by simpa using listed), List.getElem_map]
  · have row : w * (j + 1) ≤ w * m := Nat.mul_le_mul_left w inside
    have before : w * xs.length ≤ w * j := Nat.mul_le_mul_left w past
    have filling : w * j + d = w * xs.length + (w * (j - xs.length) + d) := by rw [Nat.mul_sub]; omega
    have fits : w * (j - xs.length) + d + n ≤ (List.replicate (w * (m - xs.length)) (0 : Byte)).length := by
      rw [List.length_replicate, Nat.mul_sub, Nat.mul_sub]
      rw [Nat.mul_succ] at row
      omega
    rw [filling, fieldAt_append_right _ (flatMap_length_of_width width xs), fieldAt_append_left fits, fieldAt_zeros,
      List.getD_eq_default _ _ (by simpa using past)]

end

theorem le2_length (v : Half) : (le2 v).length = 2 := rfl

theorem natField_length (v : Nat) : (natField v).length = 2 := rfl

theorem intField_length (v : Int) : (intField v).length = 2 := rfl

/-- A list of two-byte fields with its filling, as rows. -/
theorem padded_map {α : Type} (m : Nat) (f : α → List Byte) (xs : List α) :
    padded m (xs.map f) = xs.flatMap f ++ List.replicate (2 * (m - xs.length)) 0 := by
  rw [padded, List.length_map, List.flatMap_def]

theorem padded_map_length {α : Type} {m : Nat} {f : α → List Byte} (width : ∀ x, (f x).length = 2) {xs : List α}
    (fits : xs.length ≤ m) : (padded m (xs.map f)).length = 2 * m := by
  rw [padded_map, List.length_append, flatMap_length_of_width width, List.length_replicate]
  omega

section
variable {α : Type} {b t : List Byte} {o j : Nat} {f : α → List Byte} {xs : List α}

/-- A two-byte field of a filled list, from the offset where the list starts. -/
theorem fieldAt_padded {m : Nat} (width : ∀ x, (f x).length = 2) (at_offset : b.drop o = padded m (xs.map f) ++ t)
    (inside : j < m) : fieldAt b (o + 2 * j) 2 = (xs.map fun x => fieldAt (f x) 0 2).getD j 0 := by
  rw [fieldAt_drop_add, at_offset, padded_map, List.append_assoc]
  exact fieldAt_filled_row width t (d := 0) (Nat.le_refl 2) inside

/-- A two-byte field of a list, from the offset where the list starts. -/
theorem fieldAt_halves {vs : List Half} (at_offset : b.drop o = fieldBytes vs ++ t) (inside : j < vs.length) :
    fieldAt b (o + 2 * j) 2 = (vs.map BitVec.toNat).getD j 0 := by
  rw [fieldAt_drop_add, at_offset, List.getD_eq_getElem _ _ (by simpa using inside), List.getElem_map]
  exact (fieldAt_row le2_length t (d := 0) (Nat.le_refl 2) inside).trans (fieldAt_le2 (t := []) rfl)

theorem fieldAt_nats {vs : List Nat} (at_offset : b.drop o = vs.flatMap natField ++ t) (inside : j < vs.length) :
    fieldAt b (o + 2 * j) 2 = vs.getD j 0 % 65536 := by
  rw [fieldAt_drop_add, at_offset, List.getD_eq_getElem _ _ inside]
  exact (fieldAt_row natField_length t (d := 0) (Nat.le_refl 2) inside).trans (fieldAt_nat (t := []) rfl)

end

end Sys2Proof.Machine
end

section
/-! Records on the wire (chapter 11): what each record holds at its offsets. -/

namespace Sys2Proof.Machine

variable {b : List Byte}

/-! ## Fields with a value for NONE -/

theorem recordAt_fin {n : Nat} (i : Fin n) (f : Fin n → List Byte) : recordAt i f = f i := dif_pos i.isLt

theorem runField_eq (t : Option Nat) : runField t = natField (t.getD 65535) := by
  cases t <;> rfl

theorem sceneByte_eq (n : Option Nat) : sceneByte n = byteOf (n.getD 255) := by
  cases n <;> rfl

/-- R172: a timer in whole seconds rounded up, 0xFFFF when it is not running. -/
theorem fieldAt_timer {t : List Byte} {o : Nat} {timer : Option Nat}
    (at_offset : b.drop o = natField ((timer.map wholeSeconds).getD 65535) ++ t) :
    (∀ x, timer = some x → fieldAt b o 2 = (x + 99) / 100 % 65536) ∧ (timer = none → fieldAt b o 2 = 65535) := by
  have field := fieldAt_nat at_offset
  exact ⟨fun x runs => by rw [field, runs]; rfl, fun still => by rw [field, still]; rfl⟩

/-! ## Channels and watches -/

theorem channelRecord_fields {c : Channel} (carried : b = channelRecord c) :
    fieldAt b 0 1 = kindCode c.cfg.kind ∧ fieldAt b 1 1 = c.cfg.zone % 256 ∧ fieldAt b 2 1 = flagsOf [c.conflict] ∧
    fieldAt b 3 1 = c.cfg.trim % 256 ∧ fieldAt b 4 2 = c.cfg.gain % 65536 ∧ fieldAt b 6 1 = statusCode c.status ∧
    fieldAt b 7 2 = c.raw % 65536 ∧ fieldAt b 9 2 = signedField c.fast ∧ fieldAt b 11 2 = signedField c.settled ∧
    fieldAt b 13 1 = c.window.length % 256 ∧ fieldAt b 14 1 = c.rail % 256 ∧ fieldAt b 15 1 = c.settle % 256 ∧
    ∀ j : Fin 8, fieldAt b (16 + 2 * j.val) 2 = signedField (c.window.getD j 0) := by
  subst carried
  refine ⟨fieldAt_code rfl (by cases c.cfg.kind <;> decide), fieldAt_byteOf rfl, fieldAt_flags rfl, fieldAt_byteOf rfl,
    fieldAt_nat rfl, fieldAt_code rfl (by cases c.status <;> decide), fieldAt_nat rfl, fieldAt_int rfl, fieldAt_int rfl,
    fieldAt_byteOf rfl, fieldAt_byteOf rfl, fieldAt_byteOf rfl, fun j => ?_⟩
  have entry (v : Int) : fieldAt (intField v) 0 2 = signedField v := fieldAt_int (t := []) rfl
  have window := fieldAt_padded (b := channelRecord c) (o := 16) intField_length (List.append_nil _).symm j.isLt
  simp only [entry] at window
  exact window.trans (List.getD_map _ 0 signedField)

theorem sourceCode_lt (c : WatchSource) : sourceCode c < 256 := by
  cases c with
  | channel n => exact Nat.lt_of_le_of_lt n.isLt (by decide)
  | _ => decide

theorem watchRecord_fields {c : Watch} (carried : b = watchRecord c) :
    fieldAt b 0 1 = sourceCode c.cfg.source ∧ fieldAt b 1 1 = directionCode c.cfg.direction ∧
    fieldAt b 2 2 = signedField c.cfg.threshold ∧ fieldAt b 4 2 = c.cfg.hysteresis % 65536 ∧
    fieldAt b 6 1 = actionCode c.cfg.action ∧ fieldAt b 7 1 = c.tripped.toNat ∧ fieldAt b 8 1 = c.latch.toNat ∧
    fieldAt b 9 1 = c.lost.toNat := by
  subst carried
  exact ⟨fieldAt_code rfl (sourceCode_lt _), fieldAt_code rfl (by cases c.cfg.direction <;> decide), fieldAt_int rfl,
    fieldAt_nat rfl, fieldAt_code rfl (by cases c.cfg.action <;> decide), fieldAt_flag rfl, fieldAt_flag rfl, fieldAt_flag rfl⟩

/-! ## The climate -/

theorem climateRecord_fields {s : State} (carried : b = climateRecord s) :
    let c := s.climate
    fieldAt b 0 2 = signedField c.th ∧ fieldAt b 2 2 = signedField c.tdh ∧ fieldAt b 4 2 = c.rhMax % 65536 ∧
    fieldAt b 6 2 = signedField c.tg ∧ fieldAt b 8 2 = signedField c.m ∧ fieldAt b 10 2 = signedField c.s ∧
    fieldAt b 12 2 = signedField c.tw ∧ fieldAt b 14 2 = s.water.age % 65536 ∧ fieldAt b 16 2 = c.i16 % 65536 ∧
    fieldAt b 18 2 = c.dh % 65536 ∧ fieldAt b 20 2 = c.dd % 65536 ∧ fieldAt b 22 1 = c.heatCount % 256 ∧
    fieldAt b 23 1 = c.moistCount % 256 ∧ fieldAt b 24 1 = flagsOf [s.water.stale, c.protective, c.heatBlind,
      c.moistBlind, c.dewFloor, c.glazeSubst, c.condensation] := by
  subst carried
  exact ⟨fieldAt_int rfl, fieldAt_int rfl, fieldAt_nat rfl, fieldAt_int rfl, fieldAt_int rfl, fieldAt_int rfl, fieldAt_int rfl,
    fieldAt_nat rfl, fieldAt_nat rfl, fieldAt_nat rfl, fieldAt_nat rfl, fieldAt_byteOf rfl, fieldAt_byteOf rfl,
    fieldAt_flags rfl⟩

/-- The two-byte fields of the CLIMATE_CFG record, in their order. -/
def climateCfgHalves (c : ClimateCfg) : List Half :=
  [.ofNat 16 c.substituteDrop, .ofNat 16 c.waterHold, .ofInt 16 c.fallbackWater, .ofInt 16 c.dayOffset,
    .ofInt 16 c.nightOffset, .ofInt 16 c.sLo, .ofInt 16 c.sHi, .ofInt 16 c.serviceSetpoint, .ofNat 16 c.kp, .ofNat 16 c.ki,
    .ofNat 16 c.kc, .ofNat 16 c.kl, .ofNat 16 c.dayTarget, .ofNat 16 c.nightTarget, .ofNat 16 c.kr, .ofNat 16 c.kg,
    .ofNat 16 c.mSet, .ofNat 16 c.slew]

theorem climateCfgRecord_eq (c : ClimateCfg) : climateCfgRecord c = fieldBytes (climateCfgHalves c) := by
  simp only [climateCfgRecord, natField, intField, climateCfgHalves, fieldBytes, List.flatMap_cons, List.flatMap_nil,
    List.append_assoc, List.append_nil]

theorem climateCfgHalves_values (c : ClimateCfg) : (climateCfgHalves c).map BitVec.toNat =
    [c.substituteDrop % 65536, c.waterHold % 65536, signedField c.fallbackWater,
      signedField c.dayOffset, signedField c.nightOffset, signedField c.sLo, signedField c.sHi,
      signedField c.serviceSetpoint, c.kp % 65536, c.ki % 65536, c.kc % 65536, c.kl % 65536, c.dayTarget % 65536,
      c.nightTarget % 65536, c.kr % 65536, c.kg % 65536, c.mSet % 65536, c.slew % 65536] := by
  simp only [climateCfgHalves, List.map_cons, List.map_nil, BitVec.toNat_ofNat, BitVec.toNat_ofInt, signedField]
  rfl

theorem climateCfgRecord_field {c : ClimateCfg} (carried : b = climateCfgRecord c) (j : Fin 18) :
    fieldAt b (2 * j.val) 2 = ((climateCfgHalves c).map BitVec.toNat).getD j 0 := by
  have fields : b.drop 0 = fieldBytes (climateCfgHalves c) ++ [] := by
    rw [carried, climateCfgRecord_eq, List.append_nil, List.drop_zero]
  have field := fieldAt_halves fields j.isLt
  rwa [Nat.zero_add] at field

/-! ## The power allowance and its consumers -/

theorem drawFields_eq (s : State) (k : Fin 8) : drawFields s k = if k = 0 then s.alloc.draws.fan.toList
    else [if k = 7 then s.alloc.ltDraw else s.alloc.draws.items.toList.getD (k.val - 1) 0, 0, 0, 0] := by
  fin_cases k <;> rfl

theorem drawFields_length (s : State) (k : Fin 8) : (drawFields s k).length = 4 := by
  rw [drawFields_eq]
  split
  · exact Vector.length_toList
  · rfl

theorem consumerRecord_fields {s : State} {k : Fin 8} (carried : b = consumerRecord s k) :
    let c := s.alloc.consumers[k]
    let d := s.alloc.draws
    let draws := if k = 0 then d.fan.toList
      else [if k = 7 then s.alloc.ltDraw else d.items.toList.getD (k.val - 1) 0, 0, 0, 0]
    fieldAt b 0 2 = c.requested % 65536 ∧ fieldAt b 2 2 = c.granted % 65536 ∧
    (∀ j : Fin 4, fieldAt b (4 + 2 * j.val) 2 = draws.getD j 0 % 65536) ∧ fieldAt b 12 1 = classCode c.cls ∧
    fieldAt b 13 1 = c.class2 % 256 ∧ fieldAt b 14 1 = flagsOf [c.held] ∧ fieldAt b 15 2 = c.energyAcc % 65536 ∧
    fieldAt b 17 4 = c.energyCount % 4294967296 := by
  intro c d draws
  have same : drawFields s k = draws := drawFields_eq s k
  obtain ⟨d0, d1, d2, d3, fields⟩ := List.length_eq_four.1 ((congrArg List.length same).symm.trans (drawFields_length s k))
  have record : b = natField c.requested ++ natField c.granted ++ [d0, d1, d2, d3].flatMap natField
      ++ [byteOf (classCode c.cls), byteOf c.class2, flagsByte [c.held]] ++ natField c.energyAcc
      ++ le4 (BitVec.ofNat 32 c.energyCount) := by
    rw [carried, consumerRecord, same, fields]
  rw [fields]
  subst record
  refine ⟨fieldAt_nat rfl, fieldAt_nat rfl, fun j => ?_, fieldAt_code rfl (by cases c.cls <;> decide), fieldAt_byteOf rfl,
    fieldAt_flags rfl, fieldAt_nat rfl, (fieldAt_le4 rfl).trans (BitVec.toNat_ofNat _ 32)⟩
  fin_cases j <;> exact fieldAt_nat rfl

theorem allowanceRecord_fields {c : Allocator} (carried : b = allowanceRecord c) :
    fieldAt b 0 2 = c.allowance % 65536 ∧ fieldAt b 2 2 = c.committed % 65536 ∧ fieldAt b 4 2 = c.remaining % 65536 ∧
    fieldAt b 6 2 = c.granted % 65536 ∧ fieldAt b 8 1 = c.overCommit.toNat ∧ fieldAt b 9 1 = c.heatHeld.toNat ∧
    fieldAt b 10 1 = c.dehumHeld.toNat ∧ fieldAt b 11 1 = c.lead.val ∧ fieldAt b 12 1 = c.count % 256 ∧
    ∀ j : Fin 3, fieldAt b (13 + j.val) 1 = (c.heaterReq[j]).toNat := by
  subst carried
  refine ⟨fieldAt_nat rfl, fieldAt_nat rfl, fieldAt_nat rfl, fieldAt_nat rfl, fieldAt_flag rfl, fieldAt_flag rfl, fieldAt_flag rfl,
    fieldAt_code rfl (c.lead.isLt.trans (by decide)), fieldAt_byteOf rfl, fun j => ?_⟩
  fin_cases j <;> exact fieldAt_flag rfl

theorem coverCfgRecord_field {c : CoverCfg} (carried : b = coverCfgRecord c) (j : Fin 8) :
    fieldAt b (2 * j.val) 2 = [c.settleTime, c.purgeHigh, c.restLow, c.cycleLimit, c.preopenTime, c.alertHold,
      c.permissionHold, c.travelLimit].getD j 0 % 65536 := by
  have fields : b = [c.settleTime, c.purgeHigh, c.restLow, c.cycleLimit, c.preopenTime, c.alertHold, c.permissionHold,
      c.travelLimit].flatMap natField ++ [] := by
    simp only [carried, coverCfgRecord, List.flatMap_cons, List.flatMap_nil, List.append_assoc, List.append_nil]
  have field := fieldAt_nats (o := 0) fields j.isLt
  rwa [Nat.zero_add] at field

theorem countersRecord_fields {c : Consumer} (carried : b = countersRecord c) :
    fieldAt b 0 2 = c.energyAcc % 65536 ∧ fieldAt b 2 4 = c.energyCount % 4294967296 := by
  subst carried
  exact ⟨fieldAt_nat rfl, (fieldAt_le4 (t := []) rfl).trans (BitVec.toNat_ofNat _ 32)⟩

end Sys2Proof.Machine
end

section
/-! Records of the plant, the covers, the lighting and the ports: what each holds at its offsets. -/

namespace Sys2Proof.Machine

variable {b : List Byte}

/-! ## Compressors -/

/-- The head of a COMPRESSOR record, up to its start history. -/
def compressorHead (s : State) (i : CompId) : List Byte :=
  let r := s.seq.comps[i]
  [byteOf (compStateCode r.state), flagByte r.grant] ++ natField r.cfg.minOff ++ natField r.cfg.minOn
    ++ [byteOf r.cfg.startLimit, byteOf (startLimit s.alloc r)] ++ natField ((r.offTimer.map wholeSeconds).getD 65535)
    ++ natField ((r.onTimer.map wholeSeconds).getD 65535) ++ [byteOf (prune s.pt r.history).length]

/-- What follows the start history in a COMPRESSOR record. -/
def compressorTail (s : State) (i : CompId) : List Byte :=
  [flagByte s.seq.comps[i].blocked] ++ le4 s.seq.comps[i].nextStart ++ le4 (BitVec.ofNat 32 s.seq.comps[i].runSeconds)
    ++ lineSection s.seq

theorem compressorRecord_eq (s : State) (i : CompId) : compressorRecord s i =
    compressorHead s i ++ (padded 12 ((prune s.pt s.seq.comps[i].history).map fun e => natField (entryAge s.pt e)) ++
      compressorTail s i) := by
  simp only [compressorRecord, compressorHead, compressorTail, runField_eq, List.append_assoc]

theorem compressorHead_fields (s : State) (i : CompId) (few : (s.seq.comps[i]).history.length ≤ 12) (t : List Byte) :
    let b := compressorHead s i ++ t
    let c := s.seq.comps[i]
    fieldAt b 0 1 = compStateCode c.state ∧ fieldAt b 1 1 = c.grant.toNat ∧ fieldAt b 2 2 = c.cfg.minOff % 65536 ∧
    fieldAt b 4 2 = c.cfg.minOn % 65536 ∧ fieldAt b 6 1 = c.cfg.startLimit % 256 ∧
    fieldAt b 7 1 = startLimit s.alloc c % 256 ∧
    (∀ x, c.offTimer = some x → fieldAt b 8 2 = (x + 99) / 100 % 65536) ∧ (c.offTimer = none → fieldAt b 8 2 = 65535) ∧
    (∀ x, c.onTimer = some x → fieldAt b 10 2 = (x + 99) / 100 % 65536) ∧ (c.onTimer = none → fieldAt b 10 2 = 65535) ∧
    fieldAt b 12 1 = (prune s.pt c.history).length := by
  intro b c
  have off := fieldAt_timer (b := b) (o := 8) rfl
  have on := fieldAt_timer (b := b) (o := 10) rfl
  exact ⟨fieldAt_code rfl (by cases c.state <;> decide), fieldAt_flag rfl, fieldAt_nat rfl, fieldAt_nat rfl, fieldAt_byteOf rfl,
    fieldAt_byteOf rfl, off.1, off.2, on.1, on.2,
    fieldAt_code rfl (((prune_length_le _ _).trans few).trans_lt (by decide))⟩

theorem compressorTail_fields (s : State) (i : CompId) :
    let b := compressorTail s i
    let c := s.seq.comps[i]
    let q := s.seq
    fieldAt b 0 1 = c.blocked.toNat ∧ fieldAt b 1 4 = c.nextStart.toNat ∧
    fieldAt b 5 4 = c.runSeconds % 4294967296 ∧ fieldAt b 9 1 = q.coverLimit.active.toNat ∧
    fieldAt b 10 1 = q.interlock.active.toNat ∧ fieldAt b 11 1 = q.fanProof.active.toNat ∧
    fieldAt b 12 1 = proofCode q.proof ∧ fieldAt b 13 1 = q.fanLevel % 256 ∧ fieldAt b 14 2 = q.valve % 65536 ∧
    (∀ j : Fin 3, fieldAt b (16 + j.val) 1 = (q.heaters[j]).line.toNat) ∧ fieldAt b 19 1 = q.pfLine.toNat := by
  refine ⟨fieldAt_flag rfl, fieldAt_le4 rfl, (fieldAt_le4 rfl).trans (BitVec.toNat_ofNat _ 32), fieldAt_flag rfl, fieldAt_flag rfl,
    fieldAt_flag rfl, fieldAt_code rfl (by cases s.seq.proof <;> decide), fieldAt_byteOf rfl, fieldAt_nat rfl, fun j => ?_,
    fieldAt_flag rfl⟩
  fin_cases j <;> exact fieldAt_flag rfl

theorem compressorRecord_fields {s : State} {i : CompId} (few : (s.seq.comps[i]).history.length ≤ 12)
    (carried : b = compressorRecord s i) :
    let c := s.seq.comps[i]
    let q := s.seq
    let h := prune s.pt c.history
    fieldAt b 0 1 = compStateCode c.state ∧ fieldAt b 1 1 = c.grant.toNat ∧ fieldAt b 2 2 = c.cfg.minOff % 65536 ∧
    fieldAt b 4 2 = c.cfg.minOn % 65536 ∧ fieldAt b 6 1 = c.cfg.startLimit % 256 ∧
    fieldAt b 7 1 = startLimit s.alloc c % 256 ∧
    (∀ x, c.offTimer = some x → fieldAt b 8 2 = (x + 99) / 100 % 65536) ∧ (c.offTimer = none → fieldAt b 8 2 = 65535) ∧
    (∀ x, c.onTimer = some x → fieldAt b 10 2 = (x + 99) / 100 % 65536) ∧ (c.onTimer = none → fieldAt b 10 2 = 65535) ∧
    fieldAt b 12 1 = h.length ∧
    (∀ j : Fin 12, fieldAt b (13 + 2 * j.val) 2 = (h.map fun e => (s.pt - e).toNat % 65536).getD j 0) ∧
    fieldAt b 37 1 = c.blocked.toNat ∧ fieldAt b 38 4 = c.nextStart.toNat ∧
    fieldAt b 42 4 = c.runSeconds % 4294967296 ∧ fieldAt b 46 1 = q.coverLimit.active.toNat ∧
    fieldAt b 47 1 = q.interlock.active.toNat ∧ fieldAt b 48 1 = q.fanProof.active.toNat ∧
    fieldAt b 49 1 = proofCode q.proof ∧ fieldAt b 50 1 = q.fanLevel % 256 ∧ fieldAt b 51 2 = q.valve % 65536 ∧
    (∀ j : Fin 3, fieldAt b (53 + j.val) 1 = (q.heaters[j]).line.toNat) ∧ fieldAt b 56 1 = q.pfLine.toNat := by
  intro c q h
  obtain ⟨state, grant, minOff, minOn, starts, limit, off, still, on, idle, count⟩ := compressorHead_fields s i few
    (padded 12 (h.map fun e => natField (entryAge s.pt e)) ++ compressorTail s i)
  obtain ⟨blocked, next, run, cover, interlock, fan, proof, level, valve, heater, pf⟩ := compressorTail_fields s i
  have ages : (padded 12 (h.map fun e => natField (entryAge s.pt e))).length = 24 :=
    padded_map_length (fun _ => rfl) ((prune_length_le _ _).trans few)
  have tail (d n : Nat) : fieldAt b (37 + d) n = fieldAt (compressorTail s i) d n := by
    have past : 37 + d = 13 + (24 + d) := by omega
    rw [carried, compressorRecord_eq, past]
    exact (fieldAt_append_right _ rfl (24 + d) n).trans (fieldAt_append_right _ ages d n)
  rw [← compressorRecord_eq, ← carried] at state grant minOff minOn starts limit off still on idle count
  refine ⟨state, grant, minOff, minOn, starts, limit, off, still, on, idle, count, fun j => ?_, (tail 0 1).trans blocked,
    (tail 1 4).trans next, (tail 5 4).trans run, (tail 9 1).trans cover, (tail 10 1).trans interlock, (tail 11 1).trans fan,
    (tail 12 1).trans proof, (tail 13 1).trans level, (tail 14 2).trans valve, fun j => ?_, (tail 19 1).trans pf⟩
  · have listed := fieldAt_padded (b := b) (o := 13) (t := compressorTail s i) (fun e => natField_length (entryAge s.pt e))
      (by rw [carried, compressorRecord_eq]; exact List.drop_left' rfl) j.isLt
    exact listed.trans (congrArg (·.getD j.val 0) (List.map_congr_left fun e _ => fieldAt_nat (t := []) rfl))
  · have place : 53 + j.val = 37 + (16 + j.val) := by omega
    rw [place]
    exact (tail (16 + j) 1).trans (heater j)

/-! ## Covers -/

theorem coverRecord_fields {s : State} (carried : b = coverRecord s) :
    let c := s.cover
    fieldAt b 0 1 = reportCode c.report ∧ fieldAt b 1 1 = flagsOf [s.seq.coverLimit.active] ∧
    fieldAt b 2 1 = derivedCode c.derived ∧
    fieldAt b 3 1 = flagsOf [c.switchOnly, c.release, c.starved, c.hold.isSome] ∧ fieldAt b 4 1 = c.mismatch % 256 ∧
    fieldAt b 5 2 = c.travel % 65536 ∧ fieldAt b 7 1 = progCode c.prog ∧ fieldAt b 8 2 = c.elapsed % 65536 ∧
    fieldAt b 10 2 = c.counted % 65536 ∧ fieldAt b 12 2 = c.preopenAcc % 65536 ∧
    fieldAt b 14 1 = originCode c.origin ∧ fieldAt b 15 1 = c.cycles % 256 ∧
    fieldAt b 16 2 = (c.hold.getD 65535) % 65536 ∧ fieldAt b 18 1 = c.starve % 256 ∧
    fieldAt b 19 2 = ((remainingTime s).getD 65535) % 65536 := by
  intro c
  rw [coverRecord, runField_eq, runField_eq] at carried
  subst carried
  have origin : originCode c.origin < 256 := by
    cases c.origin with
    | none => decide
    | some o => cases o <;> decide
  exact ⟨fieldAt_code rfl (by cases c.report <;> decide), fieldAt_flag rfl, fieldAt_code rfl (by cases c.derived <;> decide),
    fieldAt_flags rfl, fieldAt_byteOf rfl, fieldAt_nat rfl, fieldAt_code rfl (by cases c.prog <;> decide), fieldAt_nat rfl,
    fieldAt_nat rfl, fieldAt_nat rfl, fieldAt_code rfl origin, fieldAt_byteOf rfl, fieldAt_nat rfl, fieldAt_byteOf rfl,
    fieldAt_nat (t := []) rfl⟩

/-! ## Lighting -/

theorem fadeBytes_length (seq g : Nat) (f : Option Fade) : (fadeBytes seq g f).length = 6 := by
  cases f <;> rfl

theorem groupRecord_fields {s : State} {g : GroupId} (carried : b = groupRecord s g) :
    let c := s.light.groups[g]
    fieldAt b 0 2 = c.cfg.load % 65536 ∧ fieldAt b 2 2 = c.cfg.floor % 65536 ∧ fieldAt b 4 2 = c.target % 65536 ∧
    fieldAt b 6 1 = sourceLayerCode c.source ∧ fieldAt b 7 2 = c.current % 65536 ∧
    (∀ f, c.fade = some f → fieldAt b 9 2 = f.start % 65536 ∧ fieldAt b 11 2 = f.elapsed % 65536 ∧
      fieldAt b 13 2 = f.duration % 65536) ∧
    fieldAt b 15 2 = c.applied % 65536 := by
  intro c
  have layout : b = (natField c.cfg.load ++ natField c.cfg.floor ++ natField c.target ++ [byteOf (sourceLayerCode c.source)] ++
      natField c.current) ++ (fadeBytes s.freeSeq g c.fade ++ natField c.applied) := by
    rw [carried, groupRecord, List.append_assoc]
  have source : sourceLayerCode c.source < 256 := by
    cases c.source with
    | none => decide
    | some k => cases k <;> decide
  subst layout
  refine ⟨fieldAt_nat rfl, fieldAt_nat rfl, fieldAt_nat rfl, fieldAt_code rfl source, fieldAt_nat rfl, fun f fades => ?_, ?_⟩
  · rw [fades]
    exact ⟨fieldAt_nat rfl, fieldAt_nat rfl, fieldAt_nat rfl⟩
  · exact (fieldAt_append_right _ rfl 6 2).trans
      ((fieldAt_append_right _ (fadeBytes_length ..) 0 2).trans (fieldAt_nat (t := []) rfl))

/-- The bytes of a group and its level in a SCENE record. -/
def levelBytes (p : Nat × Nat) : List Byte := byteOf p.1 :: natField p.2

theorem sceneRecord_fields {c : Scene} (carried : b = sceneRecord c) :
    fieldAt b 0 1 = flagsOf [c.defined] ∧ fieldAt b 1 2 = c.fade % 65536 ∧
    fieldAt b 3 1 = flagsOf [c.modes.hallOpen, c.modes.night, c.modes.preopen, c.modes.service] ∧
    fieldAt b 4 1 = c.levels.length % 256 ∧
    ∀ j : Fin 16, fieldAt b (5 + 3 * j.val) 1 = (c.levels.getD j (0, 0)).1 % 256 ∧
      fieldAt b (6 + 3 * j.val) 2 = (c.levels.getD j (0, 0)).2 % 65536 := by
  have width (p : Nat × Nat) : (levelBytes p).length = 3 := rfl
  have layout : b.drop 5 = c.levels.flatMap levelBytes ++ (List.replicate (3 * (16 - c.levels.length)) 0 ++ []) := by
    rw [List.append_nil, carried]
    rfl
  have row (j : Fin 16) (d n : Nat) (within : d + n ≤ 3) :
      fieldAt b (5 + (3 * j.val + d)) n = (c.levels.map fun p => fieldAt (levelBytes p) d n).getD j 0 := by
    rw [fieldAt_drop_add, layout]
    exact fieldAt_filled_row width [] within j.isLt
  have group (p : Nat × Nat) : fieldAt (levelBytes p) 0 1 = p.1 % 256 := fieldAt_byteOf rfl
  have level (p : Nat × Nat) : fieldAt (levelBytes p) 1 2 = p.2 % 65536 := fieldAt_nat (t := []) rfl
  subst carried
  refine ⟨fieldAt_flags rfl, fieldAt_nat rfl, fieldAt_flags rfl, fieldAt_byteOf rfl, fun j => ⟨?_, ?_⟩⟩
  · have first := row j 0 1 (by decide)
    simp only [group] at first
    exact first.trans (List.getD_map _ (0, 0) (·.1 % 256))
  · have second := row j 1 2 (by decide)
    simp only [level] at second
    have place : 6 + 3 * j.val = 5 + (3 * j.val + 1) := by omega
    rw [place]
    exact second.trans (List.getD_map _ (0, 0) (·.2 % 65536))

theorem lightingSection_fields (l : Lighting) :
    let b := lightingSection l
    fieldAt b 0 2 = floorDraw l % 65536 ∧ fieldAt b 2 2 = requestR l % 65536 ∧ fieldAt b 4 2 = inFlightU l % 65536 ∧
    fieldAt b 6 2 = l.grant % 65536 ∧ fieldAt b 8 2 = l.capLimit % 65536 ∧ fieldAt b 10 2 = l.appliedCap % 65536 ∧
    fieldAt b 12 2 = appliedLighting l % 65536 ∧ fieldAt b 14 1 = (l.startScene.getD 255) % 256 ∧
    fieldAt b 15 1 = l.safetyScene % 256 := by
  rw [lightingSection, sceneByte_eq]
  exact ⟨fieldAt_nat rfl, fieldAt_nat rfl, fieldAt_nat rfl, fieldAt_nat rfl, fieldAt_nat rfl, fieldAt_nat rfl, fieldAt_nat rfl,
    fieldAt_byteOf rfl, fieldAt_byteOf rfl⟩

/-- The standing scene of a LAYER record; with none, 0xFF and free bytes (log 6). -/
def standingBytes (s : State) (k : Fin 4) : Option Standing → List Byte
  | some st => byteOf st.scene :: le4 st.recallTime
  | none => 0xFF :: le4 (Config.emptyLayerTime s.freeSeq k)

theorem standingBytes_length (s : State) (k : Fin 4) (st : Option Standing) : (standingBytes s k st).length = 5 := by
  cases st <;> rfl

theorem layerRecord_eq (s : State) (k : Fin 4) : layerRecord s k =
    standingBytes s k (getLayer s.light.layers (layerAt k)) ++ lightingSection s.light := by
  rw [layerRecord]
  cases getLayer s.light.layers (layerAt k) <;> rfl

theorem layerRecord_fields {s : State} {k : Fin 4} (carried : b = layerRecord s k) :
    let l := s.light
    let here := getLayer l.layers (layerAt k)
    (here = none → fieldAt b 0 1 = 255) ∧
    (∀ st, here = some st → fieldAt b 0 1 = st.scene % 256 ∧ fieldAt b 1 4 = st.recallTime.toNat) ∧
    fieldAt b 5 2 = floorDraw l % 65536 ∧ fieldAt b 7 2 = requestR l % 65536 ∧ fieldAt b 9 2 = inFlightU l % 65536 ∧
    fieldAt b 11 2 = l.grant % 65536 ∧ fieldAt b 13 2 = l.capLimit % 65536 ∧ fieldAt b 15 2 = l.appliedCap % 65536 ∧
    fieldAt b 17 2 = appliedLighting l % 65536 ∧ fieldAt b 19 1 = (l.startScene.getD 255) % 256 ∧
    fieldAt b 20 1 = l.safetyScene % 256 := by
  intro l here
  rw [layerRecord_eq] at carried
  subst carried
  obtain ⟨floor, request, flight, grant, limit, cap, applied, start, safety⟩ := lightingSection_fields l
  have after (d n : Nat) : fieldAt (standingBytes s k here ++ lightingSection l) (5 + d) n = fieldAt (lightingSection l) d n :=
    fieldAt_append_right _ (standingBytes_length ..) d n
  refine ⟨fun empty => ?_, fun st standing => ?_, (after 0 2).trans floor, (after 2 2).trans request, (after 4 2).trans flight,
    (after 6 2).trans grant, (after 8 2).trans limit, (after 10 2).trans cap, (after 12 2).trans applied,
    (after 14 1).trans start, (after 15 1).trans safety⟩
  · rw [show getLayer s.light.layers (layerAt k) = none from empty]
    exact fieldAt_byte (x := 0xFF) rfl
  · rw [show getLayer s.light.layers (layerAt k) = some st from standing]
    exact ⟨fieldAt_byteOf rfl, fieldAt_le4 rfl⟩

/-! ## Ports, limits and the mode -/

theorem portRecord_fields {q : Port} (carried : b = portRecord q) :
    let a := q.notices
    fieldAt b 0 1 = roleCode q.strapped ∧ fieldAt b 1 1 = roleCode q.role ∧ fieldAt b 2 1 = q.clash.toNat ∧
    fieldAt b 3 1 = presenceCode q.presence ∧ fieldAt b 4 2 = q.silence % 65536 ∧
    (∀ x, q.silenceTimer = some x → fieldAt b 6 2 = (x + 99) / 100 % 65536) ∧
    (q.silenceTimer = none → fieldAt b 6 2 = 65535) ∧ fieldAt b 8 1 = rxCode q.rx ∧ fieldAt b 9 1 = q.discards % 256 ∧
    fieldAt b 10 8 = a.acceptance.toNat ∧ fieldAt b 18 1 = a.filter1.code.toNat ∧
    fieldAt b 19 2 = a.filter1.subject.toNat ∧ fieldAt b 21 1 = a.filter2.code.toNat ∧
    fieldAt b 22 2 = a.filter2.subject.toNat ∧ fieldAt b 24 1 = a.slot.isSome.toNat ∧
    fieldAt b 25 1 = a.queue.length % 256 ∧ fieldAt b 26 1 = a.drops % 256 ∧ fieldAt b 27 1 = a.threshold % 256 := by
  rw [portRecord, runField_eq] at carried
  obtain ⟨runs, still⟩ := fieldAt_timer (b := b) (o := 6) (timer := q.silenceTimer) (by rw [carried]; rfl)
  subst carried
  have role (r : Role) : roleCode r < 256 := by cases r <;> decide
  exact ⟨fieldAt_code rfl (role _), fieldAt_code rfl (role _), fieldAt_flag rfl,
    fieldAt_code rfl (by cases q.presence <;> decide), fieldAt_nat rfl, runs, still,
    fieldAt_code rfl (by cases q.rx <;> decide), fieldAt_byteOf rfl, fieldAt_le8 rfl, fieldAt_byte rfl, fieldAt_le2 rfl,
    fieldAt_byte rfl, fieldAt_le2 rfl, fieldAt_flag rfl, fieldAt_byteOf rfl, fieldAt_byteOf rfl, fieldAt_byteOf rfl⟩

/-- A limits field and its complement. -/
def limitBytes (p : LimitPair) : List Byte := le2 p.value ++ le2 p.complement

/-- What follows the limits fields in the LIMITS record. -/
def limitsTail (c : Allocator) : List Byte := [flagByte c.limitsFault] ++ fieldBytes c.inForce.toList

theorem limitsRecord_eq (c : Allocator) : limitsRecord c = c.limits.toList.flatMap limitBytes ++ limitsTail c := by
  have forces : c.inForce.toList = [c.inForce[0], c.inForce[1], c.inForce[2], c.inForce[3]] :=
    List.ext_getElem Vector.length_toList fun i _ inside => by
      have four : i < 4 := inside
      interval_cases i <;> rfl
  rw [limitsRecord, limitsTail, forces]
  simp only [List.append_assoc]
  rfl

theorem limitsRecord_fields {c : Allocator} (carried : b = limitsRecord c) :
    fieldAt b 16 1 = c.limitsFault.toNat ∧
    ∀ k : Fin 4, fieldAt b (4 * k.val) 2 = c.limits[k].value.toNat ∧
      fieldAt b (4 * k.val + 2) 2 = c.limits[k].complement.toNat ∧ fieldAt b (17 + 2 * k.val) 2 = (c.inForce[k]).toNat := by
  rw [limitsRecord_eq] at carried
  subst carried
  have width (p : LimitPair) : (limitBytes p).length = 4 := rfl
  have fields : (c.limits.toList.flatMap limitBytes).length = 16 := by
    rw [flatMap_length_of_width width, Vector.length_toList]
  have after (d n : Nat) : fieldAt (c.limits.toList.flatMap limitBytes ++ limitsTail c) (16 + d) n = fieldAt (limitsTail c) d n :=
    fieldAt_append_right _ fields d n
  refine ⟨(after 0 1).trans (fieldAt_flag rfl), fun k => ?_⟩
  have inside : k.val < c.limits.toList.length := by rw [Vector.length_toList]; exact k.isLt
  have forced : k.val < c.inForce.toList.length := by rw [Vector.length_toList]; exact k.isLt
  have field := c.limits.getElem_toList inside
  refine ⟨?_, ?_, ?_⟩
  · refine (fieldAt_row width _ (d := 0) (n := 2) (by decide) inside).trans ?_
    rw [field]
    exact fieldAt_le2 rfl
  · refine (fieldAt_row width _ (d := 2) (n := 2) (by decide) inside).trans ?_
    rw [field]
    exact fieldAt_le2 (t := []) rfl
  · have place : 17 + 2 * k.val = 16 + (1 + 2 * k.val) := by omega
    rw [place, after, fieldAt_halves (t := []) (vs := c.inForce.toList) (List.append_nil _).symm forced,
      List.getD_eq_getElem _ _ (by rwa [List.length_map]), List.getElem_map]
    exact congrArg BitVec.toNat (c.inForce.getElem_toList forced)

theorem modeRecord_fields {c : ModeRec} (carried : b = modeRecord c) :
    fieldAt b 0 1 = modeCode c.mode ∧ fieldAt b 1 1 = modeCode c.previous ∧
    fieldAt b 2 4 = c.changeTime.toNat ∧ fieldAt b 6 1 = modeCode c.startMode := by
  subst carried
  have mode (m : Mode) : modeCode m < 256 := by cases m <;> decide
  exact ⟨fieldAt_code rfl (mode _), fieldAt_code rfl (mode _), fieldAt_le4 rfl, fieldAt_code rfl (mode _)⟩

end Sys2Proof.Machine
end

section
/-! READ_ITEMS (R154): the lengths of the records, and how many of them a reply holds. -/

namespace Sys2Proof.Machine

/-! ## Lengths (Table 11-3) -/

theorem channelRecord_length {c : Channel} (window : c.window.length ≤ 8) : (channelRecord c).length = 32 := by
  rw [channelRecord, List.length_append, padded_map_length intField_length window]
  rfl

theorem watchRecord_length (c : Watch) : (watchRecord c).length = 10 := rfl

theorem countersRecord_length (c : Consumer) : (countersRecord c).length = 6 := rfl

theorem consumerRecord_length (s : State) (k : Fin 8) : (consumerRecord s k).length = 21 := by
  have draws : ((drawFields s k).flatMap natField).length = 8 := by
    rw [flatMap_length_of_width natField_length, drawFields_length]
  simp only [consumerRecord, List.length_append, draws]
  rfl

theorem compressorRecord_length {s : State} {i : CompId} (few : s.seq.comps[i].history.length ≤ 12) :
    (compressorRecord s i).length = 57 := by
  have ages := padded_map_length (m := 12) (fun e => natField_length (entryAge s.pt e))
    ((prune_length_le s.pt s.seq.comps[i].history).trans few)
  rw [compressorRecord_eq, List.length_append, List.length_append, ages]
  rfl

theorem coverRecord_length (s : State) : (coverRecord s).length = 21 := by
  rw [coverRecord, runField_eq, runField_eq]
  rfl

theorem groupRecord_length (s : State) (g : GroupId) : (groupRecord s g).length = 17 := by
  simp only [groupRecord, List.length_append, fadeBytes_length]
  rfl

theorem sceneRecord_length {c : Scene} (levels : c.levels.length ≤ 16) : (sceneRecord c).length = 53 := by
  have width (p : Nat × Nat) : (levelBytes p).length = 3 := rfl
  have rows : (c.levels.flatMap fun p => byteOf p.1 :: natField p.2).length = 3 * c.levels.length :=
    flatMap_length_of_width width c.levels
  simp only [sceneRecord, List.length_append, rows, List.length_replicate, List.length_cons, List.length_nil, natField_length]
  omega

theorem layerRecord_length (s : State) (k : Fin 4) : (layerRecord s k).length = 21 := by
  rw [layerRecord_eq, List.length_append, standingBytes_length]
  rfl

theorem portRecord_length (q : Port) : (portRecord q).length = 28 := by
  rw [portRecord, runField_eq]
  rfl

theorem limitsRecord_length (c : Allocator) : (limitsRecord c).length = 25 := by
  have width (p : LimitPair) : (limitBytes p).length = 4 := rfl
  rw [limitsRecord_eq, List.length_append, flatMap_length_of_width width, Vector.length_toList, limitsTail, List.length_append,
    fieldBytes, flatMap_length_of_width le2_length, Vector.length_toList]
  rfl

theorem recordAt_length {n i w : Nat} {f : Fin n → List Byte} (inside : i < n) (width : ∀ k, (f k).length = w) :
    (recordAt i f).length = w := by
  rw [recordAt, dif_pos inside, width]

theorem record_length {s : State} {cls : ItemClass} {i : Nat} (inside : i < classCount cls)
    (windows : ∀ n : ChanId, (s.channels[n]).window.length ≤ 8)
    (histories : ∀ c : CompId, (s.seq.comps[c]).history.length ≤ 12)
    (levels : ∀ n : Fin 32, (s.light.scenes[n]).levels.length ≤ 16) : (record s cls i).length = recordLength cls := by
  cases cls with
  | channel => exact recordAt_length inside fun n => channelRecord_length (windows n)
  | watch => exact recordAt_length inside fun n => watchRecord_length s.watches[n]
  | climate => rfl
  | climateCfg => exact (congrArg List.length (climateCfgRecord_eq s.climateCfg)).trans rfl
  | consumer => exact recordAt_length inside (consumerRecord_length s)
  | allowance => rfl
  | compressor => exact recordAt_length inside fun c => compressorRecord_length (histories c)
  | cover => exact coverRecord_length s
  | coverCfg => rfl
  | group => exact recordAt_length inside (groupRecord_length s)
  | scene => exact recordAt_length inside fun n => sceneRecord_length (levels n)
  | layer => exact recordAt_length inside (layerRecord_length s)
  | port => exact recordAt_length inside fun p => portRecord_length s.ports[p]
  | counters => exact recordAt_length inside fun k => countersRecord_length s.alloc.consumers[k]
  | limits => exact limitsRecord_length s.alloc
  | mode => rfl

/-! ## The walk of READ_ITEMS -/

theorem recordLength_bounds (cls : ItemClass) : 0 < recordLength cls ∧ recordLength cls ≤ 57 := by
  cases cls <;> decide

theorem clampCount_eq (n : Nat) : clampCount n = max 1 (min n 16) := clampNat_eq (by decide)

/-- R154: the records returned are as many as asked, left in the class and fitting, and no more would have fitted. -/
theorem returned_bounds {cls : ItemClass} {first : Nat} (count : Nat) (inside : first < classCount cls) :
    let n := returned cls first count
    1 ≤ n ∧ n ≤ max 1 (min count 16) ∧ first + n ≤ classCount cls ∧ n * recordLength cls ≤ 57 ∧
      (n < max 1 (min count 16) → first + n < classCount cls → 57 < (n + 1) * recordLength cls) := by
  obtain ⟨positive, fits⟩ := recordLength_bounds cls
  have one : 1 ≤ 57 / recordLength cls := (Nat.le_div_iff_mul_le positive).2 (by rwa [Nat.one_mul])
  rw [← clampCount_eq]
  have asked : 1 ≤ clampCount count := by rw [clampCount_eq]; exact Nat.le_max_left ..
  intro n
  have formed : n = min (clampCount count) (min (classCount cls - first) (57 / recordLength cls)) := rfl
  have room : n ≤ 57 / recordLength cls := by omega
  refine ⟨by omega, by omega, by omega, (Nat.le_div_iff_mul_le positive).1 room, fun fewer more => ?_⟩
  have full : 57 / recordLength cls < n + 1 := by omega
  exact (Nat.div_lt_iff_lt_mul positive).1 full

/-- R154: CLAMPED exactly when the count was clamped or not reached. -/
theorem readItems_result {cls : ItemClass} {first : Nat} (count : Nat) (inside : first < classCount cls) :
    let n := returned cls first count
    okOrClamped (clampCount count ≠ count || n < clampCount count) =
      if 1 ≤ count ∧ count ≤ 16 ∧ n = count then .ok else .clamped := by
  obtain ⟨-, most, -⟩ := returned_bounds count inside
  intro n
  refine okOrClamped_eq _ _ ?_
  rw [clampCount_eq]
  simp only [ne_eq, Bool.or_eq_true, decide_eq_true_eq]
  have bound : n ≤ max 1 (min count 16) := most
  omega

section
variable {p : PortId} {k first count : Byte} {cls : ItemClass} {s : State}

theorem exec_readItems {t : State} {a : Answer} (served : Served s p (.readItems p k first count))
    (own : ownReadItems k first count s = (t, a)) : exec (.readItems p k first count) s = .next (sendReply p 0x02 a t) := by
  have taken : requestStep p (.readItems p k first count) s = sendReply p 0x02 a t := by
    have owner : ownerServe (.readItems p k first count) s = (t, a) := own
    rw [requestStep_of_served served, takeHanded, owner]
    rfl
  exact congrArg Host.Outcome.next taken

theorem ownReadItems_of_past (known : classOf k = some cls) (past : classCount cls ≤ first.toNat) :
    ownReadItems k first count s = (s, answer .badItem) := by
  rw [ownReadItems, known]
  exact if_pos past

theorem ownReadItems_of_inside (known : classOf k = some cls) (inside : first.toNat < classCount cls) :
    let n := returned cls first.toNat count.toNat
    ownReadItems k first count s = ({ s with freeSeq := if readsFree cls then s.freeSeq + 1 else s.freeSeq },
      ⟨if 1 ≤ count.toNat ∧ count.toNat ≤ 16 ∧ n = count.toNat then .ok else .clamped,
        [k, first, byteOf n] ++ (List.range n).flatMap fun j => record s cls (first.toNat + j)⟩) := by
  intro n
  have result := readItems_result count.toNat inside
  rw [← result, ownReadItems, known]
  exact if_neg (Nat.not_le.2 inside)

end

/-- Settles O11: the walk by the bounds of the records returned, the records by their fields. -/
theorem readItemsReturnsWholeRecords : Obligations.ReadItemsReturnsWholeRecords := by
  refine ⟨fun p k first count cls s served known => ⟨fun past => ?_, fun inside => ?_⟩,
    fun s cls i inside windows histories levels => record_length inside windows histories levels,
    fun s n => channelRecord_fields (recordAt_fin n fun n => channelRecord s.channels[n]),
    fun s => climateRecord_fields rfl,
    fun s k => consumerRecord_fields (recordAt_fin k _),
    fun s n => sceneRecord_fields (recordAt_fin n fun n => sceneRecord s.light.scenes[n]),
    fun s n => watchRecord_fields (recordAt_fin n fun n => watchRecord s.watches[n]),
    fun s j => ?_,
    fun s => allowanceRecord_fields rfl,
    fun s i few => compressorRecord_fields few (recordAt_fin i _),
    fun s => coverCfgRecord_field rfl,
    fun s g => groupRecord_fields (recordAt_fin g _),
    fun s k => layerRecord_fields (recordAt_fin k _),
    fun s p => portRecord_fields (recordAt_fin p fun p => portRecord s.ports[p]),
    fun s k => countersRecord_fields (recordAt_fin k fun k => countersRecord s.alloc.consumers[k]),
    fun s => limitsRecord_fields rfl,
    fun s => modeRecord_fields rfl,
    fun s => coverRecord_fields rfl⟩
  · exact exec_readItems served (ownReadItems_of_past known past)
  · obtain ⟨one, asked, left, fits, full⟩ := returned_bounds count.toNat inside
    exact ⟨_, _, _, exec_readItems served (ownReadItems_of_inside known inside), one, asked, left, fits, full, rfl⟩
  · rw [← climateCfgHalves_values]
    exact climateCfgRecord_field rfl j

end Sys2Proof.Machine
end

section
/-! The Notice Unit (chapter 9): the filing of notices, and the requests STATUS, TAKE_NOTICES and SET_ACCEPTANCE. -/

namespace Sys2Proof.Machine

/-! ## Filing (R160 to R162) -/

section
variable {n : Notice} {q : NoticeStore}

theorem filterMatches_iff {f : Filter} : filterMatches f n = true ↔
    f.code.toNat ≠ 0 ∧ f.code.toNat = eventCode n.code ∧ (f.subject = 0xFFFF ∨ f.subject.toNat = n.subject) := by
  simp [filterMatches, and_assoc]

theorem enqueue_eq (n : Notice) (q : NoticeStore) : enqueue n q =
    if q.queue.length < 8 then { q with queue := q.queue ++ [n] }
    else { q with queue := q.queue.drop 1 ++ [n], drops := if q.drops < 255 then q.drops + 1 else q.drops } := by
  rw [List.drop_one]
  by_cases room : q.queue.length < 8
  · rw [if_pos room]
    exact if_neg (Nat.not_le.2 room)
  · rw [if_neg room]
    exact if_pos (Nat.not_lt.1 room)

/-- R161: one of the two filters matches the notice. -/
def matched (n : Notice) (q : NoticeStore) : Prop := filterMatches q.filter1 n = true ∨ filterMatches q.filter2 n = true

theorem fileNotice_of_matched (hit : matched n q) :
    fileNotice n q = if q.slot = none then { q with slot := some n } else enqueue n q := by
  rw [fileNotice, if_pos (Bool.or_eq_true_iff.2 hit)]
  cases q.slot <;> rfl

theorem fileNotice_of_unmatched (miss : ¬matched n q) :
    fileNotice n q = if q.acceptance.getLsbD (eventCode n.code) = true then enqueue n q else q :=
  if_neg fun hit => miss (Bool.or_eq_true_iff.1 hit)

end

/-- Settles O14: a posted notice by the ports, its filing by match, slot and acceptance set. -/
theorem noticeFiledByThePortsChoice : Obligations.NoticeFiledByThePortsChoice := by
  refine ⟨fun code subject value s => ⟨rfl, fun p => ?_⟩, fun n q => ?_⟩
  · rw [post_ports, BitVec.ofInt_toInt]
  · simp only [← filterMatches_iff, ← enqueue_eq]
    refine ⟨fun hit free => ?_, fun hit taken => ?_, fun miss accepted => ?_, fun miss left => ?_⟩
    · exact (fileNotice_of_matched hit).trans (if_pos free)
    · exact (fileNotice_of_matched hit).trans (if_neg taken)
    · exact (fileNotice_of_unmatched miss).trans (if_pos accepted)
    · exact (fileNotice_of_unmatched miss).trans (if_neg (by simp [left]))

/-! ## STATUS and TAKE_NOTICES (R163, R166) -/

/-- A request in service ends in the state its owner leaves, with the owner's answer as the reply. -/
theorem requestStep_of_own {p : PortId} {c : Instr} {s t : State} {a : Answer} (served : Served s p c)
    (own : ownerServe c s = (t, a)) : requestStep p c s = sendReply p (requestCode c) a t := by
  rw [requestStep_of_served served, takeHanded, own]

/-- Settles O10: the Notice Unit answers with the payload of Table 11-5 and leaves the state. -/
theorem statusShowsTheRecords : Obligations.StatusShowsTheRecords := fun p s served =>
  have own : ownerServe (.status p) s = (s, ⟨.ok, statusPayload p s⟩) := rfl
  congrArg Host.Outcome.next (requestStep_of_own served own)

/-- A take leaves the slot empty, so the attention line shows the queue alone. -/
theorem attn_afterTake (q : NoticeStore) : attn (afterTake q) = true ↔ q.threshold ≤ q.queue.length - 3 := by
  simp [attn, afterTake]

theorem takePayload_eq (q : NoticeStore) : takePayload q =
    [flagByte q.slot.isSome, byteOf (q.queue.length - 3), byteOf q.drops] ++
      (q.slot.toList ++ q.queue.take 3).flatMap noticeRecord := by
  rw [takePayload, takenNotices, List.length_drop]

/-- Settles O12: the reply by the records taken, the attention line by the store they leave. -/
theorem takeNoticesEmptiesInOrder : Obligations.TakeNoticesEmptiesInOrder := by
  intro p s served q
  have own : ownerServe (.takeNotices p) s =
      (setPort p { q with notices := afterTake q.notices } s, ⟨.ok, takePayload q.notices⟩) := rfl
  rw [takePayload_eq] at own
  exact ⟨congrArg Host.Outcome.next (requestStep_of_own served own), attn_afterTake q.notices⟩

/-! ## SET_ACCEPTANCE (R164) -/

section
variable {p : PortId} {acc : BitVec 64} {f1 f2 : Filter} {th : Byte} {si : Half} {s : State}

theorem filterGood_iff (f : Filter) :
    filterGood f = true ↔ f.code.toNat ≤ 63 ∧ (f.subject.toNat ≤ 255 ∨ f.subject = 0xFFFF) := by
  simp [filterGood]

theorem ownSetAcceptance_of_bad (bad : ¬(filterGood f1 = true ∧ filterGood f2 = true)) :
    ownSetAcceptance p acc f1 f2 th si s = (s, answer .badValue) :=
  if_pos (by rwa [Bool.not_eq_true', Bool.eq_false_iff, ne_eq, Bool.and_eq_true])

theorem ownSetAcceptance_of_good (good : filterGood f1 = true ∧ filterGood f2 = true) :
    ownSetAcceptance p acc f1 f2 th si s =
      if s.store.busy = true then (s, answer .busy)
      else (setPort p { s.ports[p] with
          silence := max 10 (min si.toNat 3600)
          notices := { s.ports[p].notices with
            acceptance := acc, filter1 := f1, filter2 := f2, threshold := max 1 (min th.toNat 8) } } s,
        answer (if 1 ≤ th.toNat ∧ th.toNat ≤ 8 ∧ 10 ≤ si.toNat ∧ si.toNat ≤ 3600 then .ok else .clamped)) := by
  have result : okOrClamped (max 1 (min th.toNat 8) ≠ th.toNat || max 10 (min si.toNat 3600) ≠ si.toNat) =
      if 1 ≤ th.toNat ∧ th.toNat ≤ 8 ∧ 10 ≤ si.toNat ∧ si.toNat ≤ 3600 then .ok else .clamped :=
    okOrClamped_eq _ _ (by simp; omega)
  rw [ownSetAcceptance, if_neg (by simp [good]), clampNat_eq (by decide), clampNat_eq (by decide), ← result]
  rfl

end

theorem exec_setAcceptance {p : PortId} {acc : BitVec 64} {c1 c2 th : Byte} {s1 s2 si : Half} {s t : State} {r : Result}
    (served : Served s p (.setAcceptance p acc c1 s1 c2 s2 th si))
    (own : ownSetAcceptance p acc ⟨c1, s1⟩ ⟨c2, s2⟩ th si s = (t, answer r)) :
    exec (.setAcceptance p acc c1 s1 c2 s2 th si) s = .next (reply p 0x41 r t) :=
  congrArg _ (requestStep_of_answer served own)

/-- Settles O13: the refusals in their order, then the choices replaced. -/
theorem setAcceptanceReplacesTheChoices : Obligations.SetAcceptanceReplacesTheChoices := by
  intro p acc c1 s1 c2 s2 th si s served q good
  have filters : filterGood ⟨c1, s1⟩ = true ∧ filterGood ⟨c2, s2⟩ = true ↔ good := by
    rw [filterGood_iff, filterGood_iff, and_assoc]
  refine ⟨fun bad => ?_, fun fit busy => ?_, fun fit idle => ?_⟩
  · exact exec_setAcceptance served (ownSetAcceptance_of_bad (mt filters.1 bad))
  · exact exec_setAcceptance served ((ownSetAcceptance_of_good (filters.2 fit)).trans (if_pos busy))
  · exact exec_setAcceptance served ((ownSetAcceptance_of_good (filters.2 fit)).trans (if_neg (by simp [idle])))

end Sys2Proof.Machine
end

section
/-! The channels at power-on (R3, R11). -/

namespace Sys2Proof.Machine

section
variable {as bs cs : Vector Channel 16} {n m : ChanId}

/-- R3: the conflict test names the channels below without a conflict flag that have the same kind and zone. -/
theorem conflictBelow_iff : conflictBelow cs n = true ↔ claims cs[n].cfg.kind = true ∧
    ∃ m : ChanId, m < n ∧ cs[m].conflict = false ∧ cs[m].cfg.kind = cs[n].cfg.kind ∧
      cs[m].cfg.zone = cs[n].cfg.zone := by
  simp [conflictBelow, and_assoc]

theorem conflictBelow_congr (own : as[n].cfg = bs[n].cfg) (below : ∀ m : ChanId, m < n → as[m] = bs[m]) :
    conflictBelow as n = conflictBelow bs n := by
  rw [Bool.eq_iff_iff, conflictBelow_iff, conflictBelow_iff, own]
  refine and_congr_right fun _ => exists_congr fun m => and_congr_right fun lower => ?_
  rw [below m lower]

/-- R3, R11: a channel whose conflict test has come out as `conflict`. -/
def testedChannel (conflict : Bool) (c : Channel) : Channel :=
  { c with conflict := conflict, status := if c.cfg.kind = .unused ∨ conflict = true then .unused else .settling }

theorem testedChannel_conflict (conflict : Bool) (c : Channel) : (testedChannel conflict c).conflict = conflict := rfl

theorem startChannel_same (cs : Vector Channel 16) (n : ChanId) :
    (startChannel cs n)[n] = testedChannel (conflictBelow cs n) cs[n] := by
  simp [startChannel, testedChannel]

theorem startChannel_other (h : m ≠ n) : (startChannel cs n)[m] = cs[m] := by
  simp [startChannel, Fin.val_ne_of_ne h.symm]

theorem foldl_startChannel_of_notMem {l : List ChanId} (absent : n ∉ l) :
    (l.foldl startChannel cs)[n] = cs[n] := by
  induction l generalizing cs with
  | nil => rfl
  | cons m l ih =>
    have other : n ≠ m := fun same => absent (same ▸ List.mem_cons_self)
    rw [List.foldl_cons, ih fun mem => absent (List.mem_cons_of_mem _ mem), startChannel_other other]

/-- R3: in ascending order each channel is tested once, when the channels below it have their final flags. -/
theorem foldl_startChannel_of_mem {l : List ChanId} (ascending : l.Pairwise (· < ·)) (mem : n ∈ l) :
    (l.foldl startChannel cs)[n] = testedChannel (conflictBelow (l.foldl startChannel cs) n) cs[n] := by
  induction l generalizing cs with
  | nil => cases mem
  | cons m l ih =>
    obtain ⟨above, ascendingRest⟩ := List.pairwise_cons.1 ascending
    rw [List.foldl_cons]
    by_cases here : n = m
    · subst here
      have later {k : ChanId} (low : k ≤ n) : (l.foldl startChannel (startChannel cs n))[k] = (startChannel cs n)[k] :=
        foldl_startChannel_of_notMem fun mem => absurd (above k mem) (not_lt.2 low)
      have final : conflictBelow (l.foldl startChannel (startChannel cs n)) n = conflictBelow cs n :=
        conflictBelow_congr (by rw [later le_rfl, startChannel_same]; rfl)
          fun k lower => (later lower.le).trans (startChannel_other lower.ne)
      rw [final, later le_rfl, startChannel_same]
    · rw [ih ascendingRest ((List.mem_cons.1 mem).resolve_left here), startChannel_other here]

/-- R3: a channel in conflict with a flagged one is in conflict with the unflagged one that flagged it, so the flags
of the channels below do not count. -/
theorem conflict_iff_of_flags (flags : ∀ k : ChanId, cs[k].conflict = conflictBelow cs k) :
    cs[n].conflict = true ↔ (cs[n].cfg.kind = .airT ∨ cs[n].cfg.kind = .airRh) ∧
      ∃ m : ChanId, m < n ∧ cs[m].cfg.kind = cs[n].cfg.kind ∧ cs[m].cfg.zone = cs[n].cfg.zone := by
  rw [flags n, conflictBelow_iff, claims_iff]
  refine and_congr_right fun _ => ⟨fun ⟨m, lower, _, same⟩ => ⟨m, lower, same⟩, fun ⟨m, lower, kind, zone⟩ => ?_⟩
  cases flagged : cs[m].conflict with
  | false => exact ⟨m, lower, flagged, kind, zone⟩
  | true =>
    obtain ⟨-, k, below, free, sameKind, sameZone⟩ := conflictBelow_iff.1 ((flags m).symm.trans flagged)
    exact ⟨k, below.trans lower, free, sameKind.trans kind, sameZone.trans zone⟩

end

theorem powerOnChannels_getElem (cfgs : Vector ChannelCfg 16) (n : ChanId) :
    (powerOnChannels cfgs)[n] = testedChannel (conflictBelow (powerOnChannels cfgs) n) (loadChannel cfgs[n]) := by
  have loaded : (cfgs.map loadChannel)[n] = loadChannel cfgs[n] := Vector.getElem_map _ _
  rw [← loaded]
  exact foldl_startChannel_of_mem (List.pairwise_lt_finRange 16) (List.mem_finRange n)

theorem powerOnChannels_conflict (cfgs : Vector ChannelCfg 16) (n : ChanId) :
    (powerOnChannels cfgs)[n].conflict = conflictBelow (powerOnChannels cfgs) n := by
  rw [powerOnChannels_getElem, testedChannel_conflict]

/-- R11: a channel starts SETTLING, or UNUSED without a kind or in conflict, with empty counts. -/
theorem testedChannel_loadChannel (conflict : Bool) (cfg : ChannelCfg) :
    let c := testedChannel conflict (loadChannel cfg)
    c.status = (if c.cfg.kind = .unused ∨ c.conflict = true then .unused else .settling) ∧
      c.raw = 0 ∧ c.fast = 0 ∧ c.settled = 0 ∧ c.window = [] ∧ c.rail = 0 ∧ c.settle = 0 :=
  ⟨rfl, rfl, rfl, rfl, rfl, rfl, rfl⟩

theorem powerOnChannels_cfgs (cfgs : Vector ChannelCfg 16) : (powerOnChannels cfgs).map Channel.cfg = cfgs := by
  refine Vector.ext fun i h => ?_
  rw [Vector.getElem_map]
  exact congrArg Channel.cfg (powerOnChannels_getElem cfgs ⟨i, h⟩)

end Sys2Proof.Machine
end

section
/-! The lighting at power-on (R145). -/

namespace Sys2Proof.Machine

/-- R145: the lighting before its start scene is recalled: every group at its floor, no layer filled. -/
def lightBeforeStart (set : Settings) : Lighting :=
  { groups := set.groups.map powerOnGroup, scenes := set.scenes, layers := ⟨none, none, none, none⟩
    startScene := set.startScene, safetyScene := set.safetyScene, grant := 0, capLimit := 1000, appliedCap := 1000 }

/-- R145: what the start scene brings into BASE: it must be defined and permit the start mode. -/
def startStanding (mode : Mode) (l : Lighting) : Option Standing :=
  match l.startScene with
  | some n =>
    if (sceneAt l n).defined = true ∧ permits (sceneAt l n).modes mode = true then some ⟨n, 0⟩ else none
  | none => none

/-- R145: the fade time of what stands in BASE. -/
def standingFade (l : Lighting) (base : Option Standing) : Nat :=
  match base with
  | some st => (sceneAt l st.scene).fade
  | none => 0

theorem startStanding_congr {mode : Mode} {a b : Lighting} (scenes : a.scenes = b.scenes)
    (startScene : a.startScene = b.startScene) : startStanding mode a = startStanding mode b := by
  have sameScenes : sceneAt a = sceneAt b := funext fun n => by rw [sceneAt, scenes, sceneAt]
  unfold startStanding
  rw [startScene, sameScenes]

theorem standingFade_congr {a b : Lighting} (scenes : a.scenes = b.scenes) (base : Option Standing) :
    standingFade a base = standingFade b base := by
  simp only [standingFade, sceneAt, scenes]

/-- R145: with the layers empty, the recall of the start scene fills BASE alone. -/
theorem startScene_eq {mode : Mode} {l : Lighting} (empty : l.layers = ⟨none, none, none, none⟩) :
    startScene mode l = retargetFade (standingFade l (startStanding mode l))
      { l with layers := setLayer .base (startStanding mode l) l.layers } := by
  have unfilled : { l with layers := setLayer .base none l.layers } = l := by rw [empty]; cases l; cases empty; rfl
  obtain named | ⟨n, named⟩ := Option.eq_none_or_eq_some l.startScene
  · have standing : startStanding mode l = none := by rw [startStanding, named]
    rw [standing, unfilled, startScene, named]; rfl
  · have standing : startStanding mode l =
        if (sceneAt l n).defined = true ∧ permits (sceneAt l n).modes mode = true then some ⟨n, 0⟩ else none := by
      rw [startStanding, named]
    by_cases fits : (sceneAt l n).defined = true ∧ permits (sceneAt l n).modes mode = true
    · rw [standing, if_pos fits, startScene, named]
      exact if_pos (Bool.and_eq_true_iff.2 fits)
    · rw [standing, if_neg fits, unfilled, startScene, named]
      exact if_neg (mt Bool.and_eq_true_iff.1 fits)

theorem powerOnLight_eq (set : Settings) : powerOnLight set =
    retargetFade (standingFade (lightBeforeStart set) (startStanding set.startMode (lightBeforeStart set)))
      { lightBeforeStart set with
        layers := ⟨startStanding set.startMode (lightBeforeStart set), none, none, none⟩ } :=
  startScene_eq (l := lightBeforeStart set) rfl

theorem powerOnLight_layers (set : Settings) :
    (powerOnLight set).layers = ⟨startStanding set.startMode (lightBeforeStart set), none, none, none⟩ := by
  rw [powerOnLight_eq]; rfl

/-- R128, R136: the recall leaves the scenes and the start settings. -/
theorem powerOnLight_settings (set : Settings) :
    (powerOnLight set).scenes = set.scenes ∧ (powerOnLight set).startScene = set.startScene ∧
      (powerOnLight set).safetyScene = set.safetyScene ∧ (powerOnLight set).grant = 0 := by
  rw [powerOnLight_eq]; exact ⟨rfl, rfl, rfl, rfl⟩

theorem powerOnLight_retargeted (set : Settings) :
    Retargeted (standingFade (lightBeforeStart set) (startStanding set.startMode (lightBeforeStart set)))
      (lightBeforeStart set) (powerOnLight set) := by
  rw [powerOnLight_eq]
  exact retarget_retargetedBy (fun _ _ => _) (lightBeforeStart set) _

theorem lightBeforeStart_groups (set : Settings) (g : GroupId) :
    (lightBeforeStart set).groups[g] = powerOnGroup set.groups[g] := Vector.getElem_map _ _

theorem powerOnLight_cfg (set : Settings) (g : GroupId) : (powerOnLight set).groups[g].cfg = set.groups[g] := by
  obtain ⟨-, -, -, -, -, -, groups⟩ := powerOnLight_retargeted set
  rw [(groups g).1, lightBeforeStart_groups]; rfl

/-- R145: what the recall makes of the floors is also what it makes of the floors under the cap it ends in. -/
theorem retargeted_atFloors {fade : Nat} {a b : Lighting} (h : Retargeted fade a b)
    (floors : ∀ g : GroupId, a.groups[g] = powerOnGroup a.groups[g].cfg) : Retargeted fade (atFloors b) b := by
  obtain ⟨-, -, -, -, sound, -, groups⟩ := h
  obtain ⟨-, below, -⟩ := id sound
  refine ⟨rfl, rfl, rfl, rfl, sound, (Nat.min_eq_left below).symm, fun g => ?_⟩
  have floored : (atFloors b).groups[g] = powerOnGroup b.groups[g].cfg := by simp [atFloors, powerOnGroup]
  rw [floored, (groups g).1, ← floors g]
  exact ⟨rfl, (groups g).2⟩

theorem powerOnLight_base (set : Settings) :
    (powerOnLight set).layers.base = startStanding set.startMode (powerOnLight set) := by
  obtain ⟨scenes, startScene, -⟩ := powerOnLight_settings set
  rw [powerOnLight_layers, startStanding_congr (b := lightBeforeStart set) scenes startScene]

/-- R145: the start scene fades in from the floors. -/
theorem powerOnLight_fromFloors (set : Settings) :
    Retargeted (standingFade (powerOnLight set) (powerOnLight set).layers.base) (atFloors (powerOnLight set))
      (powerOnLight set) := by
  obtain ⟨scenes, -⟩ := powerOnLight_settings set
  rw [powerOnLight_layers, standingFade_congr (b := lightBeforeStart set) scenes]
  refine retargeted_atFloors (powerOnLight_retargeted set) fun g => ?_
  rw [lightBeforeStart_groups]; rfl

/-! ## The applied levels -/

/-- R137: with no layer filled every group falls to its floor. -/
theorem resolve_of_empty {l : Lighting} (empty : l.layers = ⟨none, none, none, none⟩) (g : Nat) :
    resolve l g = (0, none) := by
  simp [resolve, layerLevel, getLayer, empty]

/-- R141, R142: a request without a grant is capped to the floors. -/
theorem applied_of_ungranted {l : Lighting} (sound : capSound l) (ungranted : l.grant = 0) (request : 0 < requestR l)
    (g : GroupId) : l.groups[g].applied = l.groups[g].cfg.floor := by
  obtain ⟨limit, below, level⟩ := sound
  have basis : 0 < capBasis l := request.trans_le (Nat.le_max_left ..)
  have closed : capLimitOf l = 0 := by
    rw [capLimitOf, if_neg (by omega), ungranted, Nat.mul_zero, Nat.zero_div]
  have cap : l.appliedCap = 0 := by omega
  rw [level, cap, appliedLevel, Nat.mul_zero, Nat.zero_div, Nat.add_zero]

/-- R141: a group that stands at its floor is applied at its floor, whatever the cap. -/
theorem appliedLevel_of_floor {g : Group} (floor : g.current = g.cfg.floor) (cap : Nat) :
    appliedLevel cap g = g.cfg.floor := by
  simp [appliedLevel, floor]

/-- R145: without a start scene every group stays at its floor. -/
theorem powerOnLight_current {set : Settings} (empty : (powerOnLight set).layers.base = none) (g : GroupId) :
    (powerOnLight set).groups[g].current = (powerOnLight set).groups[g].cfg.floor := by
  have layers : (powerOnLight set).layers = ⟨none, none, none, none⟩ := by
    rw [powerOnLight_layers] at empty ⊢
    exact congrArg (Layers.mk · none none none) empty
  obtain ⟨-, -, -, -, -, -, groups⟩ := powerOnLight_retargeted set
  obtain ⟨cfg, target, -, kept, -⟩ := groups g
  rw [resolve_of_empty layers, lightBeforeStart_groups] at target
  rw [lightBeforeStart_groups] at cfg kept
  rw [(kept (target.trans (Nat.zero_max _))).1, cfg]
  rfl

theorem powerOnLight_applied {set : Settings}
    (dark : 0 < requestR (powerOnLight set) ∨ (powerOnLight set).layers.base = none) (g : GroupId) :
    (powerOnLight set).groups[g].applied = (powerOnLight set).groups[g].cfg.floor := by
  have sound := capSound_powerOnLight set
  obtain ⟨-, -, -, ungranted⟩ := powerOnLight_settings set
  rcases dark with request | empty
  · exact applied_of_ungranted sound ungranted request g
  · obtain ⟨-, -, level⟩ := sound
    rw [level, appliedLevel_of_floor (powerOnLight_current empty g)]

end Sys2Proof.Machine
end

section
/-! The ports at power-on (R156, R159, R167, R170). -/

namespace Sys2Proof.Machine

/-! ## Roles by straps (R156) -/

theorem roleAmong_clash (lower : List Role) (r : Role) :
    (roleAmong lower r).2 = decide (r ≠ .observer ∧ r ∈ lower) := by
  unfold roleAmong
  split <;> simp_all

theorem roleAmong_role (lower : List Role) (r : Role) :
    (roleAmong lower r).1 = if (roleAmong lower r).2 = true then .observer else r := by
  unfold roleAmong
  split <;> rfl

theorem role_of_clash {lower : List Role} {r : Role} (clash : (roleAmong lower r).2 = true) :
    (roleAmong lower r).1 = .observer := (roleAmong_role lower r).trans (if_pos clash)

/-- R156: of two ports with one role, the higher-numbered one is a clash. -/
theorem roleAmong_distinct {below lower : List Role} {k r : Role} (mem : k ∈ lower)
    (same : (roleAmong below k).1 = (roleAmong lower r).1) : (roleAmong lower r).1 = .observer := by
  rw [roleAmong_role lower, roleAmong_clash] at same ⊢
  rw [roleAmong_role below] at same
  split_ifs at same ⊢ <;> simp_all

/-! ## The notice of default settings (R170) -/

/-- R170: a port after the start: without a marked image BUILDING holds SETTINGS_DEFAULTED. -/
def toldDefaults (marked : Bool) (q : Port) : Port :=
  { q with notices := { q.notices with
      queue := if marked = true ∨ q.role ≠ .building then [] else [⟨.settingsDefaulted, 0, 0, 0, 0⟩] } }

/-- R167: the default acceptance sets file SETTINGS_DEFAULTED at BUILDING alone. -/
theorem defaultAcceptance_settingsDefaulted (r : Role) :
    (defaultAcceptance r).getLsbD (eventCode .settingsDefaulted) = decide (r = .building) := by
  cases r <;> decide

theorem fileNotice_powerOnPort (lower : List Role) (r : Role) (silence threshold : Nat) :
    let q := powerOnPort lower r silence threshold
    { q with notices := fileNotice ⟨.settingsDefaulted, 0, 0, 0, 0⟩ q.notices } = toldDefaults false q := by
  intro q
  have unfiltered : ¬matched ⟨.settingsDefaulted, 0, 0, 0, 0⟩ q.notices := by
    simp [matched, q, powerOnPort, filterMatches]
  have accepts : q.notices.acceptance.getLsbD (eventCode .settingsDefaulted) = decide (q.role = .building) :=
    defaultAcceptance_settingsDefaulted _
  rw [fileNotice_of_unmatched unfiltered, accepts, toldDefaults]
  by_cases building : q.role = .building
  · simp only [building, decide_true, if_true]; rfl
  · simp only [building, decide_false, ne_eq, not_false_eq_true, or_true, if_true]; rfl

end Sys2Proof.Machine
end

section
/-! Power-on (R170): the settings it starts with, the records it leaves, and the state after reset. -/

namespace Sys2Proof.Machine

theorem powerOnPorts_getElem (r0 r1 r2 : Role) (set : Settings) (q : PortId) :
    ∃ lower r, (powerOnPorts r0 r1 r2 set)[q] = powerOnPort lower r set.silence[q] set.threshold[q] := by
  match q with
  | 0 | 1 | 2 => exact ⟨_, _, rfl⟩

theorem toldDefaults_marked {q : Port} (empty : q.notices.queue = []) : toldDefaults true q = q := by
  rw [toldDefaults, if_pos (.inl rfl), ← empty]

/-- R170: the part after the start under the settings `set`, with the notice of default settings filed. -/
def startedPart (r0 r1 r2 : Role) (set : Settings) (s : State) : State :=
  { powerOnRecords r0 r1 r2 set s with ports := (powerOnPorts r0 r1 r2 set).map (toldDefaults s.store.marked) }

section
variable (r0 r1 r2 : Role) (set : Settings) (s : State)

theorem startedPart_channels : (startedPart r0 r1 r2 set s).channels = powerOnChannels set.channels := rfl

theorem startedPart_port (q : PortId) :
    (startedPart r0 r1 r2 set s).ports[q] = toldDefaults s.store.marked (powerOnPorts r0 r1 r2 set)[q] :=
  Vector.getElem_map ..

theorem startedPart_port_cases (q : PortId) : ∃ lower r, (startedPart r0 r1 r2 set s).ports[q] =
    toldDefaults s.store.marked (powerOnPort lower r set.silence[q] set.threshold[q]) := by
  obtain ⟨lower, r, port⟩ := powerOnPorts_getElem r0 r1 r2 set q
  exact ⟨lower, r, (startedPart_port ..).trans (congrArg _ port)⟩

theorem startedPart_watch (i : Fin 8) :
    (startedPart r0 r1 r2 set s).watches[i] = ⟨set.watches[i], false, false, false⟩ := Vector.getElem_map ..

theorem startedPart_inForce (k : Fin 4) :
    (startedPart r0 r1 r2 set s).alloc.inForce[k] = set.limits[k].value := Vector.getElem_map ..

theorem startedPart_comp (i : CompId) : (startedPart r0 r1 r2 set s).seq.comps[i] =
    powerOnComp (minOffFloor (startedPart r0 r1 r2 set s)) set.comps[i] := by
  rw [minOffFloor, limitInForce, startedPart_inForce]
  exact Vector.getElem_map ..

theorem powerOnRecords_of_marked (marked : s.store.marked = true) :
    powerOnRecords r0 r1 r2 set s = startedPart r0 r1 r2 set s := by
  have ports : powerOnPorts r0 r1 r2 set = (powerOnPorts r0 r1 r2 set).map (toldDefaults s.store.marked) := by
    refine Vector.ext fun i h => ?_
    obtain ⟨lower, r, port⟩ := powerOnPorts_getElem r0 r1 r2 set ⟨i, h⟩
    rw [Vector.getElem_map, marked]
    exact (toldDefaults_marked (congrArg (fun q => q.notices.queue) port)).symm
  rw [startedPart, ← ports]; rfl

theorem post_settingsDefaulted_of_unmarked (unmarked : s.store.marked = false) :
    post .settingsDefaulted 0 0 (powerOnRecords r0 r1 r2 set s) = startedPart r0 r1 r2 set s := by
  have ports : (post .settingsDefaulted 0 0 (powerOnRecords r0 r1 r2 set s)).ports =
      (powerOnPorts r0 r1 r2 set).map (toldDefaults s.store.marked) := by
    refine Vector.ext fun i h => (post_ports _ _ _ _ ⟨i, h⟩).trans ?_
    obtain ⟨lower, r, port⟩ := powerOnPorts_getElem r0 r1 r2 set ⟨i, h⟩
    rw [Vector.getElem_map, unmarked]
    refine Eq.trans ?_ (congrArg (toldDefaults false) port).symm
    rw [← fileNotice_powerOnPort, ← port]
    rfl
  rw [startedPart, ← ports]; rfl

end

theorem powerUp_eq (a b c : BitVec 2) (s : State) :
    powerUp a b c s = startedPart (roleOf a) (roleOf b) (roleOf c) (startSettings s.store) s := by
  unfold powerUp
  cases marked : s.store.marked with
  | true => exact powerOnRecords_of_marked _ _ _ _ s marked
  | false => exact post_settingsDefaulted_of_unmarked _ _ _ _ s marked

theorem exec_powerOn (a b c : BitVec 2) (s : State) : exec (.powerOn a b c) s =
    .next (startedPart (roleOf a) (roleOf b) (roleOf c) (startSettings s.store) s) :=
  congrArg Host.Outcome.next (powerUp_eq a b c s)

/-! ## The working settings (R168, R170) -/

section
variable (r0 r1 r2 : Role) (set : Settings) (s : State)

/-- R170: every working setting is the one of the start. -/
theorem workingSettings_startedPart : workingSettings (startedPart r0 r1 r2 set s) = set := by
  obtain ⟨scenes, startScene, safetyScene, -⟩ := powerOnLight_settings set
  have channels := powerOnChannels_cfgs set.channels
  have watches : (startedPart r0 r1 r2 set s).watches.map Watch.cfg = set.watches :=
    Vector.ext fun i h => (Vector.getElem_map ..).trans (congrArg Watch.cfg (startedPart_watch r0 r1 r2 set s ⟨i, h⟩))
  have comps : (startedPart r0 r1 r2 set s).seq.comps.map Compressor.cfg = set.comps :=
    Vector.ext fun i h =>
      (Vector.getElem_map ..).trans (congrArg Compressor.cfg (startedPart_comp r0 r1 r2 set s ⟨i, h⟩))
  have groups : (powerOnLight set).groups.map Group.cfg = set.groups :=
    Vector.ext fun i h => (Vector.getElem_map ..).trans (powerOnLight_cfg set ⟨i, h⟩)
  have silence : (startedPart r0 r1 r2 set s).ports.map Port.silence = set.silence := by
    refine Vector.ext fun i h => (Vector.getElem_map ..).trans ?_
    obtain ⟨lower, r, port⟩ := startedPart_port_cases r0 r1 r2 set s ⟨i, h⟩
    exact congrArg Port.silence port
  have threshold : ((startedPart r0 r1 r2 set s).ports.map fun q => q.notices.threshold) = set.threshold := by
    refine Vector.ext fun i h => (Vector.getElem_map ..).trans ?_
    obtain ⟨lower, r, port⟩ := startedPart_port_cases r0 r1 r2 set s ⟨i, h⟩
    exact congrArg (fun q => q.notices.threshold) port
  unfold workingSettings
  rw [watches, comps, silence, threshold]
  simp only [startedPart, powerOnRecords, channels, groups, scenes, startScene, safetyScene]

end

/-- Settles O34: the store's image is the settings as they stood, and a power-on starts on a marked image. -/
theorem storedSettingsSurvivePowerOn : Obligations.StoredSettingsSurvivePowerOn := by
  intro p strap0 strap1 strap2 s t u served idle noRestart taken completed v marker image
  obtain ⟨request, ending, -⟩ := storeAndRestartRequests
  have began := (request p s served).symm.trans taken
  rw [if_neg (by simp [idle, noRestart])] at began
  obtain rfl := Host.Outcome.next.inj began
  have ended := ((ending 0 _ (by simp [reply])).1 rfl).symm.trans completed
  obtain rfl := Host.Outcome.next.inj ended
  have started : startSettings v.store = workingSettings s := by
    rw [startSettings, marker, image]
    simp [reply]
  exact ⟨_, exec_powerOn strap0 strap1 strap2 v, (workingSettings_startedPart ..).trans started⟩

/-! ## The state after reset (R170) -/

theorem powerUp_reset : powerUp 0 1 2 State.reset = State.reset := by decide +kernel

/-- Settles O60: reset is what a first power-on leaves, and a power-on meets every invariant. -/
theorem resetMeetsTheInvariants : Obligations.ResetMeetsTheInvariants := by
  have ports := portsSound_powerUp 0 1 2 State.reset
  have plant := plantHeld_kept.powerUp 0 1 2 State.reset
  have release := releaseHeld_powerUp 0 1 2 State.reset
  have cap := capHeld_powerUp 0 1 2 State.reset
  have starts := startsHeld_powerUp 0 1 2 State.reset
  have search := searchHeld_powerUp 0 1 2 State.reset
  rw [powerUp_reset] at ports plant release cap starts search
  exact ⟨fun p => (ports p).1, fun p => (ports p).2, plant, release, cap, starts, search,
    congrArg Host.Outcome.next powerUp_reset⟩

end Sys2Proof.Machine
end

section
/-! What a power-on leaves (R170): roles by straps, and every record in its state at the start. -/

namespace Sys2Proof.Machine

section
variable (r0 r1 r2 : Role) (set : Settings) (s : State)

/-! ## Roles (R156) -/

theorem startedPart_role (q : PortId) : (startedPart r0 r1 r2 set s).ports[q].role =
    if (startedPart r0 r1 r2 set s).ports[q].clash = true then .observer
    else (startedPart r0 r1 r2 set s).ports[q].strapped := by
  obtain ⟨lower, r, port⟩ := startedPart_port_cases r0 r1 r2 set s q
  rw [port]
  exact roleAmong_role lower r

theorem startedPart_strapped :
    (startedPart r0 r1 r2 set s).ports[0].strapped = r0 ∧ (startedPart r0 r1 r2 set s).ports[1].strapped = r1 ∧
      (startedPart r0 r1 r2 set s).ports[2].strapped = r2 := by
  have strapped (q : PortId) := congrArg Port.strapped (startedPart_port r0 r1 r2 set s q)
  exact ⟨strapped 0, strapped 1, strapped 2⟩

theorem startedPart_clash :
    (startedPart r0 r1 r2 set s).ports[0].clash = false ∧
      (startedPart r0 r1 r2 set s).ports[1].clash = decide (r1 ≠ .observer ∧ r1 = r0) ∧
      (startedPart r0 r1 r2 set s).ports[2].clash = decide (r2 ≠ .observer ∧ (r2 = r0 ∨ r2 = r1)) := by
  have clash (q : PortId) := congrArg Port.clash (startedPart_port r0 r1 r2 set s q)
  refine ⟨(clash 0).trans ((roleAmong_clash [] r0).trans (decide_eq_false fun taken => ?_)),
    (clash 1).trans ((roleAmong_clash [r0] r1).trans (decide_eq_decide.2 (and_congr_right' List.mem_singleton))),
    (clash 2).trans ((roleAmong_clash [r0, r1] r2).trans (decide_eq_decide.2 (and_congr_right' List.mem_pair)))⟩
  exact List.not_mem_nil taken.2

/-- R156: no two ports have one role but OBSERVER, since the higher-numbered one has yielded it. -/
theorem startedPart_roles_distinct {q r : PortId} (ne : q ≠ r)
    (same : (startedPart r0 r1 r2 set s).ports[q].role = (startedPart r0 r1 r2 set s).ports[r].role) :
    (startedPart r0 r1 r2 set s).ports[q].role = .observer := by
  have role (q : PortId) := congrArg Port.role (startedPart_port r0 r1 r2 set s q)
  have yields01 : (roleAmong [] r0).1 = (roleAmong [r0] r1).1 → (roleAmong [r0] r1).1 = .observer :=
    roleAmong_distinct List.mem_cons_self
  have yields02 : (roleAmong [] r0).1 = (roleAmong [r0, r1] r2).1 → (roleAmong [r0, r1] r2).1 = .observer :=
    roleAmong_distinct List.mem_cons_self
  have yields12 : (roleAmong [r0] r1).1 = (roleAmong [r0, r1] r2).1 → (roleAmong [r0, r1] r2).1 = .observer :=
    roleAmong_distinct (by simp)
  rw [role q, role r] at same
  rw [role q]
  match q, r with
  | 0, 0 | 1, 1 | 2, 2 => exact absurd rfl ne
  | 0, 1 => exact same.trans (yields01 same)
  | 0, 2 => exact same.trans (yields02 same)
  | 1, 2 => exact same.trans (yields12 same)
  | 1, 0 => exact yields01 same.symm
  | 2, 0 => exact yields02 same.symm
  | 2, 1 => exact yields12 same.symm

end

/-- Settles O35: the fixed values are those after reset; settings, channels, lighting and ports follow their rules. -/
theorem powerOnFormsThePart : Obligations.PowerOnFormsThePart := by
  intro a b c s
  have brought := exec_powerOn a b c s
  generalize start : startSettings s.store = set at brought
  generalize roleOf a = r0, roleOf b = r1, roleOf c = r2 at *
  have settings := (workingSettings_startedPart r0 r1 r2 set s).trans start.symm
  have layers := powerOnLight_layers set
  obtain ⟨-, -, -, ungranted⟩ := powerOnLight_settings set
  have role := startedPart_role r0 r1 r2 set s
  obtain ⟨strap0, strap1, strap2⟩ := startedPart_strapped r0 r1 r2 set s
  obtain ⟨clash0, clash1, clash2⟩ := startedPart_clash r0 r1 r2 set s
  refine ⟨startedPart r0 r1 r2 set s, brought, rfl, rfl, rfl, rfl, rfl, rfl, rfl, rfl, rfl, settings,
    rfl, rfl, rfl, rfl, rfl, rfl, rfl, rfl, rfl, rfl, rfl, rfl, rfl, rfl, ?heaters, ?comps, rfl, rfl, rfl, ?watches,
    ?safety, ?showing, ?work, powerOnLight_base set, powerOnLight_fromFloors set, ungranted, powerOnLight_applied,
    rfl, ?consumers, startedPart_inForce r0 r1 r2 set s, ?channels, strap0, strap1, strap2,
    ?role0, clash0, clash1, ?role1, clash2, ?role2, ?ports, fun _ _ => startedPart_roles_distinct r0 r1 r2 set s⟩
  case heaters => exact fun h => by match h with | 0 | 1 | 2 => rfl
  case comps => exact fun i => by rw [startedPart_comp, powerOnComp, Nat.mul_comm]
  case watches => exact fun i => by rw [startedPart_watch]; exact ⟨rfl, rfl, rfl⟩
  case safety => exact congrArg Layers.safety layers
  case showing => exact congrArg Layers.showing layers
  case work => exact congrArg Layers.work layers
  case consumers => exact fun k => by match k with | 0 | 1 | 2 | 3 | 4 | 5 | 6 | 7 => rfl
  case channels =>
    intro n
    have conflict := conflict_iff_of_flags (n := n) (powerOnChannels_conflict set.channels)
    have fields := testedChannel_loadChannel (conflictBelow (powerOnChannels set.channels) n) set.channels[n]
    rw [← powerOnChannels_getElem] at fields
    rw [startedPart_channels]
    generalize powerOnChannels set.channels = cs at conflict fields ⊢
    obtain ⟨status, counts⟩ := fields
    exact ⟨status, conflict, counts⟩
  case role0 => exact (role 0).trans ((if_neg (Bool.eq_false_iff.1 clash0)).trans strap0)
  case role1 => exact (role 1).trans (if_congr Iff.rfl rfl strap1)
  case role2 => exact (role 2).trans (if_congr Iff.rfl rfl strap2)
  case ports =>
    intro q
    obtain ⟨lower, r, port⟩ := startedPart_port_cases r0 r1 r2 set s q
    obtain ⟨-, presence⟩ := portSound_powerOnPort lower r set.silence[q] set.threshold[q]
    simp only [port]
    refine ⟨rfl, rfl, presence, role_of_clash, rfl, fun held => ?_, rfl, rfl, rfl, rfl, fun observer => if_pos observer,
      rfl, rfl, rfl, rfl, rfl, rfl⟩
    rw [Nat.mul_comm]
    exact if_neg held

end Sys2Proof.Machine
end

section
/-! The step (sections 1.6.3 and 1.6.4 of spec/00_scope.md): the command it takes, and what passing ticks do to part
time and to the timers. -/

namespace Sys2Proof.Machine

/-! ## The command a step takes -/

theorem step_of_pending {c : Instr} {rest : List Instr} {s : State} (queue : s.pending = c :: rest) :
    step s = exec c { s with pending := rest } := by rw [step, queue]

theorem step_of_due {c : Instr} {s : State} (empty : s.pending = []) (due : dueEvent s = some c) :
    step s = exec c s := by rw [step, empty, due]

theorem step_of_nothing_due {s : State} (empty : s.pending = []) (due : dueEvent s = none) :
    step s = .next (elapse 1 s) := by rw [step, empty, due]

/-! ## Part time while ticks pass -/

section
variable (k : Nat) (s : State)

theorem elapse_tick_lt (below : s.tick < 100) : (elapse k s).tick < 100 := by
  unfold elapse
  split
  · exact below
  · exact Nat.mod_lt _ (by decide)

/-- PT and tick are one count of ticks, and 429496729600 of them, 2 ^ 32 seconds, bring it round (log 18). -/
theorem elapse_counts_ticks : (100 * (elapse k s).pt.toNat + (elapse k s).tick) % 429496729600 =
    (100 * s.pt.toNat + s.tick + k) % 429496729600 := by
  unfold elapse
  split
  next zero => rw [zero, Nat.add_zero]
  next =>
    simp only [BitVec.toNat_add, BitVec.toNat_ofNat, Config.ticksPerSecond]
    omega

/-! ## Timers while ticks pass -/

@[simp] theorem ageTimer_zero (t : Option Nat) : ageTimer 0 t = t := congrFun Option.map_id t

theorem elapse_timers : (elapse k s).timers = ageTimers k s.timers := by
  unfold elapse
  split
  next zero => subst zero; rfl
  next => rfl

theorem elapse_search : (elapse k s).search = s.search.map fun r => { r with stepLeft := r.stepLeft - k } := by
  unfold elapse
  split
  next zero => subst zero; exact (congrFun Option.map_id s.search).symm
  next => rfl

/-- Of the Sequencer, part time moves the compressors' timers, its own two and the interlock time. -/
theorem elapse_seq : (elapse k s).seq = { s.seq with
    comps := (elapse k s).seq.comps
    lossTimer := ageTimer k s.seq.lossTimer
    failTimer := ageTimer k s.seq.failTimer
    interlockTicks := if s.seq.interlock.active = true then s.seq.interlockTicks + k else s.seq.interlockTicks } := by
  by_cases zero : k = 0
  · subst zero
    simp
  · rw [elapse, if_neg zero]

theorem elapse_compTimers (i : CompId) : (elapse k s).seq.comps[i] = { s.seq.comps[i] with
    offTimer := ageTimer k s.seq.comps[i].offTimer, onTimer := ageTimer k s.seq.comps[i].onTimer } := by
  rw [elapse_comps]
  split
  next zero => rw [zero, ageTimer_zero, ageTimer_zero]
  next => rfl

theorem elapse_silenceTimer (p : PortId) : (elapse k s).ports[p] =
    { s.ports[p] with silenceTimer := ageTimer k s.ports[p].silenceTimer } := by
  rw [elapse_ports]
  split
  next zero => rw [zero, ageTimer_zero]
  next => rfl

theorem elapse_moves_time_and_timers : elapse k s = { s with
    pt := (elapse k s).pt, tick := (elapse k s).tick, timers := (elapse k s).timers, search := (elapse k s).search
    seq := (elapse k s).seq, ports := (elapse k s).ports, store := (elapse k s).store } := by
  unfold elapse
  split <;> rfl

end

/-- Settles O1: the step by its queue and the due event, and each record that passing ticks move. -/
theorem stepRunsFrontCommand : Obligations.StepRunsFrontCommand := by
  refine ⟨fun _ _ _ => step_of_pending, fun _ _ => step_of_due, fun _ => step_of_nothing_due, fun k s below => ?_⟩
  exact ⟨elapse_tick_lt k s below, elapse_counts_ticks k s, elapse_timers k s, elapse_search k s, elapse_seq k s,
    elapse_compTimers k s, elapse_silenceTimer k s, elapse_store k s, elapse_moves_time_and_timers k s⟩

end Sys2Proof.Machine
end
